-- ==== Sys2Proof/Word.lean ====
section
/-! DEFINITION. The word types of the TK34: a byte of a frame or of the image (R36, R193), a four-bit station field of character 2 (R36) and the 32-bit line order count (R39). -/

namespace Sys2Proof

/-- One character of a frame, or one byte of the parameter image (R36, Table 11-1). -/
abbrev Byte := BitVec 8

/-- A four-bit station field of character 2 (Table 2-2). Stations are 1 to 14; 15 is the target "all stations"; 0 is no station. -/
abbrev Addr := BitVec 4

/-- A value of the 32-bit line order count (R39). -/
abbrev Stamp := BitVec 32

end Sys2Proof
end

