-- ==== Sys2Proof/Config.lean ====
section
/-! DEFINITION. What is fixed for the part: the unit of time, the timer lengths the rules name, the capacities, and the two choices of the model (the tick, and the bounds on the consequences handled in one step and on the reports that follow one write). -/

namespace Sys2Proof.Config

/-! Times are whole microseconds: 12 bit times of 1/9600 s are exactly 1250 of them (R31, R32). -/

/-- One millisecond. -/
def ms : Nat := 1000
/-- One second. -/
def sec : Nat := 1000000
/-- DESIGN CHOICE (notes/assumptions/1): how far an idle step moves the clock when no timer is due: the unit of the model's time, fine enough for the levels of one bit of the line. -/
def tick : Nat := 1
/-- DESIGN CHOICE (notes/assumptions/2): how many internal consequences one step handles before it carries the rest to the next step. -/
def settleBound : Nat := 256

/-- DESIGN CHOICE (notes/assumptions/2): how many reports of WATCH_STATES and CONDITION_FLAGS one write may lead to before the next is left to the consequences. -/
def reportBound : Nat := 16

/-- 12 bit times, the idle gap (R32). -/
def idleGap : Nat := 1250
/-- 2 ms of dominance switch the driver off (R53). -/
def stuckShort : Nat := 2 * ms
/-- 1 s of dominance enters STUCK (R53). -/
def stuckLong : Nat := sec
/-- STATUS period (R43). -/
def statusPeriod : Nat := sec
/-- A record becomes STALE 3 s after its last valid frame (R46). -/
def staleAge : Nat := 3 * sec
/-- A record becomes LOST 10 s after its last valid frame (R46). -/
def lostAge : Nat := 10 * sec
/-- Expiry timer of a peer pending claim (R49). -/
def pendingLife : Nat := sec
/-- Alone timer (R54). -/
def aloneTime : Nat := 10 * sec
/-- Recessive time that makes the line good (R55). -/
def lineGoodTime : Nat := 100 * ms
/-- Return listen timer (R55). -/
def returnListen : Nat := 2 * sec
/-- Listen timer (R192). -/
def listenTime : Nat := 2 * sec
/-- Sample timer (R7). -/
def sampleTime : Nat := sec
/-- Sensor hold timer (R10). -/
def sensorHold : Nat := 60 * sec
/-- Bin timer (R12). -/
def binTime : Nat := 2 * sec
/-- Ejector home and paddle qualification (R13, R124). -/
def switchTime : Nat := 20 * ms
/-- Leak qualification (R14). -/
def leakTime : Nat := 5 * sec
/-- Cutout qualification (R15). -/
def cutoutTime : Nat := 200 * ms
/-- Shed delay (R70). -/
def shedDelay : Nat := 500 * ms
/-- Re-claim timer (R77). -/
def reclaimTime : Nat := 5 * sec
/-- Abandon timer of a DH suspension record (R76). -/
def abandonDh : Nat := 1800 * sec
/-- Abandon timer of a harvest suspension record (R76). -/
def abandonMold : Nat := 1200 * sec
/-- Retry time base and step per unit of the own address (R67). -/
def retryBase : Nat := 2 * sec
def retryStep : Nat := 250 * ms
/-- Hour timer and retry gap (R88, R89). -/
def hour : Nat := 3600 * sec
/-- Answer timer (R103). -/
def answerTime : Nat := 2 * sec
/-- Speed timer (R103). -/
def speedTime : Nat := 180 * sec
/-- Hold retry timer (R104). -/
def holdRetry : Nat := 600 * sec
/-- Repeat timer and dwell timer (R106, R107). -/
def minute : Nat := 60 * sec
/-- Drip and fan timers (R114, R115). -/
def dripTime : Nat := 300 * sec
/-- Fill limit, in milliseconds of valve-open time (R121). -/
def fillLimitMs : Nat := 15000
/-- Dispense limit timer (R127). -/
def dispenseTime : Nat := 120 * sec
/-- Settling timer (R130). -/
def settlingTime : Nat := 3 * sec
/-- Silence timer (R133). -/
def silenceTime : Nat := 3 * sec
/-- Estimate timer (R133). -/
def estimateTime : Nat := 100 * ms
/-- Length of an opening after which R is measured, and the window of P (R132). -/
def rateWindow : Nat := 2 * sec
/-- All-closed timer and runaway hold timer (R137). -/
def closedTime : Nat := 2 * sec
/-- Least freeze timer, and the same after a short fill (R143). -/
def leastFreeze : Nat := 2400 * sec
def leastFreezeShort : Nat := 1800 * sec
/-- Timed freeze timer (R143). -/
def timedFreeze : Nat := 5400 * sec
/-- Eject timer (R148). -/
def ejectTime : Nat := 30 * sec
/-- Stall wait timer (R149). -/
def stallWait : Nat := 120 * sec
/-- Notice repeat timer (R173). -/
def noticeRepeat : Nat := 10 * sec
/-- Auger run timer (section 7.9, R157). -/
def augerRun : Nat := 60 * sec

/-- Capacity of the transmit queue (section 2.3). -/
def queueCapacity : Nat := 6
/-- A frame whose retry count reaches this is not sent (R35). -/
def maxTries : Nat := 4
/-- Min gap and max gap in hours (R89, R91). -/
def minGap : Nat := 6
def maxGap : Nat := 72
/-- Lowest and highest defrost threshold (R82). -/
def thresholdLow : Nat := 1200
def thresholdHigh : Nat := 12000
/-- Door allowances of R84. -/
def freezerDoorAllowance : Nat := 4
def fridgeDoorAllowance : Nat := 8
/-- One mixing step draws 10 mL (R135); the closed watch reports at 20 mL (R137); both in 1/256 mL. -/
def mixVolume : Nat := 2560
def runawayVolume : Nat := 5120
/-- OVERTEMP limits of R171, in 0.1 °C. -/
def evapOverTemp : Int := 450
def moldOverTemp : Int := 300

end Sys2Proof.Config
end

