-- ==== Sys2Proof/Syntax.lean ====
section
/-! DEFINITION. The commands of the part: one constructor of `Instr` for each row of spec/opcode_table.json, with the operands that the row's rule reads from outside the part. -/

namespace Sys2Proof

/-- The four thermistor channels (Table 1-4). -/
inductive Channel where
  | evap | freezerAir | moldA | moldB
deriving DecidableEq, Repr

/-- The two molds (section 7.1). -/
inductive Mold where
  | a | b
deriving DecidableEq, Repr

/-- The claimable operations (R57). -/
inductive LoadOp where
  | dh | mha | mhb | aug
deriving DecidableEq, Repr

/-- A grant entry of a STATUS payload: class 0 to 7 and amps 0 to 255 (Table 2-3). -/
structure GrantItem where
  cls  : BitVec 3
  amps : Byte
deriving DecidableEq, Repr

/-- A quantity item of a STATUS payload: tag and 16-bit value (Table 2-3). -/
structure QuantityItem where
  tag   : Byte
  value : BitVec 16
deriving DecidableEq, Repr

/-- The header of a REQUEST frame heard with the part's own address (`broadcast = false`) or 15 (`broadcast = true`) as target, and its argument bytes (Table 2-3). The request kind is the command itself. -/
structure Request where
  src       : Addr
  broadcast : Bool
  cond      : Byte
  seq       : Byte
  args      : List Byte
deriving DecidableEq, Repr

/-- The strap pins (section 11.2). -/
structure Straps where
  vs0  : Bool
  vs1  : Bool
  imen : Bool
  fast : Bool
deriving DecidableEq, Repr

/-- What the image read in progress brings (R193): an acknowledge to the address byte sent, or the next image bytes, and it goes on; a missing acknowledge to the address byte sent, and it fails; the image bytes still to come, and it ends. -/
inductive ImageRead where
  | acknowledged
  | arrived (image : List Byte)
  | failed
  | bytes (image : List Byte)
deriving DecidableEq, Repr

/-- The commands of the part, one per row of spec/opcode_table.json, in the table's order. -/
inductive Instr where
  /-- SUPPLY_FALL. `retentionLost`: the supply fell so far that the retention domain lost its contents (R191). -/
  | supplyFall (retentionLost : Bool)
  /-- SUPPLY_GOOD. The straps as read, and after how many driven clock pulses the data line reads high (0: it reads high at once; above 9: it stays low) (R191, R193). -/
  | supplyGood (straps : Straps) (sdaLowPulses : Nat)
  /-- IMAGE_READ (R193, R194). -/
  | imageRead (read : ImageRead)
  /-- CLOCK_HELD_LOW_TIMEOUT (R193). -/
  | clockHeldLowTimeout
  /-- LISTEN_TIMER_EXPIRY (R192). -/
  | listenTimerExpiry
  /-- RESTART_RESET, with the straps and data line as SUPPLY_GOOD has them (R187, R193). -/
  | restartReset (straps : Straps) (sdaLowPulses : Nat)
  /-- TRANSMISSION_START (R33). -/
  | transmissionStart
  /-- LOST_ARBITRATION (R34). -/
  | lostArbitration
  /-- BIT_ERROR (R35). -/
  | bitError
  /-- FRAME_SENT (R35). -/
  | frameSent
  /-- STATUS_FRAME_RECEIVED: sender, grant entries, quantity items (R47). -/
  | statusFrameReceived (src : Addr) (grants : List GrantItem) (items : List QuantityItem)
  /-- CLAIM_FRAME_RECEIVED: sender, claim tag, class, amps (R49). -/
  | claimFrameReceived (src : Addr) (tag : Byte) (cls : BitVec 3) (amps : Byte)
  /-- RELEASE_FRAME_RECEIVED: sender, claim tag (R49). -/
  | releaseFrameReceived (src : Addr) (tag : Byte)
  /-- NOTICE_FRAME_RECEIVED: sender, fault code, fault class (R50). -/
  | noticeFrameReceived (src : Addr) (code : Byte) (cls : Byte)
  /-- ANSWER_FRAME_RECEIVED: sender, request kind, sequence tag, result code (R103). -/
  | answerFrameReceived (src : Addr) (kind : Byte) (seq : Byte) (result : Byte)
  /-- UNCONSUMED_FRAME: sender (R40). -/
  | unconsumedFrame (src : Addr)
  /-- DISCARDED_FRAME: the characters heard, and whether a framing error closed the frame (R38). -/
  | discardedFrame (chars : List Byte) (framing : Bool)
  /-- FOREIGN_FRAME_OWN_ADDRESS (R39). -/
  | foreignFrameOwnAddress
  /-- STATUS_PERIOD_EXPIRY (R43). -/
  | statusPeriodExpiry
  /-- STUCK_TIMER_2MS (R53). -/
  | stuckTimer2ms
  /-- STUCK_TIMER_1S (R53). -/
  | stuckTimer1s
  /-- LINE_RECESSIVE_12_BITS (R53). -/
  | lineRecessive12Bits
  /-- LINE_GOOD_TIMER (R55). -/
  | lineGoodTimer
  /-- ALONE_TIMER_EXPIRY (R54). -/
  | aloneTimerExpiry
  /-- RETURN_LISTEN_EXPIRY (R55). -/
  | returnListenExpiry
  /-- AGE_STALE of one station's record (R46). -/
  | ageStale (station : Addr)
  /-- AGE_LOST of one station's record (R46). -/
  | ageLost (station : Addr)
  /-- PENDING_CLAIM_EXPIRY of one station's claim tag (R49). -/
  | pendingClaimExpiry (station : Addr) (tag : Byte)
  /-- CLAIM_RETRY_TIME of one operation's claim entry (R62). -/
  | claimRetryTime (op : LoadOp)
  /-- CLAIM_WINDOW_EXPIRY (R66). -/
  | claimWindowExpiry
  /-- SHED_DELAY_EXPIRY (R71). -/
  | shedDelayExpiry
  /-- RECLAIM_TIMER_EXPIRY (R77). -/
  | reclaimTimerExpiry
  /-- ABANDON_TIMER_EXPIRY of one operation's suspension record (R79). -/
  | abandonTimerExpiry (op : LoadOp)
  /-- FROST_SECOND_EXPIRY (R83). -/
  | frostSecondExpiry
  /-- HOUR_TIMER_EXPIRY (R88). -/
  | hourTimerExpiry
  /-- RETRY_TIMER_EXPIRY (R89). -/
  | retryTimerExpiry
  /-- ANSWER_TIMER_EXPIRY (R104). -/
  | answerTimerExpiry
  /-- SPEED_TIMER_EXPIRY (R104). -/
  | speedTimerExpiry
  /-- REPEAT_TIMER_EXPIRY (R106). -/
  | repeatTimerExpiry
  /-- HOLD_RETRY_EXPIRY (R104). -/
  | holdRetryExpiry
  /-- INHIBIT_TIMER_EXPIRY (R102). -/
  | inhibitTimerExpiry
  /-- DWELL_TIMER_EXPIRY (R107). -/
  | dwellTimerExpiry
  /-- HEATING_SECOND_EXPIRY (R110). -/
  | heatingSecondExpiry
  /-- DRIP_TIMER_EXPIRY (R114). -/
  | dripTimerExpiry
  /-- FAN_TIMER_EXPIRY (R115). -/
  | fanTimerExpiry
  /-- WATCH_DELAY_EXPIRY of one watch point (R19). -/
  | watchDelayExpiry (point : Fin 16)
  /-- SAMPLE of one thermistor channel, with its 12-bit raw reading (R7). -/
  | sample (channel : Channel) (raw : BitVec 12)
  /-- CHANNEL_HOLD_EXPIRY of one thermistor channel (R11). -/
  | channelHoldExpiry (channel : Channel)
  /-- BIN_INPUT_CHANGE: the raw bin arm input is now up or down (R12). -/
  | binInputChange (up : Bool)
  /-- BIN_TIMER_EXPIRY (R12). -/
  | binTimerExpiry
  /-- HOME_SWITCH_CHANGE: a mold's raw home switch is now closed (at home) or open (R13). -/
  | homeSwitchChange (mold : Mold) (closed : Bool)
  /-- HOME_TIMER_EXPIRY of one mold's home switch (R13). -/
  | homeTimerExpiry (mold : Mold)
  /-- LEAK_INPUT_CHANGE: the raw leak reading is now wet or dry (R14). -/
  | leakInputChange (wet : Bool)
  /-- LEAK_TIMER_EXPIRY (R14). -/
  | leakTimerExpiry
  /-- CUTOUT_INPUT_CHANGE: the raw cutout contacts now read open or closed (R15). -/
  | cutoutInputChange (contactsOpen : Bool)
  /-- CUTOUT_TIMER_EXPIRY (R15). -/
  | cutoutTimerExpiry
  /-- PADDLE_LINE_CHANGE: the raw direct paddle line is now low or high (R124). -/
  | paddleLineChange (low : Bool)
  /-- PADDLE_TIMER_EXPIRY (R124). -/
  | paddleTimerExpiry
  /-- METER_PULSE (R131). -/
  | meterPulse
  /-- FILL_LIMIT_EXPIRY (R122). -/
  | fillLimitExpiry
  /-- DISPENSE_LIMIT_EXPIRY (R129). -/
  | dispenseLimitExpiry
  /-- SETTLING_TIMER_EXPIRY (R130). -/
  | settlingTimerExpiry
  /-- SILENCE_TIMER_EXPIRY (R133). -/
  | silenceTimerExpiry
  /-- ESTIMATE_TIMER_EXPIRY (R133). -/
  | estimateTimerExpiry
  /-- RELAXATION_EXPIRY (R136). -/
  | relaxationExpiry
  /-- ALL_CLOSED_EXPIRY (R137). -/
  | allClosedExpiry
  /-- RUNAWAY_HOLD_EXPIRY (R137). -/
  | runawayHoldExpiry
  /-- FILL_RETRY_EXPIRY of one mold (R142). -/
  | fillRetryExpiry (mold : Mold)
  /-- LEAST_FREEZE_EXPIRY of one mold (R143). -/
  | leastFreezeExpiry (mold : Mold)
  /-- TIMED_FREEZE_EXPIRY of one mold (R143). -/
  | timedFreezeExpiry (mold : Mold)
  /-- HEATER_SECOND_EXPIRY of one mold (R147). -/
  | heaterSecondExpiry (mold : Mold)
  /-- EJECT_TIMER_EXPIRY of one mold (R149). -/
  | ejectTimerExpiry (mold : Mold)
  /-- STALL_WAIT_EXPIRY of one mold (R149). -/
  | stallWaitExpiry (mold : Mold)
  /-- AUGER_RUN_EXPIRY (R158). -/
  | augerRunExpiry
  /-- PHASE_TIMER_EXPIRY of one pattern generator (R168). -/
  | phaseTimerExpiry (generator : Fin 4)
  /-- NOTICE_REPEAT_EXPIRY (R173). -/
  | noticeRepeatExpiry
  /-- REQUEST_UNKNOWN_KIND: a REQUEST of the given kind, outside codes 1 to 16 (R181). -/
  | requestUnknownKind (kind : Byte) (req : Request)
  /-- DISPENSE_WATER (R126). -/
  | dispenseWater (req : Request)
  /-- DISPENSE_STOP (R129). -/
  | dispenseStop (req : Request)
  /-- DISPENSE_ICE (R157). -/
  | dispenseIce (req : Request)
  /-- ICE_STOP (R158). -/
  | iceStop (req : Request)
  /-- DEFROST_NOW (R187). -/
  | defrostNow (req : Request)
  /-- DEFROST_INHIBIT (R102). -/
  | defrostInhibit (req : Request)
  /-- MOLD_ENABLE (R155). -/
  | moldEnable (req : Request)
  /-- SET_MODE (R188). -/
  | setMode (req : Request)
  /-- CLEAR_FAULT (R178). -/
  | clearFault (req : Request)
  /-- CLEAR_WATCH (R20). -/
  | clearWatch (req : Request)
  /-- FORCE_WATCH (R24). -/
  | forceWatch (req : Request)
  /-- READ_QUANTITY (R186). -/
  | readQuantity (req : Request)
  /-- PUBLISH_NOW (R187). -/
  | publishNow (req : Request)
  /-- FORGET_STATION (R51). -/
  | forgetStation (req : Request)
  /-- TEST_OUTPUT (R164). -/
  | testOutput (req : Request)
  /-- RESTART (R187). -/
  | restart (req : Request)
  /-- LINE_LEVEL_CHANGE outside a frame: the line is now dominant or recessive (R53). -/
  | lineLevelChange (dominant : Bool)
deriving DecidableEq, Repr

end Sys2Proof
end

