-- ==== Sys2Proof/Machine/Types.lean ====
section
/-! DEFINITION. The records and name sets of which State is made, block by block (Table 0-1). -/

namespace Sys2Proof.Machine

/-- A timer: stopped, or running with the moment (in microseconds of `State.now`) at which it expires (section 0.4, Time and events). -/
abbrev Timer := Option Nat

/-- One value for each thermistor channel. -/
structure PerChannel (α : Type) where
  evap       : α
  freezerAir : α
  moldA      : α
  moldB      : α
deriving DecidableEq, Repr

/-- One value for each mold. -/
structure PerMold (α : Type) where
  a : α
  b : α
deriving DecidableEq, Repr

/-! ### Quantities (Chapter 1) -/

/-- The own tags of Table 1-2, in tag order from 0x10. -/
inductive OwnTag where
  | evapTemp | freezerAirTemp | moldATemp | moldBTemp | reservoirEst | frostIndex | defrostThreshold
  | defrostState | moldAState | moldBState | waterPathState | dispensedVolume | conditionFlags
  | faultAFlags | faultBFlags | lastEvent | mode | watchStates | hoursSinceDefrost
deriving DecidableEq, Repr

/-- A watch source or reference: an own tag, or a (station, tag) pair (R16). -/
inductive Source where
  | own (tag : OwnTag)
  | peer (station : Addr) (tag : Byte)
deriving DecidableEq, Repr

inductive Sense where
  | above | below
deriving DecidableEq, Repr

/-- Entry actions (R26). -/
inductive EntryAction where
  | none
  | writeFrostIndex (value : Nat)
  | defrostDemand
  | sendNotice
deriving DecidableEq, Repr

/-- While-active actions (R27). -/
inductive WhileAction where
  | none | suspendHarvest | limitDispense
deriving DecidableEq, Repr

/-- Tracking configuration: the reference (absent when the image names none the part knows) and the signed offset (R16, R17). -/
structure Tracking where
  reference : Option Source
  offset    : Int
deriving DecidableEq, Repr

/-- The configuration fields of a watch point record (Table 1-7). Delays are in seconds. -/
structure WatchConfig where
  source     : Option Source
  sense      : Sense
  threshold  : Int
  tracking   : Option Tracking
  hysteresis : Nat
  makeDelay  : Nat
  breakDelay : Nat
  latch      : Bool
  inhibit    : Bool
  entry      : EntryAction
  whileAct   : WhileAction
deriving DecidableEq, Repr

inductive Condition where
  | unknown | isTrue | isFalse
deriving DecidableEq, Repr

inductive Computed where
  | inactive | making | active | breaking | latched | inhibited
deriving DecidableEq, Repr

/-- The delay timer of a watch point: stopped, running to a moment, or paused with the time remaining (Table 1-7, R22). -/
inductive DelayTimer where
  | stopped
  | running (deadline : Nat)
  | paused (remaining : Nat)
deriving DecidableEq, Repr

inductive Forced where
  | none | active | inactive
deriving DecidableEq, Repr

/-- The state fields of a watch point record (Table 1-7). `threshold` is the last value computed by R17 for a tracking point; a fixed threshold stays in the configuration. -/
structure WatchPoint where
  condition : Condition
  computed  : Computed
  delay     : DelayTimer
  threshold : Int
  known     : Bool
  forced    : Forced
deriving DecidableEq, Repr

inductive ChannelState where
  | starting | normal | holding | substituted
deriving DecidableEq, Repr

/-- A thermistor channel (section 1.2). The last good value is the value of the channel's own tag while NORMAL or HOLDING. -/
structure ChannelRecord where
  state    : ChannelState
  badCount : Nat
  hold     : Timer
  sample   : Timer
deriving DecidableEq, Repr

/-- A qualified switch input: its qualified state and its qualification timer (section 1.3, R124). -/
structure Qualified where
  level : Bool
  timer : Timer
deriving DecidableEq, Repr

/-- The switch inputs: bin FULL, home HOME, leak WET, cutout TRIPPED, paddle line low, each `true` when so (R12 to R15, R124). -/
structure Switches where
  bin    : Qualified
  home   : PerMold Qualified
  leak   : Qualified
  cutout : Qualified
  paddle : Qualified
deriving DecidableEq, Repr

/-- The quantity store: the own quantities, their changed marks (R4, R6). -/
structure Store where
  values  : Vector Int 19
  changed : Vector Bool 19
deriving DecidableEq, Repr

/-! ### The cabinet line and the station view (Chapter 2) -/

inductive Freshness where
  | fresh | stale | lost
deriving DecidableEq, Repr

/-- A peer's pending claim (Table 2-5, R49). `expires` is the moment its 1 s expiry timer runs out. -/
structure PendingClaim where
  tag     : Byte
  cls     : Nat
  amps    : Nat
  stamp   : Stamp
  expires : Nat
deriving DecidableEq, Repr

/-- A grant as the part counts it: class and amps. -/
structure Load where
  cls  : Nat
  amps : Nat
deriving DecidableEq, Repr

/-- A station record (Table 2-5). `heard` is the moment of the last valid frame, from which the age timer runs. A quantity is valid exactly when it is listed (R3); the list is in rising tag order. -/
structure StationRecord where
  freshness  : Freshness
  heard      : Nat
  grants     : Option (List Load)
  claims     : List PendingClaim
  quantities : List (Byte × Int)
  notice     : Option (Byte × Byte)
deriving DecidableEq, Repr

inductive LineMode where
  | normal | heldOff | stuck
deriving DecidableEq, Repr

/-- A STATUS payload as assembled at the start of an attempt (R44). -/
structure StatusPayload where
  grants : List Load
  items  : List (OwnTag × Int)
deriving DecidableEq, Repr

/-- What a queued frame carries (Table 2-3). A STATUS has its payload only from the start of an attempt (R44). `restart` marks the ANSWER to a RESTART (R187). -/
inductive FrameBody where
  | status (payload : Option StatusPayload)
  | claim (tag : Byte) (cls amps : Nat)
  | release (tag : Byte)
  | request (kind cond seq : Byte) (args : List Byte)
  | answer (kind seq result : Byte) (bytes : List Byte) (restart : Bool)
  | notice (code cls : Byte)
deriving DecidableEq, Repr

/-- A frame of the transmit queue: its target, frame class, content, retry count, and whether it is in transmission (section 2.3, R35, R37). -/
structure TxFrame where
  target  : Addr
  cls     : Nat
  body    : FrameBody
  retries : Nat
  sending : Bool
deriving DecidableEq, Repr

/-- The receive framer (R32): it waits for the idle gap, ignoring the line (`gap`); it waits on an idle line for a start bit (`start`); a frame is in progress, and the next falling edge is its next character (`next`); a character is being taken, with the moment of its falling edge and the levels sampled after its start bit, true for recessive (`character`); the frame has reached its expected length (`whole`). `chars` are the characters taken so far. -/
inductive Framer where
  | gap
  | start
  | next (chars : List Byte)
  | character (chars : List Byte) (edge : Nat) (levels : List Bool)
  | whole (chars : List Byte)
deriving DecidableEq, Repr

/-- The line interface (R32, R39, R41 to R43, R52 to R55). `clearing` are the tags whose changed marks the STATUS in transmission removes when it is sent. `recessive` is the moment the line will have been recessive for 12 bit times; `txEnd` the moment the frame in transmission ends if nothing disturbs it; `heard` are the frames that the framer has taken whole, oldest first, until a step carries out what they are (notes/assumptions/51). -/
structure Line where
  mode         : LineMode
  driver       : Bool
  queue        : List TxFrame
  statusOwed   : Bool
  period       : Timer
  orderCount   : Stamp
  stuckShort   : Timer
  stuckLong    : Timer
  recessive    : Timer
  idle         : Bool
  txEnd        : Timer
  island       : Bool
  alone        : Timer
  lineGood     : Bool
  goodTimer    : Timer
  returnListen : Timer
  rotation     : Option OwnTag
  clearing     : List OwnTag
  framer       : Framer
  heard        : List (List Byte)
deriving DecidableEq, Repr

/-! ### The share unit (Chapter 3) -/

inductive Duty where
  | full | half
deriving DecidableEq, Repr

/-- The phase of a shed harvest (R150). -/
inductive HarvestPhase where
  | heat | eject
deriving DecidableEq, Repr

/-- The saved context of a suspension record (R76). -/
inductive SavedContext where
  | defrost (tEq2 : Nat) (duty : Duty)
  | harvest (seconds : Nat) (phase : HarvestPhase)
deriving DecidableEq, Repr

/-- An entry of the own grant list; `op = none` is BASELINE (R57). -/
structure Grant where
  op   : Option LoadOp
  cls  : Nat
  amps : Nat
  tag  : Byte
deriving DecidableEq, Repr

/-- A claim entry of the claim queue (R59, R62). -/
structure ClaimEntry where
  op      : LoadOp
  cls     : Nat
  amps    : Nat
  asked   : Nat
  retryAt : Timer
  reclaim : Bool
deriving DecidableEq, Repr

/-- Whether the CLAIM has been sent; if so, its stamp and the expiry of its window (section 3.3). -/
inductive ClaimPhase where
  | offered
  | opened (stamp : Stamp) (window : Nat)
deriving DecidableEq, Repr

/-- The claim in flight (section 3.3). `lateAsk` is an ask (amps, time) that arrived while the claim was marked cancelled (R68). -/
structure Claim where
  op        : LoadOp
  tag       : Byte
  cls       : Nat
  amps      : Nat
  asked     : Nat
  phase     : ClaimPhase
  cancelled : Bool
  reclaim   : Bool
  nextAsk   : Option Nat
  lateAsk   : Option (Nat × Nat)
deriving DecidableEq, Repr

/-- A suspension record (R76). -/
structure Suspension where
  op      : LoadOp
  cls     : Nat
  amps    : Nat
  context : SavedContext
  since   : Nat
  abandon : Nat
deriving DecidableEq, Repr

/-- The share unit (Table 3-3). -/
structure Share where
  grants     : List Grant
  queue      : List ClaimEntry
  flight     : Option Claim
  tagCounter : Byte
  suspended  : List Suspension
  reclaim    : Timer
  shedDelay  : Timer
  dhClass    : Nat
  dhRefusals : Nat
deriving DecidableEq, Repr

/-! ### Frost accountant and defrost controller (Chapters 4 and 5) -/

inductive GapState where
  | minGap | retryWait | retryOpen
deriving DecidableEq, Repr

/-- The frost accountant (Table 4-1). -/
structure Frost where
  f             : Nat
  t             : Nat
  hours         : Nat
  gap           : GapState
  hourTimer     : Timer
  retryTimer    : Timer
  secondTimer   : Timer
  seconds       : Nat
  r             : Nat
  dz            : Nat
  dr            : Nat
  h             : Nat
  freezerMark   : Bool
  fridgeMark    : Bool
deriving DecidableEq, Repr

inductive DefrostState where
  | idle | pending | holdWait | pumpDown | heatClaim | heating | paused | drip | recovery
deriving DecidableEq, Repr

inductive HoldState where
  | none | asked | held | unconfirmed | refused
deriving DecidableEq, Repr

/-- The defrost record (Table 5-2). -/
structure Defrost where
  state       : DefrostState
  hold        : HoldState
  attempts    : Nat
  outstanding : Option Byte
  answered    : Bool
  duty        : Duty
  tEq2        : Nat
  heatSeconds : Nat
  seqCounter  : Byte
  answer      : Timer
  speed       : Timer
  holdRetry   : Timer
  renew       : Timer
  dwell       : Timer
  heatSecond  : Timer
  drip        : Timer
  fan         : Timer
  inhibit     : Timer
deriving DecidableEq, Repr

/-! ### Water path (Chapter 6) -/

inductive PathState where
  | idle | dispensing | filling | settling | locked
deriving DecidableEq, Repr

/-- A fill: mold, owed volume in 1/256 mL, attempt, and valve-open time in ms used before the present opening (Table 6-2). -/
structure Fill where
  mold    : Mold
  owed    : Nat
  attempt : Nat
  openMs  : Nat
deriving DecidableEq, Repr

inductive DispenseOwner where
  | panel | line
deriving DecidableEq, Repr

/-- The dispense record (Table 6-2). Volumes in 1/256 mL. -/
structure Dispense where
  owner     : DispenseOwner
  limit     : Nat
  capped    : Bool
  counted   : Nat
  panelHold : Bool
deriving DecidableEq, Repr

/-- The water path record (Table 6-2). `openedAt` and `pulses` are the start and the pulse moments of the present opening (R132). -/
structure Water where
  path          : PathState
  queue         : List Fill
  current       : Option Fill
  held          : Option Fill
  dispense      : Option Dispense
  lineHold      : Bool
  estimated     : Bool
  rate          : Nat
  openedAt      : Nat
  pulses        : List Nat
  silence       : Timer
  estimate      : Timer
  draw          : Nat
  allClosed     : Timer
  armed         : Bool
  closedVolume  : Nat
  runawayHold   : Timer
  tRes          : Int
  fillLimit     : Timer
  dispenseLimit : Timer
  settling      : Timer
  relaxation    : Timer
deriving DecidableEq, Repr

/-! ### Ice controller (Chapter 7) -/

inductive MoldState where
  | outOfService | fillWait | filling | freezing | harvestPending | harvestClaim | harvestHeat | eject | stallWait
deriving DecidableEq, Repr

/-- A mold record (Table 7-3). -/
structure MoldRecord where
  state       : MoldState
  suspended   : Bool
  short       : Bool
  owed        : Nat
  attempt     : Nat
  heatSeconds : Nat
  leaveSeen   : Bool
  resumeEject : Bool
  stalls      : Nat
  fillRetry   : Timer
  leastFreeze : Timer
  timedFreeze : Timer
  heatSecond  : Timer
  eject       : Timer
  stallWait   : Timer
deriving DecidableEq, Repr

inductive AugerState where
  | idle | claiming | running
deriving DecidableEq, Repr

/-- The ice controller: two mold records and the auger state with its run timer. -/
structure Ice where
  molds    : PerMold MoldRecord
  auger    : AugerState
  runTimer : Timer
deriving DecidableEq, Repr

/-! ### Outputs (Chapter 8) -/

/-- The load outputs in index order (Table 8-1). -/
inductive Output where
  | dh | dr | ef | mha | mhb | eja | ejb | aug | fva | fvb | dv | lmp
deriving DecidableEq, Repr

/-- A job command, layer result or resolved value: OFF, ON or PATTERN(n) (section 8.1). -/
inductive Drive where
  | off | on
  | pattern (n : Fin 4)
deriving DecidableEq, Repr

/-- A test value (section 8.1); `follow i` names an input of Table 8-2. -/
inductive TestValue where
  | none | off | on
  | pattern (n : Fin 4)
  | follow (i : Fin 6)
deriving DecidableEq, Repr

/-- An output channel: job command, test value, layer result, resolved value (section 8.1). -/
structure OutputChannel where
  job      : Drive
  test     : TestValue
  layer    : Drive
  resolved : Drive
deriving DecidableEq, Repr

/-- The state of a pattern generator; CYCLING is split into its two phases (R168). -/
inductive GenPhase where
  | idle | pullIn | onPhase | offPhase
deriving DecidableEq, Repr

structure Generator where
  phase : GenPhase
  timer : Timer
deriving DecidableEq, Repr

/-- The output block: the channels, the valves held by the valve interlock in the order they were held (R167), and the generators. -/
structure Outputs where
  channels : Vector OutputChannel 12
  held     : List Output
  gens     : Vector Generator 4
deriving DecidableEq, Repr

/-! ### Faults, modes, start-up, pins (Chapters 9 to 11) -/

/-- The faults of Table 9-1, in code order. -/
inductive FaultId where
  | leak | runaway | overtemp
  | sensorEvap | sensorFreezer | sensorMoldA | sensorMoldB | flowSilent | noWater | ejectorStall
  | defrostOvertime | holdRefused | linkStuck | addressClash | imageDefaulted
deriving DecidableEq, Repr

/-- The fault detail record (Table 9-2): the fault and the values captured. -/
structure Detail where
  fault     : FaultId
  seconds   : Nat
  defrost   : Int
  moldA     : Int
  moldB     : Int
  path      : Int
  f         : Nat
  lastEvent : Int
deriving DecidableEq, Repr

/-- The fault unit. `keptA`: a class A flag was kept through the reset that began this start (R180). -/
structure FaultUnit where
  aFlags      : BitVec 16
  bFlags      : BitVec 16
  record      : Option Detail
  noticeTimer : Timer
  keptA       : Bool
deriving DecidableEq, Repr

inductive OpMode where
  | normal | sabbath | service | showroom
deriving DecidableEq, Repr

inductive StartState where
  | powerUp | imageLoad | listen | run
deriving DecidableEq, Repr

inductive ResetKind where
  | powerOn | brownOut | restart
deriving DecidableEq, Repr

/-- The progress of a RESTART request (R187): none, its ANSWER still to be reported, or the reset due. -/
inductive RestartPhase where
  | none | answering | due
deriving DecidableEq, Repr

/-- The memory port (R193): at rest or reading. -/
inductive PortState where
  | rest | reading
deriving DecidableEq, Repr

/-- What the part does on the memory port (R193): a clock pulse of the bus clear; a start, a repeated start, a stop; the device address 0x50 for reading or writing; a word address; one byte taken, with or without an acknowledge. -/
inductive PortSignal where
  | pulse
  | start
  | repeatedStart
  | stop
  | device (read : Bool)
  | word (address : Byte)
  | take (acknowledged : Bool)
deriving DecidableEq, Repr

/-- The start-up block (R191 to R194). `interrupted` is the mark of R98; `runSince` the moment of the entry to RUN, from which the time-since-start count runs; `clearPulses` the clock pulses driven by the last bus clear; `acked` and `arrived` the address bytes acknowledged and the image bytes taken in the last read; `sent` what the part has done on the port since the entry to IMAGE_LOAD. -/
structure StartUp where
  state       : StartState
  mark        : Bool
  kind        : ResetKind
  listenTimer : Timer
  runSince    : Nat
  restart     : RestartPhase
  interrupted : Bool
  port        : PortState
  clearPulses : Nat
  acked       : Nat
  arrived     : Nat
  sent        : List PortSignal
deriving DecidableEq, Repr

/-- The raw levels of the input pins (Table 11-4). `true`: bin arm up, home switch closed, leak wet, cutout contacts open, paddle line low, cabinet line dominant. `sdaLowPulses` as in SUPPLY_GOOD. -/
structure Pins where
  thermistor   : PerChannel (BitVec 12)
  bin          : Bool
  home         : PerMold Bool
  leak         : Bool
  cutout       : Bool
  paddle       : Bool
  line         : Bool
  straps       : Straps
  sdaLowPulses : Nat
deriving DecidableEq, Repr

/-! ### The parameter image (Table 11-1) -/

inductive SourceSelect where
  | panel | line | either | both
deriving DecidableEq, Repr

inductive EdgeSelect where
  | falling | rising | levelLow
deriving DecidableEq, Repr

/-- Pattern generator parameters: pull-in and period in ms, on-time in percent (section 8.3). -/
structure GenParams where
  pullIn : Nat
  period : Nat
  onTime : Nat
deriving DecidableEq, Repr

/-- The decoded parameter image (Table 11-1). -/
structure Image where
  ownAddress       : Addr
  compressor       : Addr
  doorReporter     : Addr
  panel            : Addr
  budget           : Nat
  islandAllowance  : Nat
  unknownAllowance : Nat
  baseline         : Nat
  dhAmps           : Nat
  mhaAmps          : Nat
  mhbAmps          : Nat
  augAmps          : Nat
  claimWindowMs    : Nat
  initialThreshold : Nat
  table            : List (Nat × Int)
  substitutes      : PerChannel Int
  gens             : Vector GenParams 4
  meterK           : Nat
  nominalFlow      : Nat
  tIn              : Int
  vRes             : Nat
  fillTargetMl     : Nat
  source           : SourceSelect
  edge             : EdgeSelect
  lampFollow       : Bool
  publish          : Vector Bool 19
  watch            : Vector WatchConfig 16
deriving DecidableEq, Repr

/-- A consequence inside the part still to be carried out in the event in hand: a watch point's effective entry to ACTIVE, the end of its being active (R25), or a temperature detection of OVERTEMP (R171). -/
inductive Signal where
  | watchEntered (point : Fin 16)
  | watchLeft (point : Fin 16)
  | overtemp
deriving DecidableEq, Repr

end Sys2Proof.Machine
end

