-- ==== Sys2Proof/Machine/Operands.lean ====
section
/-! DEFINITION. The numbers and tables by which the rules name things: tag codes and types (Tables 1-1, 1-2), state codes (Table 1-3), outputs (Table 8-1), faults (Table 9-1), request kinds and result codes (Tables 10-1, 10-2), and the argument bytes of a request. -/

namespace Sys2Proof.Machine

/-! ### Lookup by channel and mold -/

def PerChannel.get {α : Type} (p : PerChannel α) : Channel → α
  | .evap => p.evap
  | .freezerAir => p.freezerAir
  | .moldA => p.moldA
  | .moldB => p.moldB

def PerChannel.set {α : Type} (p : PerChannel α) (c : Channel) (x : α) : PerChannel α :=
  match c with
  | .evap => { p with evap := x }
  | .freezerAir => { p with freezerAir := x }
  | .moldA => { p with moldA := x }
  | .moldB => { p with moldB := x }

def PerMold.get {α : Type} (p : PerMold α) : Mold → α
  | .a => p.a
  | .b => p.b

def PerMold.set {α : Type} (p : PerMold α) (m : Mold) (x : α) : PerMold α :=
  match m with
  | .a => { p with a := x }
  | .b => { p with b := x }

/-! ### Own tags (Table 1-2) -/

/-- The place of an own tag in the store: its tag is 0x10 plus this. -/
def OwnTag.idx : OwnTag → Fin 19
  | .evapTemp => 0 | .freezerAirTemp => 1 | .moldATemp => 2 | .moldBTemp => 3 | .reservoirEst => 4
  | .frostIndex => 5 | .defrostThreshold => 6 | .defrostState => 7 | .moldAState => 8 | .moldBState => 9
  | .waterPathState => 10 | .dispensedVolume => 11 | .conditionFlags => 12 | .faultAFlags => 13
  | .faultBFlags => 14 | .lastEvent => 15 | .mode => 16 | .watchStates => 17 | .hoursSinceDefrost => 18

/-- The own tags in ascending tag order. -/
def ownTags : List OwnTag :=
  [.evapTemp, .freezerAirTemp, .moldATemp, .moldBTemp, .reservoirEst, .frostIndex, .defrostThreshold,
   .defrostState, .moldAState, .moldBState, .waterPathState, .dispensedVolume, .conditionFlags,
   .faultAFlags, .faultBFlags, .lastEvent, .mode, .watchStates, .hoursSinceDefrost]

/-- The tag byte of an own tag. -/
def OwnTag.code (t : OwnTag) : Nat := 0x10 + t.idx.val

/-- The own tag with a given tag byte, if Table 1-2 has it. -/
def ownTagOf (code : Nat) : Option OwnTag := ownTags.find? (fun t => t.code == code)

/-- The signed own tags of Table 1-2. -/
def OwnTag.signed : OwnTag → Bool
  | .evapTemp | .freezerAirTemp | .moldATemp | .moldBTemp | .reservoirEst => true
  | _ => false

/-- Shared tags (Table 1-1). -/
def tagCompressorSpeed : Byte := 0x01
def tagDoorFreezer : Byte := 0x02
def tagDoorFridge : Byte := 0x03
def tagAmbientTemp : Byte := 0x04
def tagAmbientRh : Byte := 0x05
def tagFridgeAirTemp : Byte := 0x06
def tagPaddleWater : Byte := 0x08
def tagPaddleIce : Byte := 0x09

/-- A tag byte of Table 1-1. -/
def isSharedTag (tag : Byte) : Bool := decide (1 ≤ tag.toNat) && decide (tag.toNat ≤ 9)

/-- A tag byte of Table 1-1 or Table 1-2 (R1). -/
def isKnownTag (tag : Byte) : Bool := isSharedTag tag || (ownTagOf tag.toNat).isSome

/-- Whether a tag of the catalogue is signed (R1, Tables 1-1 and 1-2). -/
def tagSigned (tag : Byte) : Bool :=
  if isSharedTag tag then tag == tagAmbientTemp || tag == tagFridgeAirTemp || tag == (0x07 : Byte)
  else match ownTagOf tag.toNat with
    | some t => t.signed
    | none => false

/-- A 16-bit value read in the type of a tag (R1). -/
def readValue (signed : Bool) (v : BitVec 16) : Int := if signed then v.toInt else (v.toNat : Int)

/-- The 16-bit form in which a value is sent (R1). -/
def sendValue (v : Int) : BitVec 16 := BitVec.ofInt 16 v

/-- The type of a source (R17). -/
def Source.signed : Source → Bool
  | .own t => t.signed
  | .peer _ tag => tagSigned tag

/-! ### State codes (Table 1-3) -/

def DefrostState.code : DefrostState → Nat
  | .idle => 0 | .pending => 1 | .holdWait => 2 | .pumpDown => 3 | .heatClaim => 4 | .heating => 5
  | .paused => 6 | .drip => 7 | .recovery => 8

def MoldState.code : MoldState → Nat
  | .outOfService => 0 | .fillWait => 1 | .filling => 2 | .freezing => 3 | .harvestPending => 4
  | .harvestClaim => 5 | .harvestHeat => 6 | .eject => 7 | .stallWait => 8

def PathState.code : PathState → Nat
  | .idle => 0 | .dispensing => 1 | .filling => 2 | .settling => 3 | .locked => 4

def OpMode.code : OpMode → Nat
  | .normal => 0 | .sabbath => 1 | .service => 2 | .showroom => 3

def opModeOf : Nat → Option OpMode
  | 0 => some .normal
  | 1 => some .sabbath
  | 2 => some .service
  | 3 => some .showroom
  | _ => none

/-- MOLD_A_STATE and MOLD_B_STATE carry the state code plus 256 while short (R5). -/
def MoldRecord.tagValue (r : MoldRecord) : Int := (r.state.code : Int) + if r.short then 256 else 0

/-- LAST_EVENT codes (Table 1-3): AUGER_STOPPED, and no event since power-on. -/
def eventAugerStopped : Int := 0x40
def eventNone : Int := 0xFF

/-! ### Outputs (Table 8-1) -/

def channels : List Channel := [.evap, .freezerAir, .moldA, .moldB]

/-- The sensor channel that writes an own tag, if one does (Table 1-2). -/
def OwnTag.channel : OwnTag → Option Channel
  | .evapTemp => some .evap | .freezerAirTemp => some .freezerAir
  | .moldATemp => some .moldA | .moldBTemp => some .moldB
  | _ => none

def Output.idx : Output → Fin 12
  | .dh => 0 | .dr => 1 | .ef => 2 | .mha => 3 | .mhb => 4 | .eja => 5 | .ejb => 6 | .aug => 7
  | .fva => 8 | .fvb => 9 | .dv => 10 | .lmp => 11

def outputs : List Output := [.dh, .dr, .ef, .mha, .mhb, .eja, .ejb, .aug, .fva, .fvb, .dv, .lmp]

def outputOf (n : Nat) : Option Output := outputs[n]?

/-- The valves, in index order. -/
def valves : List Output := [.fva, .fvb, .dv]

def Output.isValve : Output → Bool
  | .fva | .fvb | .dv => true
  | _ => false

/-- The outputs with a SAFETY layer (Table 8-1, R163). -/
def Output.hasSafety : Output → Bool
  | .dh | .dr | .mha | .mhb | .aug | .fva | .fvb | .dv => true
  | _ => false

/-- The claimable outputs (Table 8-1). -/
def Output.claimable : Output → Bool
  | .dh | .mha | .mhb | .aug => true
  | _ => false

end Sys2Proof.Machine

namespace Sys2Proof

open Machine

/-! ### Resources (Tables 1-4, 3-2, 7-1) -/

def Channel.tag : Channel → OwnTag
  | .evap => .evapTemp | .freezerAir => .freezerAirTemp | .moldA => .moldATemp | .moldB => .moldBTemp

def Channel.fault : Channel → FaultId
  | .evap => .sensorEvap | .freezerAir => .sensorFreezer | .moldA => .sensorMoldA | .moldB => .sensorMoldB

def Mold.heater : Mold → Output
  | .a => .mha | .b => .mhb

def Mold.ejector : Mold → Output
  | .a => .eja | .b => .ejb

def Mold.valve : Mold → Output
  | .a => .fva | .b => .fvb

def Mold.op : Mold → LoadOp
  | .a => .mha | .b => .mhb

def Mold.channel : Mold → Channel
  | .a => .moldA | .b => .moldB

def Mold.tag : Mold → OwnTag
  | .a => .moldAState | .b => .moldBState

/-- W1 or W2: the mold's freeze reached point (Table 7-1). -/
def Mold.freezePoint : Mold → Fin 16
  | .a => 1 | .b => 2

/-- W3 or W4: the mold's release point (Table 7-1). -/
def Mold.releasePoint : Mold → Fin 16
  | .a => 3 | .b => 4

def LoadOp.mold : LoadOp → Option Mold
  | .mha => some .a
  | .mhb => some .b
  | _ => none

/-- The base class of a claimable operation (R58). -/
def LoadOp.baseClass : LoadOp → Nat
  | .dh => 3 | .mha => 2 | .mhb => 2 | .aug => 1

/-- The abandon time of a suspension record (R76). -/
def LoadOp.abandonTime : LoadOp → Nat
  | .dh => Config.abandonDh
  | _ => Config.abandonMold

end Sys2Proof

namespace Sys2Proof.Machine

/-! ### Faults (Table 9-1) -/

def faultIds : List FaultId :=
  [.leak, .runaway, .overtemp, .sensorEvap, .sensorFreezer, .sensorMoldA, .sensorMoldB, .flowSilent,
   .noWater, .ejectorStall, .defrostOvertime, .holdRefused, .linkStuck, .addressClash, .imageDefaulted]

def FaultId.code : FaultId → Nat
  | .leak => 0x01 | .runaway => 0x02 | .overtemp => 0x03
  | .sensorEvap => 0x10 | .sensorFreezer => 0x11 | .sensorMoldA => 0x12 | .sensorMoldB => 0x13
  | .flowSilent => 0x14 | .noWater => 0x15 | .ejectorStall => 0x16 | .defrostOvertime => 0x17
  | .holdRefused => 0x18 | .linkStuck => 0x19 | .addressClash => 0x1A | .imageDefaulted => 0x1B

def faultOf (code : Nat) : Option FaultId := faultIds.find? (fun f => f.code == code)

def FaultId.isA : FaultId → Bool
  | .leak | .runaway | .overtemp => true
  | _ => false

/-- The flag bit in FAULT_A_FLAGS or FAULT_B_FLAGS. -/
def FaultId.bit : FaultId → Nat
  | .leak => 0 | .runaway => 1 | .overtemp => 2
  | .sensorEvap => 0 | .sensorFreezer => 1 | .sensorMoldA => 2 | .sensorMoldB => 3 | .flowSilent => 4
  | .noWater => 5 | .ejectorStall => 6 | .defrostOvertime => 7 | .holdRefused => 8 | .linkStuck => 9
  | .addressClash => 10 | .imageDefaulted => 11

/-! ### Requests (Tables 10-1, 10-2) -/

def kindDispenseWater : Nat := 1
def kindDispenseStop : Nat := 2
def kindDispenseIce : Nat := 3
def kindIceStop : Nat := 4
def kindDefrostNow : Nat := 5
def kindDefrostInhibit : Nat := 6
def kindMoldEnable : Nat := 7
def kindSetMode : Nat := 8
def kindClearFault : Nat := 9
def kindClearWatch : Nat := 10
def kindForceWatch : Nat := 11
def kindReadQuantity : Nat := 12
def kindPublishNow : Nat := 13
def kindForgetStation : Nat := 14
def kindTestOutput : Nat := 15
def kindRestart : Nat := 16
def kindHoldCompressor : Nat := 32
def kindReleaseCompressor : Nat := 33

/-- The number of argument bytes of each kind (Table 10-1). -/
def argCount : Nat → Nat
  | 1 => 2 | 6 => 2 | 7 => 2 | 8 => 1 | 9 => 1 | 10 => 1 | 11 => 2 | 12 => 2 | 14 => 1 | 15 => 3 | 32 => 2
  | _ => 0

/-- The kinds taken from the panel station alone (R185). -/
def panelOnly (kind : Nat) : Bool :=
  kind == kindSetMode || kind == kindDispenseWater || kind == kindDispenseIce || kind == kindDefrostNow

/-- The kinds refused in a mode (Table 10-4). -/
def refusedIn (mode : OpMode) (kind : Nat) : Bool :=
  match mode with
  | .normal => kind == kindTestOutput
  | .sabbath => kind == kindTestOutput || kind == kindDefrostNow
  | .service => false
  | .showroom => kind == kindTestOutput || kind == kindDispenseWater || kind == kindDispenseIce

def resDone : Nat := 0
def resAccepted : Nat := 1
def resLimited : Nat := 2
def resConditionFalse : Nat := 3
def resRefusedMode : Nat := 4
def resRefusedFault : Nat := 5
def resBusy : Nat := 6
def resBadArgument : Nat := 7
def resBadKind : Nat := 8
def resNotPermitted : Nat := 9
def resNotReady : Nat := 10
def resStillPresent : Nat := 11
def resInterlock : Nat := 12

/-- The result code and result bytes a block gives for a request (R181). -/
structure Result where
  code  : Nat
  bytes : List Byte
deriving DecidableEq, Repr

/-- A result without bytes. -/
def Result.plain (code : Nat) : Result := { code := code, bytes := [] }

/-! ### Bytes -/

/-- Argument byte `i` of a request, as a number (0 when there is none; R181 has checked the count). -/
def argAt (args : List Byte) (i : Nat) : Nat := (args.getD i 0).toNat

/-- A two-byte number, least significant byte first (section 0.4, Layouts). -/
def arg16 (args : List Byte) (i : Nat) : Nat := argAt args i + 256 * argAt args (i + 1)

/-- The low `n` bytes of a number, least significant first. -/
def leBytes : Nat → Nat → List Byte
  | 0, _ => []
  | n + 1, v => BitVec.ofNat 8 v :: leBytes n (v / 256)

/-- A value as its two bytes, least significant first (R1, R186). -/
def valueBytes (v : Int) : List Byte := leBytes 2 (sendValue v).toNat

/-- A station byte 1 to 14 as an address. -/
def stationOf (n : Nat) : Option Addr := if 1 ≤ n ∧ n ≤ 14 then some (BitVec.ofNat 4 n) else none

end Sys2Proof.Machine
end

