-- ==== Sys2Proof/Machine/Image.lean ====
section
/-! DEFINITION. The parameter image: its layout, checks and clamps (R8, R16, R56, R194, R195, Tables 11-1 and 11-2) and the built-in sets (Tables 1-5, 1-9, 11-3). -/

namespace Sys2Proof.Machine

/-- "Clamped to a–b" (section 0.4, Arithmetic). -/
def clampNat (lo hi x : Nat) : Nat := max lo (min hi x)

def clampInt (lo hi x : Int) : Int := max lo (min hi x)

/-- Byte `i` of an image. -/
def byteAt (b : List Byte) (i : Nat) : Nat := (b.getD i 0).toNat

/-- A two-byte field, least significant byte first (section 11.3). -/
def wordAt (b : List Byte) (i : Nat) : Nat := byteAt b i + 256 * byteAt b (i + 1)

/-- A station field clamped to 1 to 14 (Table 11-1). -/
def addrAt (b : List Byte) (i : Nat) : Addr := BitVec.ofNat 4 (clampNat 1 14 (byteAt b i))

/-- A temperature field (byte − 50) × 10, clamped to −500 to 900 (Table 11-1). -/
def tempAt (b : List Byte) (i : Nat) : Int := clampInt (-500) 900 (((byteAt b i : Int) - 50) * 10)

/-- The built-in conversion table (Table 1-5). -/
def builtinTable : List (Nat × Int) :=
  [(160, 900), (330, 700), (520, 550), (740, 420), (990, 310), (1260, 210), (1550, 120), (1840, 40),
   (2130, -30), (2410, -100), (2670, -160), (2900, -220), (3110, -280), (3290, -330), (3450, -380),
   (3580, -440), (3690, -500)]

/-- The raw values rise strictly (R8). -/
def strictRise : List (Nat × Int) → Bool
  | p :: q :: rest => decide (p.1 < q.1) && strictRise (q :: rest)
  | _ => true

/-- The conversion table of an image (Table 11-1). -/
def tableAt (b : List Byte) : List (Nat × Int) :=
  (List.range 17).map fun k => (byteAt b (16 + k) * 16, tempAt b (33 + k))

/-- Pattern generator `n` of an image (Table 11-1). -/
def genAt (b : List Byte) (n : Nat) : GenParams :=
  { pullIn := clampNat 0 2550 (byteAt b (54 + 4 * n) * 10)
    period := clampNat 10 25500 (wordAt b (55 + 4 * n) * 10)
    onTime := clampNat 0 100 (byteAt b (57 + 4 * n)) }

/-- A source or reference with its peer bit set, read by R16: NONE for an unknown tag or for station 0 or 15, the own tag or NONE for the own address. DESIGN CHOICE (notes/assumptions/27): a reference's station byte of 16 to 255, which R16 does not name, is NONE too. -/
def peerSource (own : Addr) (station tag : Nat) : Option Source :=
  if station = 0 ∨ 15 ≤ station then none
  else if BitVec.ofNat 4 station = own then (ownTagOf tag).map .own
  else if isKnownTag (BitVec.ofNat 8 tag) then some (.peer (BitVec.ofNat 4 station) (BitVec.ofNat 8 tag))
  else none

/-- A source or reference of a watch record (R16, R195). -/
def sourceAt (own : Addr) (isPeer : Bool) (station tag : Nat) : Option Source :=
  if isPeer then peerSource own station tag else (ownTagOf tag).map .own

/-- A delay byte: bits 0–5 a count, bits 6–7 a unit of 1, 10, 100 or 1000 s (Table 11-2). -/
def delayAt (b : List Byte) (i : Nat) : Nat :=
  let v := byteAt b i
  (v % 64) * (match v / 64 with | 0 => 1 | 1 => 10 | 2 => 100 | _ => 1000)

/-- The entry action of a record; WRITE_FROST_INDEX with tracking is read as NONE (R195). -/
def entryAt (code : Nat) (tracking : Bool) (value : Nat) : EntryAction :=
  match code with
  | 0 => .none
  | 1 => if tracking then .none else .writeFrostIndex value
  | 2 => .defrostDemand
  | _ => .sendNotice

/-- Watch record n of an image, from byte 80 + 10n (Table 11-2). DEDUCED (notes/assumptions/9): the offset is signed whatever the source's type. -/
def watchAt (own : Addr) (b : List Byte) (n : Nat) : WatchConfig :=
  let at0 := 80 + 10 * n
  let w0 := wordAt b at0
  let opts := byteAt b (at0 + 7)
  let src := sourceAt own (w0.testBit 10) (w0 / 4096) (byteAt b (at0 + 2))
  let raw := BitVec.ofNat 16 (wordAt b (at0 + 3))
  let tracks := opts.testBit 3
  { source := src
    sense := if opts.testBit 0 then .below else .above
    threshold := readValue (match src with | some s => s.signed | none => false) raw
    tracking :=
      if tracks then
        some { reference := sourceAt own (w0.testBit 11) (byteAt b (at0 + 9)) (byteAt b (at0 + 8))
               offset := raw.toInt }
      else none
    hysteresis := clampNat 0 1000 (w0 % 1024)
    makeDelay := delayAt b (at0 + 5)
    breakDelay := delayAt b (at0 + 6)
    latch := opts.testBit 1
    inhibit := opts.testBit 2
    entry := entryAt (opts / 16 % 4) tracks (wordAt b (at0 + 8))
    whileAct := match opts / 64 with | 1 => .suspendHarvest | 2 => .limitDispense | _ => .none }

/-- The checksum (R194). -/
def checksumOk (b : List Byte) : Bool :=
  ((b.take 254).foldl (fun acc x => acc + x.toNat) 0) % 65536 == wordAt b 254

/-- The two checks of R194 on an image of 256 bytes. -/
def imageChecks (b : List Byte) : Bool := b.length == 256 && checksumOk b && byteAt b 0 == 1

/-- Decode and clamp every field in the table's order; a conversion table that does not rise strictly is replaced by the built-in table (R8, R194). -/
def decodeImage (b : List Byte) : Image :=
  let budget := clampNat 20 160 (byteAt b 5)
  let own := addrAt b 1
  let opts := byteAt b 76
  { ownAddress := own
    compressor := addrAt b 2
    doorReporter := addrAt b 3
    panel := addrAt b 4
    budget := budget
    islandAllowance := clampNat 0 budget (byteAt b 6)
    unknownAllowance := clampNat 0 50 (byteAt b 7)
    baseline := clampNat 0 20 (byteAt b 8)
    dhAmps := clampNat 3 255 (byteAt b 9)
    mhaAmps := clampNat 3 255 (byteAt b 10)
    mhbAmps := clampNat 3 255 (byteAt b 11)
    augAmps := clampNat 3 255 (byteAt b 12)
    claimWindowMs := clampNat 100 1000 (byteAt b 13 * 10)
    initialThreshold := clampNat 1200 12000 (wordAt b 14)
    table := if strictRise (tableAt b) then tableAt b else builtinTable
    substitutes := { evap := tempAt b 50, freezerAir := tempAt b 51, moldA := tempAt b 52, moldB := tempAt b 53 }
    gens := #v[genAt b 0, genAt b 1, genAt b 2, genAt b 3]
    meterK := clampNat 32 1024 (wordAt b 70)
    nominalFlow := clampNat 2 30 (byteAt b 72)
    tIn := clampInt 150 400 (150 + byteAt b 73)
    vRes := clampNat 500 2000 (byteAt b 74 * 10)
    fillTargetMl := clampNat 60 200 (byteAt b 75)
    source := match opts % 4 with | 0 => .panel | 1 => .line | 2 => .either | _ => .both
    edge := match opts / 4 % 4 with | 0 => .falling | 1 => .rising | _ => .levelLow
    lampFollow := opts.testBit 4
    publish := Vector.ofFn fun i : Fin 19 => (byteAt b 77 + 256 * byteAt b 78 + 65536 * byteAt b 79).testBit i.val
    watch := Vector.ofFn fun i : Fin 16 => watchAt own b i.val }

/-- An unused watch record (Table 1-9: W7 to W15 in V0). -/
def unusedWatch : WatchConfig :=
  { source := none, sense := .above, threshold := 0, tracking := none, hysteresis := 0, makeDelay := 0,
    breakDelay := 0, latch := false, inhibit := false, entry := .none, whileAct := .none }

/-- A built-in record of Table 1-9: fixed threshold, no latch, no inhibit, no break delay. -/
def builtinWatchRecord (t : OwnTag) (sense : Sense) (threshold : Int) (hyst mk : Nat) (act : WhileAction) : WatchConfig :=
  { unusedWatch with
    source := some (.own t), sense := sense, threshold := threshold, hysteresis := hyst, makeDelay := mk, whileAct := act }

/-- The watch records of Table 1-9, with the W5 threshold of the variant. -/
def builtinWatch (w5 : Int) : Vector WatchConfig 16 :=
  #v[builtinWatchRecord .evapTemp .above 80 30 0 .none,
     builtinWatchRecord .moldATemp .below (-120) 20 900 .none,
     builtinWatchRecord .moldBTemp .below (-120) 20 900 .none,
     builtinWatchRecord .moldATemp .above 15 10 0 .none,
     builtinWatchRecord .moldBTemp .above 15 10 0 .none,
     builtinWatchRecord .reservoirEst .above w5 20 0 .limitDispense,
     builtinWatchRecord .evapTemp .below (-50) 20 0 .none,
     unusedWatch, unusedWatch, unusedWatch, unusedWatch, unusedWatch, unusedWatch, unusedWatch, unusedWatch, unusedWatch]

/-- The built-in set of variant V0 (section 11.4 and the V0 columns of Tables 1-4, 1-9, 3-1, 6-3 and 8-4). -/
def builtinV0 : Image :=
  { ownAddress := 5, compressor := 2, doorReporter := 4, panel := 3
    budget := 60, islandAllowance := 20, unknownAllowance := 10, baseline := 3
    dhAmps := 16, mhaAmps := 8, mhbAmps := 8, augAmps := 6
    claimWindowMs := 250, initialThreshold := 3000
    table := builtinTable
    substitutes := { evap := -200, freezerAir := -180, moldA := -100, moldB := -100 }
    gens := #v[{ pullIn := 150, period := 20, onTime := 30 }, { pullIn := 0, period := 10000, onTime := 50 },
               { pullIn := 0, period := 20, onTime := 60 }, { pullIn := 0, period := 1000, onTime := 50 }]
    meterK := 128, nominalFlow := 8, tIn := 300, vRes := 1000, fillTargetMl := 120
    source := .either, edge := .levelLow, lampFollow := true
    publish := Vector.replicate 19 true
    watch := builtinWatch 120 }

/-- The built-in set of the strapped variant; VS0 is the low bit (section 11.2, Table 11-3). -/
def builtinImage (s : Straps) : Image :=
  match s.vs1, s.vs0 with
  | false, false => builtinV0
  | false, true =>
    { builtinV0 with
      budget := 80, islandAllowance := 30, initialThreshold := 3600, tIn := 250, source := .panel }
  | true, false =>
    { builtinV0 with
      budget := 45, islandAllowance := 16, dhAmps := 12, initialThreshold := 2400, tIn := 350, watch := builtinWatch 100 }
  | true, true =>
    { builtinV0 with
      budget := 100, islandAllowance := 40, dhAmps := 20, fillTargetMl := 150, edge := .falling, lampFollow := false }

end Sys2Proof.Machine
end

