-- ==== Sys2Proof/Machine/State.lean ====
section
/-! DEFINITION. The state of the part, its reset value, and the reasons a step could stop. -/

namespace Sys2Proof.Machine

/-- The whole part: one field per block of Table 0-1, the pins, the clock, the queue of commands waiting, and the consequences of the event in hand. -/
structure State where
  /-- Microseconds since the model's time began (the model's own clock; notes/assumptions/1). -/
  now      : Nat
  pins     : Pins
  start    : StartUp
  image    : Image
  /-- The image bytes as they arrived (R193). -/
  rawImage : List Byte
  line     : Line
  view     : Vector (Option StationRecord) 16
  share    : Share
  store    : Store
  sensors  : PerChannel ChannelRecord
  switches : Switches
  watch    : Vector WatchPoint 16
  frost    : Frost
  defrost  : Defrost
  water    : Water
  ice      : Ice
  out      : Outputs
  fault    : FaultUnit
  mode     : OpMode
  /-- Consequences not yet carried out (the model's own; notes/assumptions/2). -/
  agenda   : List Signal
  /-- The commands waiting, first in, first out. -/
  pending  : List Instr
deriving DecidableEq, Repr

/-- No command of this part stops the machine: the manual gives every command an effect (or says that it has none). Nobody raises a fault. -/
inductive Fault where
deriving DecidableEq, Repr

/-- Why a command has no meaning. -/
inductive Refusal where
  /-- Raised by `exec` alone, for a command that has no meaning yet (none is left); safe. -/
  | notModelled (mnemonic : String)
deriving DecidableEq, Repr

/-! ### The blocks before a start -/

def Line.blank : Line :=
  { mode := .normal, driver := false, queue := [], statusOwed := false, period := none, orderCount := 0,
    stuckShort := none, stuckLong := none, recessive := none, idle := false, txEnd := none, island := false,
    alone := none, lineGood := false, goodTimer := none, returnListen := none, rotation := none, clearing := [],
    framer := .gap, heard := [] }

def Share.blank : Share :=
  { grants := [], queue := [], flight := none, tagCounter := 0, suspended := [], reclaim := none,
    shedDelay := none, dhClass := 3, dhRefusals := 0 }

def ChannelRecord.blank : ChannelRecord := { state := .starting, badCount := 0, hold := none, sample := none }

def Switches.blank : Switches :=
  { bin := { level := true, timer := none }
    home := { a := { level := false, timer := none }, b := { level := false, timer := none } }
    leak := { level := false, timer := none }
    cutout := { level := false, timer := none }
    paddle := { level := false, timer := none } }

def WatchPoint.blank : WatchPoint :=
  { condition := .unknown, computed := .inactive, delay := .stopped, threshold := 0, known := false, forced := .none }

def Frost.blank : Frost :=
  { f := 1500, t := 3000, hours := 0, gap := .minGap, hourTimer := none, retryTimer := none, secondTimer := none,
    seconds := 0, r := 0, dz := 0, dr := 0, h := 0, freezerMark := false, fridgeMark := false }

def Defrost.blank : Defrost :=
  { state := .idle, hold := .none, attempts := 0, outstanding := none, answered := false, duty := .full,
    tEq2 := 0, heatSeconds := 0, seqCounter := 0, answer := none, speed := none, holdRetry := none, renew := none,
    dwell := none, heatSecond := none, drip := none, fan := none, inhibit := none }

def Water.blank : Water :=
  { path := .idle, queue := [], current := none, held := none, dispense := none, lineHold := false,
    estimated := false, rate := 204, openedAt := 0, pulses := [], silence := none, estimate := none, draw := 0,
    allClosed := none, armed := false, closedVolume := 0, runawayHold := none, tRes := 40, fillLimit := none,
    dispenseLimit := none, settling := none, relaxation := none }

def MoldRecord.blank : MoldRecord :=
  { state := .freezing, suspended := false, short := false, owed := 30720, attempt := 1, heatSeconds := 0,
    leaveSeen := false, resumeEject := false, stalls := 0, fillRetry := none, leastFreeze := none,
    timedFreeze := none, heatSecond := none, eject := none, stallWait := none }

def Ice.blank : Ice := { molds := { a := .blank, b := .blank }, auger := .idle, runTimer := none }

def OutputChannel.blank : OutputChannel := { job := .off, test := .none, layer := .off, resolved := .off }

/-- Every output off and every generator IDLE (R160). -/
def Outputs.blank : Outputs :=
  { channels := Vector.replicate 12 .blank, held := [], gens := Vector.replicate 4 { phase := .idle, timer := none } }

def FaultUnit.blank : FaultUnit := { aFlags := 0, bFlags := 0, record := none, noticeTimer := none, keptA := false }

/-- The own quantities before the first entry to LISTEN: 0, but LAST_EVENT 0xFF (R5); DESIGN CHOICE (notes/assumptions/3). -/
def Store.blank : Store :=
  { values := (Vector.replicate 19 (0 : Int)).set 15 0xFF, changed := Vector.replicate 19 false }

/-- The pins before anything is connected; DESIGN CHOICE (notes/assumptions/4). -/
def Pins.blank : Pins :=
  { thermistor := { evap := 0, freezerAir := 0, moldA := 0, moldB := 0 }
    bin := false, home := { a := false, b := false }, leak := false, cutout := false, paddle := false, line := false
    straps := { vs0 := false, vs1 := false, imen := false, fast := false }, sdaLowPulses := 0 }

def StartUp.blank : StartUp :=
  { state := .powerUp, mark := false, kind := .powerOn, listenTimer := none, runSince := 0, restart := .none,
    interrupted := false, port := .rest, clearPulses := 0, acked := 0
    arrived := 0, sent := [] }

/-- The part before its first start: POWER_UP, no retention mark, every output off, the retained state at its power-on values (R160, R191). -/
def State.reset : State :=
  { now := 0
    pins := .blank
    start := .blank
    image := builtinV0
    rawImage := []
    line := .blank
    view := Vector.replicate 16 none
    share := .blank
    store := .blank
    sensors := { evap := .blank, freezerAir := .blank, moldA := .blank, moldB := .blank }
    switches := .blank
    watch := Vector.replicate 16 .blank
    frost := .blank
    defrost := .blank
    water := .blank
    ice := .blank
    out := .blank
    fault := .blank
    mode := .normal
    agenda := []
    pending := [] }

end Sys2Proof.Machine
end

