-- ==== Sys2Proof/Machine/Ops.lean ====
section
/-! DEFINITION. The named operations shared by every block: the roundings of section 0.4, timers, the fault flags as read by others, reads of peer quantities, and the writing of own quantities, with the local part of the watch unit and the words that the watch and request units keep from every report: WATCH_STATES and CONDITION_FLAGS (R3 to R6, R16 to R25, R184). -/

namespace Sys2Proof.Machine

/-! ### Arithmetic (section 0.4) -/

/-- trunc(n / d): the fraction dropped, towards zero. -/
def truncDiv (n d : Int) : Int := Int.tdiv n d

/-- round half up(n / d) for d above 0: halves go to the next greater integer. -/
def roundHalfUp (n d : Int) : Int := Int.fdiv (2 * n + d) (2 * d)

/-! ### Timers (section 0.4, Time and events) -/

/-- A timer started now with a duration in microseconds. -/
def State.timer (s : State) (duration : Nat) : Timer := some (s.now + duration)

/-- What an expiry does: nothing when the timer is stopped; otherwise the clock stands at the expiry, or later if it already did (notes/assumptions/1). -/
def onExpiry (t : Timer) (act : State → State) (s : State) : State :=
  match t with
  | none => s
  | some deadline => act { s with now := max s.now deadline }

/-- Seconds of the 32-bit time-since-start count (R192). DESIGN CHOICE (notes/assumptions/50): it wraps after 4294967295. -/
def State.secondsSinceStart (s : State) : Nat :=
  match s.start.state with
  | .run => (s.now - s.start.runSince) / Config.sec % 4294967296
  | _ => 0

/-! ### States of the start-up block (R191) -/

/-- LISTEN or RUN: the line interface, the samples and the switch inputs are running (R52, R192). -/
def State.listening (s : State) : Bool := s.start.state == .listen || s.start.state == .run

/-- RUN. -/
def State.running (s : State) : Bool := s.start.state == .run

/-! ### Fault flags as the other blocks read them (R170) -/

def FaultUnit.isSet (u : FaultUnit) (f : FaultId) : Bool :=
  if f.isA then u.aFlags.getLsbD f.bit else u.bFlags.getLsbD f.bit

/-- Any class A flag is set. -/
def State.classA (s : State) : Bool := s.fault.aFlags != 0

/-! ### Peer quantities (R2, R3) -/

/-- The record of a station; none while it is ABSENT (R45). -/
def State.record (s : State) (a : Addr) : Option StationRecord := s.view[a.toFin]

/-- The valid value of a peer quantity (R3). -/
def State.peer (s : State) (a : Addr) (tag : Byte) : Option Int :=
  match s.record a with
  | some r => r.quantities.lookup tag
  | none => none

/-- The station is FRESH. -/
def State.isFresh (s : State) (a : Addr) : Bool :=
  match s.record a with
  | some r => r.freshness == .fresh
  | none => false

/-- COMPRESSOR_SPEED, DOOR_FREEZER and so on, from their role stations (Table 1-1). -/
def State.compressorSpeed (s : State) : Option Int := s.peer s.image.compressor tagCompressorSpeed
def State.door (s : State) (tag : Byte) : Option Int := s.peer s.image.doorReporter tag
def State.panelQuantity (s : State) (tag : Byte) : Option Int := s.peer s.image.panel tag

/-! ### Own quantities (R4) -/

/-- The value the store holds for an own tag. -/
def State.own (s : State) (t : OwnTag) : Int := s.store.values[t.idx]

/-- STARTING or SUBSTITUTED: the channel is substituted for the job controllers (section 1.2). -/
def State.substituted (s : State) (c : Channel) : Bool :=
  match (s.sensors.get c).state with
  | .starting | .substituted => true
  | _ => false

/-- The watch unit reads the tag as valid (R4). -/
def State.ownValid (s : State) (t : OwnTag) : Bool :=
  match t.channel with
  | some c => !s.substituted c
  | none => true

/-- The valid value of a source or reference (R3, R4, R23). -/
def State.sourceValue (s : State) : Source → Option Int
  | .own t => if s.ownValid t then some (s.own t) else none
  | .peer a tag => s.peer a tag

/-! ### The watch unit's own part (R16 to R25)

A watch point's record is moved here; what its becoming active or its ceasing to be active causes elsewhere is put on the agenda (notes/assumptions/2). -/

/-- The sixteen watch points. -/
def watchPoints : List (Fin 16) := [0, 1, 2, 3, 4, 5, 6, 7, 8, 9, 10, 11, 12, 13, 14, 15]

/-- The effective state (R24). -/
def WatchPoint.effective (w : WatchPoint) : Computed :=
  match w.forced with
  | .none => w.computed
  | .active => .active
  | .inactive => .inactive

/-- Active: the effective state is ACTIVE or LATCHED (section 1.4). -/
def WatchPoint.isActive (w : WatchPoint) : Bool :=
  w.effective == .active || w.effective == .latched

/-- Watch point `i` is active. -/
def State.watchActive (s : State) (i : Fin 16) : Bool := s.watch[i].isActive

/-- A while-active action applies (R27). -/
def State.whileApplies (s : State) (act : WhileAction) : Bool :=
  watchPoints.any fun i => s.image.watch[i].whileAct == act && s.watchActive i

/-- The threshold is known (R17). -/
def State.thresholdKnown (s : State) (i : Fin 16) : Bool :=
  s.image.watch[i].tracking.isNone || s.watch[i].known

/-- The threshold in force (Table 1-7). -/
def State.threshold (s : State) (i : Fin 16) : Int :=
  if s.image.watch[i].tracking.isNone then s.image.watch[i].threshold else s.watch[i].threshold

/-- The valid value of a point's source; none for an unused point (R16). -/
def State.pointValue (s : State) (i : Fin 16) : Option Int :=
  match s.image.watch[i].source with
  | some src => s.sourceValue src
  | none => none

/-- The point holds: its source is invalid, or its threshold unknown (R22). -/
def State.pointHolds (s : State) (i : Fin 16) : Bool := (s.pointValue i).isNone || !s.thresholdKnown i

/-- What a change of a point's record puts on the agenda (R25): an effective entry to ACTIVE, or the end of being active. -/
def watchSignals (i : Fin 16) (before after : WatchPoint) : List Signal :=
  (if after.effective == .active && before.effective != .active then [.watchEntered i] else []) ++
  (if before.isActive && !after.isActive then [.watchLeft i] else [])

/-- Write a point's record and note what follows from its effective state (R25). -/
def State.putWatch (s : State) (i : Fin 16) (w : WatchPoint) : State :=
  { s with watch := s.watch.set i w, agenda := s.agenda ++ watchSignals i s.watch[i] w }

/-- A running delay timer paused with its remaining time (R22). -/
def DelayTimer.pause (d : DelayTimer) (now : Nat) : DelayTimer :=
  match d with
  | .running deadline => .paused (deadline - now)
  | d => d

/-- A paused delay timer resumed with the time that remained (R22). -/
def DelayTimer.resume (d : DelayTimer) (now : Nat) : DelayTimer :=
  match d with
  | .paused remaining => .running (now + remaining)
  | d => d

/-- The condition an evaluation gives (R18). -/
def evaluate (cfg : WatchConfig) (threshold value : Int) (c : Condition) : Condition :=
  match cfg.sense, c with
  | .above, .unknown => if threshold < value then .isTrue else .isFalse
  | .below, .unknown => if value < threshold then .isTrue else .isFalse
  | .above, .isFalse => if threshold < value then .isTrue else .isFalse
  | .below, .isFalse => if value < threshold then .isTrue else .isFalse
  | .above, .isTrue => if value ≤ threshold - cfg.hysteresis then .isFalse else .isTrue
  | .below, .isTrue => if threshold + cfg.hysteresis ≤ value then .isFalse else .isTrue

/-- The move on a condition-true event (Table 1-8, R20, R21). -/
def onTrueEvent (cfg : WatchConfig) (now : Nat) (w : WatchPoint) : WatchPoint :=
  match w.computed with
  | .inactive =>
    if cfg.makeDelay = 0 then { w with computed := .active }
    else { w with computed := .making, delay := .running (now + cfg.makeDelay * Config.sec) }
  | .breaking => { w with computed := .active, delay := .stopped }
  | _ => w

/-- The move on a condition-false event (Table 1-8, R20, R21). -/
def onFalseEvent (cfg : WatchConfig) (now : Nat) (w : WatchPoint) : WatchPoint :=
  match w.computed with
  | .making => { w with computed := .inactive, delay := .stopped }
  | .active =>
    if cfg.latch then { w with computed := .latched }
    else if cfg.breakDelay = 0 then { w with computed := .inactive }
    else { w with computed := .breaking, delay := .running (now + cfg.breakDelay * Config.sec) }
  | .inhibited => { w with computed := .inactive }
  | _ => w

/-- The new condition, and the event it is (R18, R19). -/
def applyCondition (cfg : WatchConfig) (now : Nat) (c : Condition) (w : WatchPoint) : WatchPoint :=
  if c = w.condition then w
  else match c with
    | .isTrue => onTrueEvent cfg now { w with condition := .isTrue }
    | .isFalse => onFalseEvent cfg now { w with condition := .isFalse }
    | .unknown => w

/-- Point `i` after a change that concerns it: it holds, with a running delay paused, or it resumes and evaluates (R18, R22). -/
def State.recheck (s : State) (i : Fin 16) : State :=
  match s.pointValue i, s.thresholdKnown i with
  | some v, true =>
    let w := { s.watch[i] with delay := s.watch[i].delay.resume s.now }
    let cfg := s.image.watch[i]
    s.putWatch i (applyCondition cfg s.now (evaluate cfg (s.threshold i) v w.condition) w)
  | _, _ => s.putWatch i { s.watch[i] with delay := s.watch[i].delay.pause s.now }

/-- The range of a source's type (R17). -/
def clampTo (signed : Bool) (v : Int) : Int := if signed then clampInt (-32768) 32767 v else clampInt 0 65535 v

/-- Point `i` computes its tracking threshold from its reference, if that is valid (R17). -/
def State.recompute (s : State) (i : Fin 16) : State :=
  match s.image.watch[i].tracking, s.image.watch[i].source with
  | some tr, some src =>
    match tr.reference.bind s.sourceValue with
    | some v => s.putWatch i { s.watch[i] with threshold := clampTo src.signed (v + tr.offset), known := true }
    | none => s
  | _, _ => s

/-- The reference of a tracking point (R17). -/
def WatchConfig.reference (c : WatchConfig) : Option Source := c.tracking.bind fun tr => tr.reference

/-- Point `i` hears that a quantity has changed, in value or in validity (R6, R17, R18). -/
def State.hear (s : State) (src : Source) (i : Fin 16) : State :=
  let cfg := s.image.watch[i]
  if cfg.reference = some src then (s.recompute i).recheck i
  else if cfg.source = some src then s.recheck i
  else s

/-- The store hands a change to every watch point that names the quantity; the watch unit runs in RUN alone (R6, R23, R30). DESIGN CHOICE (notes/assumptions/28): the points hear it in index order, and those that become active in one event write LAST_EVENT and act in that order. -/
def State.notifyWatch (s : State) (src : Source) : State :=
  if s.running then watchPoints.foldl (fun st i => st.hear src i) s else s

/-- The store takes a value for an own tag. A value already held is no change; a change marks a published tag (R6, R44). -/
def State.putOwn (s : State) (t : OwnTag) (v : Int) : State :=
  if s.own t = v then s
  else
    { s with
      store :=
        { values := s.store.values.set t.idx v
          changed := if s.image.publish[t.idx] then s.store.changed.set t.idx true else s.store.changed }
      line := { s.line with clearing := s.line.clearing.filter (fun u => u != t) } }

/-! ### The words kept from the blocks' reports (R25, R184) -/

def MoldRecord.harvesting (r : MoldRecord) : Bool := r.state == .harvestHeat || r.state == .eject

/-- A mold is in HARVEST_HEAT or EJECT, a suspended one in the state it keeps (R184). -/
def State.harvesting (s : State) : Bool := s.ice.molds.a.harvesting || s.ice.molds.b.harvesting

/-- The part is quiet (R184). -/
def State.quiet (s : State) : Bool :=
  s.defrost.state == .idle && !s.harvesting && s.water.path == .idle

/-- The seven base conditions, of codes 1, 3, …, 13 (Table 10-3). -/
def State.baseCondition (s : State) (k : Nat) : Bool :=
  match k with
  | 0 => s.defrost.state != .idle
  | 1 => s.harvesting
  | 2 => s.switches.bin.level
  | 3 => s.watchActive 5
  | 4 => s.fault.aFlags != 0 || s.fault.bFlags != 0
  | 5 => s.line.island
  | _ => s.quiet

/-- Bit `k` of a word of `n` bits, given by a predicate. -/
def bitWord (n : Nat) (p : Nat → Bool) : Nat :=
  (List.range n).foldl (fun acc k => acc + if p k then 2 ^ k else 0) 0

/-- CONDITION_FLAGS as the base conditions stand (R5). -/
def State.conditionWord (s : State) : Int := bitWord 7 s.baseCondition

/-- WATCH_STATES as the points stand (R25). -/
def State.watchWord (s : State) : Int :=
  bitWord 16 fun k => if h : k < 16 then s.watchActive ⟨k, h⟩ else false

/-- A unit brings the word it keeps up to date at a report, in LISTEN and RUN (R25, R52, R184). -/
def State.report (s : State) (t : OwnTag) (word : Int) : State :=
  if s.listening && s.own t != word then (s.putOwn t word).notifyWatch (.own t) else s

/-- WATCH_STATES is written when an effective state has changed (R25). -/
def State.reportWatch (s : State) : State := s.report .watchStates s.watchWord

/-- CONDITION_FLAGS is written when a base condition has changed (R184). -/
def State.reportConditions (s : State) : State := s.report .conditionFlags s.conditionWord

/-- A report that is owed: CONDITION_FLAGS, and then WATCH_STATES; none before LISTEN (R25, R52, R184). -/
def State.reportOwed (s : State) : Option State :=
  if !s.listening then none
  else if s.own .conditionFlags != s.conditionWord then some s.reportConditions
  else if s.own .watchStates != s.watchWord then some s.reportWatch
  else none

/-- Up to `n` reports that are owed. -/
def State.reportsUpTo : Nat → State → State
  | 0, s => s
  | n + 1, s =>
    match s.reportOwed with
    | some t => State.reportsUpTo n t
    | none => s

/-- The two words follow what has changed, each write for what the one before it moved (R25, R184). DESIGN CHOICE (notes/assumptions/2): a ring of points leaves its next report to State.settleStep after Config.reportBound of them. -/
def State.reportWords (s : State) : State := State.reportsUpTo Config.reportBound s

/-! ### Writing -/

/-- A change of a quantity is handed to the watch unit, and the two words follow (R6, R25, R184). -/
def State.notify (s : State) (src : Source) : State := (s.notifyWatch src).reportWords

/-- An owner writes an own tag. Its report reaches the request unit, which writes CONDITION_FLAGS where a base condition has changed; the tag's change reaches the watch unit, whose own reports then write the words again (R6, R184). DESIGN CHOICE (notes/assumptions/28): the request unit's write comes before the points hear the tag. -/
def State.write (s : State) (t : OwnTag) (v : Int) : State :=
  if s.own t = v then s else ((s.putOwn t v).reportWords).notify (.own t)

/-- A channel's tag passes between valid and invalid, or is read again after a change of the channel's state (R9, R11). -/
def State.validityChange (s : State) (c : Channel) : State := s.notify (.own c.tag)

end Sys2Proof.Machine
end

