-- ==== Sys2Proof/Machine/Line.lean ====
section
/-! DEFINITION. The transmit queue and STATUS publishing (R37, R41 to R44), and what a frame's being sent, or not, means to the block that queued it (R35, R53). -/

namespace Sys2Proof.Machine

/-- Target "all stations" (Table 2-1). -/
def allStations : Addr := 15

/-! ### The queue's order (R41) -/

/-- Place a frame behind every frame of its class or a lower class value. -/
def insertFrame (f : TxFrame) : List TxFrame → List TxFrame
  | [] => [f]
  | g :: rest => if f.cls < g.cls then f :: g :: rest else g :: insertFrame f rest

def TxFrame.isStatus (f : TxFrame) : Bool :=
  match f.body with
  | .status _ => true
  | _ => false

def TxFrame.isNotice (f : TxFrame) : Bool :=
  match f.body with
  | .notice _ _ => true
  | _ => false

def TxFrame.isClaim (f : TxFrame) : Bool :=
  match f.body with
  | .claim _ _ _ => true
  | _ => false

/-- A new frame: waiting, with retry count 0 (R35). -/
def newFrame (target : Addr) (cls : Nat) (body : FrameBody) : TxFrame :=
  { target := target, cls := cls, body := body, retries := 0, sending := false }

def statusFrame : TxFrame := newFrame allStations 6 (.status none)

/-- The queue holds six frames (section 2.3). -/
def Line.full (l : Line) : Bool := Config.queueCapacity ≤ l.queue.length

/-- A frame for which `p` holds is waiting, that is, not in transmission (section 2.3). -/
def Line.waiting (l : Line) (p : TxFrame → Bool) : Bool := l.queue.any fun f => p f && !f.sending

/-- The frame in transmission. -/
def Line.sendingFrame (l : Line) : Option TxFrame := l.queue.find? fun f => f.sending

/-! ### STATUS assembly (R44) -/

/-- The tags of the publish set, ascending. -/
def State.publishTags (s : State) : List OwnTag := ownTags.filter fun t => s.image.publish[t.idx]

/-- The number of quantity items that fit beside n grant entries. -/
def itemRoom (n : Nat) : Nat := (16 - 1 - 2 * n) / 3

/-- The publish set from the tag after the rotation point, wrapping (R44). -/
def rotate (tags : List OwnTag) (point : Option OwnTag) : List OwnTag :=
  match point with
  | none => tags
  | some p => tags.filter (fun t => decide (p.idx.val < t.idx.val)) ++ tags.filter (fun t => decide (t.idx.val ≤ p.idx.val))

/-- The changed tags that are carried first. -/
def State.changedPart (s : State) : List OwnTag :=
  (s.publishTags.filter fun t => s.store.changed[t.idx]).take (itemRoom s.share.grants.length)

/-- The tags that fill the remaining places by rotation. -/
def State.rotationPart (s : State) : List OwnTag :=
  ((rotate s.publishTags s.line.rotation).filter fun t => !s.changedPart.contains t).take
    (itemRoom s.share.grants.length - s.changedPart.length)

/-- The payload of a STATUS assembled now. -/
def State.assembled (s : State) : StatusPayload :=
  { grants := s.share.grants.map fun g => { cls := g.cls, amps := g.amps }
    items := (s.changedPart ++ s.rotationPart).map fun t => (t, s.own t) }

/-- The rotation point after an assembly: the last tag placed by rotation. -/
def State.rotationAfter (s : State) : Option OwnTag :=
  match s.rotationPart.getLast? with
  | some t => some t
  | none => s.line.rotation

/-- Assemble a STATUS: its tags will lose their changed marks if it is sent, unless they change again first. -/
def State.assemble (s : State) : State :=
  { s with line := { s.line with rotation := s.rotationAfter, clearing := s.changedPart ++ s.rotationPart } }

/-- The changed marks of the tags carried are removed (R44). -/
def State.clearMarks (s : State) : State :=
  { s with
    store := { s.store with changed := s.line.clearing.foldl (fun v t => v.set t.idx false) s.store.changed }
    line := { s.line with clearing := [] } }

/-! ### Sent and not sent (R35) -/

/-- The claim in flight opens with the stamp of its CLAIM (R64). -/
def State.openClaim (s : State) : State :=
  match s.share.flight with
  | some c =>
    { s with
      share := { s.share with
        flight := some { c with phase := .opened s.line.orderCount (s.now + s.image.claimWindowMs * Config.ms) } } }
  | none => s

/-- The queuing block is told that its frame was sent (R35). -/
def State.reportSent (s : State) (f : TxFrame) : State :=
  match f.body with
  | .status _ => { s.clearMarks with line := { s.clearMarks.line with period := s.timer Config.statusPeriod } }
  | .claim _ _ _ => s.openClaim
  | .answer _ _ _ _ true => { s with start := { s.start with restart := .due } }
  | _ => s

/-- One more valid frame in line order (R39). -/
def State.countFrame (s : State) : State :=
  { s with line := { s.line with orderCount := s.line.orderCount + 1 } }

/-- In STUCK a frame is taken as sent without being driven (R53). DEDUCED (notes/assumptions/10): a STATUS is assembled at that moment, so that it has tags to clear. -/
def State.sendStuck (s : State) (f : TxFrame) : State :=
  let s1 := if f.isStatus then s.assemble else s
  s1.countFrame.reportSent f

/-! ### Offering frames (R41, R42, R53) -/

/-- Put a frame in the queue, in its place (R41). -/
def State.enqueue (s : State) (f : TxFrame) : State :=
  { s with line := { s.line with queue := insertFrame f s.line.queue } }

/-- The queue takes a frame offered now: it has room, or the line interface is in STUCK (R41, R53). -/
def State.takes (s : State) : Bool := s.line.mode == .stuck || !s.line.full

/-- Offer a frame of any kind but STATUS and NOTICE; a full queue drops it (R41). -/
def State.offer (s : State) (f : TxFrame) : State :=
  if s.line.mode == .stuck then s.sendStuck f
  else if s.line.full then s
  else s.enqueue f

/-- Offer a STATUS (R42). -/
def State.offerStatus (s : State) : State :=
  if s.line.mode == .stuck then s.sendStuck statusFrame
  else if s.line.waiting TxFrame.isStatus then s
  else if s.line.full then { s with line := { s.line with statusOwed := true } }
  else s.enqueue statusFrame

/-- Offer a NOTICE: one of class 0 replaces a waiting NOTICE, any other is dropped while one waits (R42). -/
def State.offerNotice (s : State) (cls : Nat) (code fclass : Byte) : State :=
  let f := newFrame allStations cls (.notice code fclass)
  if s.line.mode == .stuck then s.sendStuck f
  else if s.line.waiting TxFrame.isNotice then
    if cls = 0 then
      { s with
        line := { s.line with queue := insertFrame f (s.line.queue.filter fun g => !(g.isNotice && !g.sending)) } }
    else s
  else if s.line.full then s
  else s.enqueue f

/-- A publish request (R43). -/
def State.publishRequest (s : State) : State := s.offerStatus

/-- A RELEASE with a claim tag and the class of the claim or grant released (Table 2-4). -/
def State.offerRelease (s : State) (tag : Byte) (cls : Nat) : State :=
  s.offer (newFrame allStations cls (.release tag))

/-- An ANSWER to a requester (R181). -/
def State.offerAnswer (s : State) (target : Addr) (kind seq : Byte) (code : Nat) (bytes : List Byte) : State :=
  s.offer (newFrame target 2 (.answer kind seq (BitVec.ofNat 8 code) bytes false))

/-- One of the part's own REQUEST frames to the compressor station (Table 2-4). -/
def State.offerOwnRequest (s : State) (kind : Nat) (args : List Byte) : State :=
  { (s.offer (newFrame s.image.compressor 2 (.request (BitVec.ofNat 8 kind) 0 s.defrost.seqCounter args))) with
    defrost := { s.defrost with seqCounter := s.defrost.seqCounter + 1 } }

end Sys2Proof.Machine
end

