-- ==== Sys2Proof/Machine/Outputs.lean ====
section
/-! DEFINITION. The reservoir's mixing (R135), the output block: layers, resolution, interlocks and pattern generators (R160 to R169), and what follows at once from a resolution: the valves' reports to the water path (R131, R133, R137) and the temperature detection of OVERTEMP (R171). -/

namespace Sys2Proof.Machine

/-! ### The reservoir estimate (R135) -/

/-- T_res is set and RESERVOIR_EST written (R135, R136). -/
def State.setTRes (s : State) (v : Int) : State :=
  { s with water := { s.water with tRes := v } }.write .reservoirEst v

/-- The change of T_res by a mixing step with a volume in 1/256 mL (R135). -/
def mixChange (tIn tRes : Int) (vRes volume : Nat) : Int :=
  roundHalfUp ((tIn - tRes) * volume) (256 * vRes)

/-- One mixing step with a volume in 1/256 mL (R135). -/
def State.mixStep (s : State) (volume : Nat) : State :=
  s.setTRes (s.water.tRes + mixChange s.image.tIn s.water.tRes s.image.vRes volume)

/-- The remainder of the draw counter is mixed, and the counter returns to 0 (R135). -/
def State.mixRemainder (s : State) : State :=
  if s.water.draw = 0 then s
  else { s with water := { s.water with draw := 0 } }.mixStep s.water.draw

/-- `n` full mixing steps, each taking 10 mL from the draw counter (R135). -/
def State.mixFull : Nat → State → State
  | 0, s => s
  | n + 1, s =>
    State.mixFull n ({ s with water := { s.water with draw := s.water.draw - Config.mixVolume } }.mixStep Config.mixVolume)

/-- A metering step's volume joins the draw counter (R135). -/
def State.addDraw (s : State) (volume : Nat) : State :=
  State.mixFull ((s.water.draw + volume) / Config.mixVolume)
    { s with water := { s.water with draw := s.water.draw + volume } }

/-! ### Layers (R161 to R165) -/

def State.channel (s : State) (o : Output) : OutputChannel := s.out.channels[o.idx]

/-- The resolved value of an output. -/
def State.resolved (s : State) (o : Output) : Drive := (s.channel o).resolved

/-- An output is on while its resolved value is ON or PATTERN(n) (R160). -/
def State.isOn (s : State) (o : Output) : Bool := s.resolved o != .off

/-- A valve is open. -/
def State.anyValveOpen (s : State) : Bool := valves.any s.isOn

/-- The opinion of FOLLOW(i) (Table 8-2). -/
def State.followOn (s : State) (i : Fin 6) : Bool :=
  match i.val with
  | 0 => s.switches.paddle.level
  | 1 => s.switches.bin.level
  | 2 => s.switches.home.a.level
  | 3 => s.switches.home.b.level
  | 4 => s.switches.leak.level
  | _ => s.switches.cutout.level

/-- The TEST layer's opinion, before the job gate (R164). -/
def State.testOpinion (s : State) (t : TestValue) : Option Drive :=
  match t with
  | .none => none
  | .off => some .off
  | .on => some .on
  | .pattern n => some (.pattern n)
  | .follow i => some (if s.followOn i then .on else .off)

/-- The FOLLOW layer's opinion (R162). -/
def State.followOpinion (s : State) (o : Output) : Option Drive :=
  if o = .lmp then
    if s.mode = .sabbath then some .off
    else if s.image.lampFollow && s.switches.paddle.level then some .on
    else none
  else none

/-- The SAFETY layer's opinion is OFF (R163). -/
def State.safetyOff (s : State) (o : Output) : Bool := o.hasSafety && s.classA

/-- The job gate holds a claimable output off (R165). -/
def State.gated (s : State) (o : Output) : Bool :=
  o.claimable && (s.channel o).job == .off &&
    match s.testOpinion (s.channel o).test with
    | some d => d != .off
    | none => false

/-- The layer result of an output (R165, Table 8-3 steps 1 and 2). -/
def State.layerResult (s : State) (o : Output) : Drive :=
  if s.safetyOff o then .off
  else match s.testOpinion (s.channel o).test with
    | some d => if s.gated o then .off else d
    | none =>
      match s.followOpinion o with
      | some d => d
      | none => (s.channel o).job

/-! ### Resolution (R165 to R167) -/

/-- The open valve whose layer result stays on. -/
def State.stayingValve (s : State) : Option Output :=
  valves.find? fun v => s.isOn v && s.layerResult v != .off

/-- The valves that want to be on beside the one that stays: those already held, in the order they were held, and then those newly on (R167). -/
def State.valveQueue (s : State) : List Output :=
  let wants := fun v => s.layerResult v != .off && s.stayingValve != some v
  s.out.held.filter wants ++ (valves.filter fun v => wants v && !s.out.held.contains v)

/-- The valve that is open after this resolution (R167). -/
def State.openValve (s : State) : Option Output :=
  match s.stayingValve with
  | some v => some v
  | none => s.valveQueue.head?

/-- The resolved value of an output (Table 8-3 steps 3 and 4). -/
def State.resolveOne (s : State) (o : Output) : Drive :=
  if o = .ef then (if s.layerResult .dh != .off then .off else s.layerResult .ef)
  else if o.isValve then (if s.openValve = some o then s.layerResult o else .off)
  else s.layerResult o

/-- The output of an index. -/
def outputAt (i : Fin 12) : Output := outputs.getD i.val .lmp

/-- The channels after this resolution. -/
def State.newChannels (s : State) : Vector OutputChannel 12 :=
  Vector.ofFn fun i =>
    { s.out.channels[i] with layer := s.layerResult (outputAt i), resolved := s.resolveOne (outputAt i) }

/-! ### Pattern generators (R168, R169) -/

def GenParams.onLength (p : GenParams) : Nat := p.period * p.onTime / 100

/-- Entry to an off phase; one of 0 ms is passed over (R168). -/
def enterOffPhase (p : GenParams) (now : Nat) : Generator :=
  if p.period - p.onLength = 0 then { phase := .onPhase, timer := some (now + p.onLength * Config.ms) }
  else { phase := .offPhase, timer := some (now + (p.period - p.onLength) * Config.ms) }

/-- Entry to an on phase; one of 0 ms is passed over (R168). -/
def enterOnPhase (p : GenParams) (now : Nat) : Generator :=
  if p.onLength = 0 then enterOffPhase p now
  else { phase := .onPhase, timer := some (now + p.onLength * Config.ms) }

/-- A start of a generator (R168, R169). -/
def startGenerator (p : GenParams) (now : Nat) : Generator :=
  if p.pullIn = 0 then enterOnPhase p now
  else { phase := .pullIn, timer := some (now + p.pullIn * Config.ms) }

/-- A generator after a resolution that took the channels from `before` to `after`. -/
def nextGenerator (p : GenParams) (now : Nat) (before after : Vector OutputChannel 12) (n : Fin 4) (g : Generator) : Generator :=
  if outputs.any fun o => after[o.idx].resolved == .pattern n && before[o.idx].resolved != .pattern n then
    startGenerator p now
  else if outputs.any fun o => after[o.idx].resolved == .pattern n then g
  else { phase := .idle, timer := none }

/-- The drive level of an output at this instant: its own value, or its generator's level (R168). -/
def State.driveLevel (s : State) (o : Output) : Bool :=
  match s.resolved o with
  | .off => false
  | .on => true
  | .pattern n => s.out.gens[n].phase == .pullIn || s.out.gens[n].phase == .onPhase

/-! ### What follows from a resolution -/

/-- The valve the water path commands that is open (R131, R133). -/
def State.meteredValve (s : State) : Option Output :=
  valves.find? fun v => (s.channel v).job != .off && s.isOn v

/-- The nominal rate, in 1/256 mL per 100 ms (R132). -/
def Image.nominalRate (i : Image) : Nat := i.nominalFlow * 256 / 10

/-- The meter starts for a new opening: R nominal, the pulse history emptied (R132). -/
def State.meterOpening (s : State) : State :=
  { s with water := { s.water with rate := s.image.nominalRate, pulses := [], openedAt := s.now } }

/-- The meter when the commanded open valve changes: an opening begins its rate and its pulse history and starts one timer, a close stops both (R132, R133). DESIGN CHOICE (notes/assumptions/45): a valve that the water path still commands, closed by a test value and opened again, makes a new opening. -/
def State.meterTimers (s : State) (before : Option Output) : State :=
  if s.meteredValve = before then s
  else match s.meteredValve with
    | none => { s with water := { s.water with silence := none, estimate := none } }
    | some _ =>
      let s1 := s.meterOpening
      if s1.water.estimated then
        { s1 with water := { s1.water with silence := none, estimate := s1.timer Config.estimateTime } }
      else { s1 with water := { s1.water with silence := s1.timer Config.silenceTime, estimate := none } }

/-- The closed watch hears whether any valve was and is open (R137). -/
def State.closedWatch (s : State) (wasOpen : Bool) : State :=
  if s.anyValveOpen then { s with water := { s.water with allClosed := none, armed := false } }
  else if wasOpen then { s with water := { s.water with allClosed := s.timer Config.closedTime } }
  else s

/-- A channel reads above a limit; STARTING and SUBSTITUTED give no temperature (R171). -/
def State.tempAbove (s : State) (c : Channel) (limit : Int) : Bool :=
  !s.substituted c && decide (limit < s.own c.tag)

/-- A temperature condition of OVERTEMP (R171). -/
def State.overtempOf (s : State) (heater : Output) : Bool :=
  s.isOn heater &&
    match heater with
    | .dh => s.tempAbove .evap Config.evapOverTemp
    | .mha => s.tempAbove .moldA Config.moldOverTemp
    | .mhb => s.tempAbove .moldB Config.moldOverTemp
    | _ => false

/-- The heaters with a temperature condition (R171). -/
def heaters : List Output := [.dh, .mha, .mhb]

/-- A resolution after a change, given the valve that was metered before it: every output is resolved, generators start or rest, a valve that closes mixes the remainder, and a heater that becomes on is tested (R165, R169, R171). -/
def State.resolveFrom (s : State) (metered : Option Output) : State :=
  let channels := s.newChannels
  let gens := Vector.ofFn fun n : Fin 4 => nextGenerator s.image.gens[n] s.now s.out.channels channels n s.out.gens[n]
  let held := s.valveQueue.filter fun v => s.openValve != some v
  let s1 := { s with out := { channels := channels, held := held, gens := gens } }
  let s2 := if valves.any fun v => s.isOn v && !s1.isOn v then s1.mixRemainder else s1
  let s3 := (s2.closedWatch s.anyValveOpen).meterTimers metered
  if heaters.any fun h => !s.isOn h && s3.overtempOf h then { s3 with agenda := s3.agenda ++ [.overtemp] } else s3

/-- A resolution at a change that is no job command (R165). -/
def State.resolve (s : State) : State := s.resolveFrom s.meteredValve

/-! ### Job commands (R161) -/

/-- An owner gives a job command, and the outputs are resolved (R165). DESIGN CHOICE (notes/assumptions/47): of several job commands of one event each is resolved in its turn. -/
def State.command (s : State) (o : Output) (d : Drive) : State :=
  if (s.channel o).job = d then s
  else
    State.resolveFrom
      { s with out := { s.out with channels := s.out.channels.set o.idx { s.channel o with job := d } } } s.meteredValve

/-- The water path commands a valve open (R161). -/
def State.openValveJob (s : State) (v : Output) : State := s.command v (.pattern 0)

/-- The drive of DH at a duty (R110, R161). -/
def Duty.drive : Duty → Drive
  | .full => .on
  | .half => .pattern 1

/-- LMP's job command: ON while the water path is DISPENSING or the auger RUNNING (R161). -/
def State.lamp (s : State) : State :=
  s.command .lmp (if s.water.path == .dispensing || s.ice.auger == .running then .on else .off)

/-- An output's state as TEST_OUTPUT answers it: 2 held off by SAFETY, 4 by the job gate, 3 by an interlock, 1 on, 0 off by its layers (R164). DESIGN CHOICE (notes/assumptions/35): 2 whenever SAFETY has an opinion, also where the layers below it would leave the output off. -/
def State.outputState (s : State) (o : Output) : Nat :=
  if s.isOn o then 1
  else if s.safetyOff o then 2
  else if s.gated o then 4
  else if s.layerResult o != .off || (o == .ef && s.isOn .dh) then 3
  else 0

end Sys2Proof.Machine
end

