-- ==== Sys2Proof/Machine/Flags.lean ====
section
/-! DEFINITION. The fault flags and the detail record (R170, R175 to R177), the conditions (R184), and the setters of the states those conditions are made of. -/

namespace Sys2Proof.Machine

/-! ### Fault flags (R170) -/

/-- Set or clear a flag in the flag words. -/
def FaultUnit.put (u : FaultUnit) (f : FaultId) (on : Bool) : FaultUnit :=
  let mask : BitVec 16 := BitVec.ofNat 16 (2 ^ f.bit)
  if f.isA then { u with aFlags := if on then u.aFlags ||| mask else u.aFlags &&& ~~~mask }
  else { u with bFlags := if on then u.bFlags ||| mask else u.bFlags &&& ~~~mask }

/-- FAULT_A_FLAGS and FAULT_B_FLAGS are written as the flags stand. -/
def State.writeFlags (s : State) : State :=
  let s1 := s.write .faultAFlags s.fault.aFlags.toNat
  s1.write .faultBFlags s1.fault.bFlags.toNat

/-- Write LAST_EVENT (R5). -/
def State.writeEvent (s : State) (code : Int) : State := s.write .lastEvent code

/-- The LAST_EVENT code of a raise (R170). -/
def raiseEvent (f : FaultId) : Int := (0x80 + f.code : Nat)

/-! ### The detail record (R176) -/

/-- The capture test finds that this raise captures: the record is absent, or the raise is class A over a class B or over a class A of lower priority. -/
def captures (record : Option Detail) (f : FaultId) : Bool :=
  match record with
  | none => true
  | some d => f.isA && (!d.fault.isA || decide (f.code < d.fault.code))

/-- The circumstances of a fault as they stand (R176). -/
def State.detailNow (s : State) (f : FaultId) : Detail :=
  { fault := f, seconds := s.secondsSinceStart, defrost := s.own .defrostState, moldA := s.own .moldAState
    moldB := s.own .moldBState, path := s.own .waterPathState, f := s.frost.f, lastEvent := s.own .lastEvent }

/-- The capture test (R176). -/
def State.capture (s : State) (f : FaultId) : State :=
  if captures s.fault.record f then { s with fault := { s.fault with record := some (s.detailNow f) } } else s

/-- What every new raise and re-raise does: the capture, the flag, LAST_EVENT, in that order (R170, R178). -/
def State.setFlag (s : State) (f : FaultId) : State :=
  let s1 := s.capture f
  ({ s1 with fault := s1.fault.put f true }.writeFlags).writeEvent (raiseEvent f)

/-- A raise of a class B fault; a repeat writes LAST_EVENT alone (R170, R175). -/
def State.raiseB (s : State) (f : FaultId) : State :=
  if s.fault.isSet f then s.writeEvent (raiseEvent f) else s.setFlag f

/-- The low byte of a mold's code in the record: the state code, plus 0x80 when short (Table 9-2). -/
def moldByte (v : Int) : Byte := BitVec.ofNat 8 (if 256 ≤ v then (v - 256).toNat + 0x80 else v.toNat)

/-- The twelve bytes of the detail record; zeros when absent (Table 9-2, R177). -/
def detailBytes (record : Option Detail) : List Byte :=
  match record with
  | none => List.replicate 12 0
  | some d =>
    [BitVec.ofNat 8 d.fault.code] ++ leBytes 4 d.seconds ++
    [BitVec.ofInt 8 d.defrost, moldByte d.moldA, moldByte d.moldB, BitVec.ofInt 8 d.path] ++
    leBytes 2 d.f ++ [BitVec.ofInt 8 d.lastEvent]

/-! ### Conditions (R184) -/

/-- The condition of a condition code 0 to 14 (Table 10-3). -/
def State.condition (s : State) (code : Nat) : Bool :=
  if code = 0 then true
  else if code % 2 = 1 then s.baseCondition ((code - 1) / 2)
  else !s.baseCondition ((code - 2) / 2)

/-! ### Setting the published states (R6, R69, R99, R119, R141) -/

/-- The path state is set and WATER_PATH_STATE written; the lamp follows (R161). -/
def State.setPath (s : State) (p : PathState) : State :=
  ({ s with water := { s.water with path := p } }.write .waterPathState p.code).lamp

/-- A mold record is set and its state tag written (R141). -/
def State.setMold (s : State) (m : Mold) (r : MoldRecord) : State :=
  { s with ice := { s.ice with molds := s.ice.molds.set m r } }.write m.tag r.tagValue

def State.mold (s : State) (m : Mold) : MoldRecord := s.ice.molds.get m

/-- The auger state is set; the lamp follows (R161). -/
def State.setAuger (s : State) (a : AugerState) : State :=
  { s with ice := { s.ice with auger := a } }.lamp

/-- F is set, within 0 to 65535, and FROST_INDEX written (R82). -/
def State.setF (s : State) (f : Nat) : State :=
  { s with frost := { s.frost with f := min 65535 f } }.write .frostIndex (min 65535 f : Nat)

/-- T is set, within 1200 to 12000, and DEFROST_THRESHOLD written (R82). -/
def State.setT (s : State) (t : Nat) : State :=
  let v := clampNat Config.thresholdLow Config.thresholdHigh t
  { s with frost := { s.frost with t := v } }.write .defrostThreshold (v : Nat)

/-- The hour count is set, within 0 to 65535, and HOURS_SINCE_DEFROST written (R88). -/
def State.setHours (s : State) (h : Nat) : State :=
  { s with frost := { s.frost with hours := min 65535 h } }.write .hoursSinceDefrost (min 65535 h : Nat)

/-- The entries at which the DH class returns to 3 (R69). -/
def DefrostState.resetsClass : DefrostState → Bool
  | .drip | .recovery | .pending | .idle => true
  | _ => false

/-- EF's job command: off from PUMP_DOWN to RECOVERY; otherwise it follows the compressor, which runs while it cannot be heard (R107, R116). -/
def State.fan (s : State) : State :=
  match s.defrost.state with
  | .idle | .pending | .holdWait =>
    s.command .ef (if s.running && s.compressorSpeed != some 0 then .on else .off)
  | _ => s.command .ef .off

/-- An entry to a defrost state: DEFROST_STATE is written, the DH class returns to 3 where R69 says so, and the fan follows (R99, R116). -/
def State.setDefrost (s : State) (d : DefrostState) : State :=
  let s1 := { s with defrost := { s.defrost with state := d } }.write .defrostState d.code
  let s2 := if d.resetsClass then { s1 with share := { s1.share with dhClass := 3, dhRefusals := 0 } } else s1
  s2.fan

end Sys2Proof.Machine
end

