-- ==== Sys2Proof/Machine/Share.lean ====
section
/-! DEFINITION. The share unit (Chapter 3) but for its reports to the jobs: sums, the claim queue, asks, releases, withdrawals and cancels, and the worst-first order. -/

namespace Sys2Proof.Machine

/-! ### Sums (R48, R57, R65, R70) -/

def sumAmps (l : List Nat) : Nat := l.foldl (· + ·) 0

/-- The budget figure of a station (R48). -/
def budgetFigure (unknown : Nat) (r : Option StationRecord) : Nat :=
  match r with
  | none => 0
  | some r =>
    match r.freshness, r.grants with
    | .lost, _ => unknown
    | _, some l => sumAmps (l.map Load.amps)
    | _, none => unknown

/-- The budget figures of all station records. -/
def State.peerTotal (s : State) : Nat :=
  sumAmps (s.view.toList.map (budgetFigure s.image.unknownAllowance))

/-- The own total (R57). -/
def State.ownTotal (s : State) : Nat := sumAmps (s.share.grants.map Grant.amps)

/-- The own claimable total (R57). -/
def State.ownClaimable (s : State) : Nat :=
  sumAmps ((s.share.grants.filter fun g => g.op.isSome).map Grant.amps)

/-- Stamp `a` is earlier in line order than `b`, by their difference modulo 2^32 (R39). -/
def earlier (a b : Stamp) : Bool := (a - b).msb

/-- A pending claim outranks a claim of a class and stamp (R65). -/
def outranks (p : PendingClaim) (cls : Nat) (stamp : Stamp) : Bool :=
  decide (p.cls < cls) || (p.cls == cls && earlier p.stamp stamp)

/-- The currents of the peer pending claims that outrank (R65). -/
def State.outrankingTotal (s : State) (cls : Nat) (stamp : Stamp) : Nat :=
  sumAmps (s.view.toList.flatMap fun r =>
    match r with
    | some r => (r.claims.filter fun p => outranks p cls stamp).map PendingClaim.amps
    | none => [])

/-- The committed current of a claim (R65). -/
def State.committed (s : State) (cls : Nat) (stamp : Stamp) : Nat :=
  s.peerTotal + s.ownTotal + s.outrankingTotal cls stamp

/-- The claim passes the test in force (R66). -/
def State.admits (s : State) (cls amps : Nat) (stamp : Stamp) : Bool :=
  decide (s.committed cls stamp + amps ≤ s.image.budget) &&
    (!s.line.island || decide (s.ownClaimable + amps ≤ s.image.islandAllowance))

/-- The excess is above 0: the committed current without the pending-claim term is above B (R70). -/
def State.inExcess (s : State) : Bool := decide (s.image.budget < s.peerTotal + s.ownTotal)

/-- The excess is recomputed; if above 0 it starts a stopped shed delay timer (R70). -/
def State.recomputeExcess (s : State) : State :=
  if s.inExcess && s.share.shedDelay.isNone then
    { s with share := { s.share with shedDelay := s.timer Config.shedDelay } }
  else s

/-! ### What the share unit holds for an operation -/

def State.grantOf (s : State) (op : LoadOp) : Option Grant := s.share.grants.find? fun g => g.op == some op
def State.entryOf (s : State) (op : LoadOp) : Option ClaimEntry := s.share.queue.find? fun e => e.op == op
def State.suspensionOf (s : State) (op : LoadOp) : Option Suspension := s.share.suspended.find? fun r => r.op == op
def State.flightOf (s : State) (op : LoadOp) : Option Claim :=
  match s.share.flight with
  | some c => if c.op = op then some c else none
  | none => none

/-- Anything at all is held for an operation (R80). -/
def State.holdsFor (s : State) (op : LoadOp) : Bool :=
  (s.grantOf op).isSome || (s.entryOf op).isSome || (s.flightOf op).isSome || (s.suspensionOf op).isSome

/-! ### The claim queue's order (R62) and the DH class (R69) -/

/-- Entry `a` stands before entry `b` in queue order. -/
def ClaimEntry.before (a b : ClaimEntry) : Bool :=
  decide (a.cls < b.cls) || (a.cls == b.cls && decide (a.asked < b.asked))

/-- Join the queue: by class, then time asked, then order of joining. -/
def insertEntry (e : ClaimEntry) : List ClaimEntry → List ClaimEntry
  | [] => [e]
  | x :: rest => if e.before x then e :: x :: rest else x :: insertEntry e rest

def State.enqueueClaim (s : State) (e : ClaimEntry) : State :=
  { s with share := { s.share with queue := insertEntry e s.share.queue } }

/-- The lowest class the conditions of R69 and the class already reached give. -/
def escalated (cls refusals f t : Nat) : Nat :=
  if 2 * t ≤ f then min cls 1
  else if 2 ≤ refusals ∨ 3 * t ≤ 2 * f then min cls 2
  else min cls 3

/-- The DH class is re-evaluated; a waiting DH entry takes it and moves to its new place (R69). -/
def State.reevaluateDh (s : State) : State :=
  let cls := escalated s.share.dhClass s.share.dhRefusals s.frost.f s.frost.t
  let s1 := { s with share := { s.share with dhClass := cls } }
  match s1.entryOf .dh with
  | some e =>
    if e.cls = cls then s1
    else
      { s1 with
        share := { s1.share with
          queue := insertEntry { e with cls := cls } (s1.share.queue.filter fun x => x.op != .dh) } }
  | none => s1

/-- The class a claim entry for an operation carries now (R58). -/
def State.classOf (s : State) (op : LoadOp) : Nat :=
  match op with
  | .dh => s.share.dhClass
  | op => op.baseClass

/-- The current of an operation in Table 3-1. -/
def Image.ampsOf (i : Image) : LoadOp → Nat
  | .dh => i.dhAmps
  | .mha => i.mhaAmps
  | .mhb => i.mhbAmps
  | .aug => i.augAmps

/-- Entries in the suspension list's order: class, then time suspended, then order of the sheds (R76). -/
def insertSuspension (r : Suspension) : List Suspension → List Suspension
  | [] => [r]
  | x :: rest =>
    if r.cls < x.cls ∨ (r.cls = x.cls ∧ r.since < x.since) then r :: x :: rest else x :: insertSuspension r rest

/-! ### Asks (R59) -/

/-- What an ask is answered at once: nothing yet, REFUSED under class A, or GRANTED again. -/
inductive AskReply where
  | wait
  | refused
  | granted (amps : Nat)
deriving DecidableEq, Repr

/-- The effect of an ask by what is held for the operation (R59, R68). -/
def State.placeAsk (s : State) (op : LoadOp) (amps : Nat) : State :=
  match s.flightOf op, s.entryOf op, s.suspensionOf op with
  | some c, _, none =>
    if c.cancelled then { s with share := { s.share with flight := some { c with lateAsk := some (amps, s.now) } } }
    else { s with share := { s.share with flight := some { c with nextAsk := some amps } } }
  | some c, _, some _ =>
    { s with
      share := { s.share with
        flight := some (if c.cancelled then c else { c with nextAsk := some amps })
        suspended := s.share.suspended.map fun r => if r.op = op then { r with amps := amps } else r } }
  | none, e, some _ =>
    { s with
      share := { s.share with
        suspended := s.share.suspended.map fun r => if r.op = op then { r with amps := amps } else r
        queue := if e.isSome then s.share.queue.map fun x => if x.op = op then { x with amps := amps } else x else s.share.queue } }
  | none, some _, none =>
    { s with
      share := { s.share with queue := s.share.queue.map fun x => if x.op = op then { x with amps := amps } else x } }
  | none, none, none =>
    s.enqueueClaim
      { op := op, cls := s.classOf op, amps := amps, asked := s.now, retryAt := none, reclaim := false }

/-- An ask naming an operation and a current (R59). A DH ask re-evaluates the DH class first (R69). -/
def State.ask (s : State) (op : LoadOp) (amps : Nat) : State :=
  if s.classA then s
  else if (s.grantOf op).isSome then s
  else
    let s1 := if op = .dh then s.reevaluateDh else s
    s1.placeAsk op amps

/-- The report an ask gets at once (R59). -/
def State.askReply (s : State) (op : LoadOp) : AskReply :=
  if s.classA then .refused
  else match s.grantOf op with
    | some g => .granted g.amps
    | none => .wait

/-! ### Releases, withdrawals and cancels (R60, R61, R68) -/

/-- A release: the grant leaves the list, a RELEASE is offered, a publish request made, the excess recomputed (R60). -/
def State.releaseLoad (s : State) (op : LoadOp) : State :=
  match s.grantOf op with
  | none => s
  | some g =>
    let s1 := { s with share := { s.share with grants := s.share.grants.filter fun x => x.op != some op } }
    ((s1.offerRelease g.tag g.cls).publishRequest).recomputeExcess

/-- The claim in flight ends; an ask that came while it was cancelled becomes an entry (R68). -/
def State.endFlight (s : State) : State :=
  match s.share.flight with
  | none => s
  | some c =>
    let s1 := { s with share := { s.share with flight := none } }
    match c.lateAsk with
    | none => s1
    | some (amps, asked) =>
      s1.enqueueClaim { op := c.op, cls := s1.classOf c.op, amps := amps, asked := asked, retryAt := none, reclaim := false }

/-- The claim in flight is cancelled by its phase: taken from the transmit queue while its CLAIM waits there, else marked (R68). -/
def State.cancelFlight (s : State) : State :=
  match s.share.flight with
  | none => s
  | some c =>
    if c.phase = .offered ∧ s.line.waiting TxFrame.isClaim then
      { s with
        line := { s.line with queue := s.line.queue.filter fun f => !f.isClaim }
        share := { s.share with flight := none } }
    else { s with share := { s.share with flight := some { c with cancelled := true, nextAsk := none, lateAsk := none } } }

/-- The re-claim timer is started anew (R77). -/
def State.startReclaim (s : State) : State :=
  { s with share := { s.share with reclaim := s.timer Config.reclaimTime } }

/-- A suspension record is removed; the re-claim timer restarts while the list still holds one (R77). -/
def State.dropSuspension (s : State) (op : LoadOp) : State :=
  if (s.suspensionOf op).isSome then
    let s1 := { s with share := { s.share with suspended := s.share.suspended.filter fun r => r.op != op } }
    if s1.share.suspended.isEmpty then s1 else s1.startReclaim
  else s

/-- A queued claim entry is removed (R61). -/
def State.dropEntry (s : State) (op : LoadOp) : State :=
  { s with share := { s.share with queue := s.share.queue.filter fun e => e.op != op } }

/-- A withdrawal: whatever is held for the operation goes (R61). -/
def State.withdraw (s : State) (op : LoadOp) : State :=
  let s1 := s.dropEntry op
  let s2 := if (s1.flightOf op).isSome then s1.cancelFlight else s1
  (s2.releaseLoad op).dropSuspension op

/-! ### General release (R80) -/

/-- The share unit holds something a general release removes. DESIGN CHOICE (notes/assumptions/30): a claim in flight that is already cancelled counts. -/
def State.holdsAny (s : State) : Bool :=
  s.share.grants.any (fun g => g.op.isSome) || !s.share.queue.isEmpty || s.share.flight.isSome || !s.share.suspended.isEmpty

/-- A RELEASE for each own grant but the baseline, in grant order (R80). -/
def State.releaseAll (s : State) : State :=
  let given := s.share.grants.filter fun g => g.op.isSome
  let s1 := { s with share := { s.share with grants := s.share.grants.filter fun g => g.op.isNone } }
  given.foldl (fun st g => st.offerRelease g.tag g.cls) s1

/-- A general release; one that finds nothing makes no publish request (R80). -/
def State.generalRelease (s : State) : State :=
  let s1 := s.releaseAll.cancelFlight
  let s2 := { s1 with share := { s1.share with queue := [], suspended := [], reclaim := none } }
  (if s.holdsAny then s2.publishRequest else s2).recomputeExcess

/-! ### Worst-first order (R72) -/

/-- A known grant in the walk: its current, and the own operation it belongs to, if it is the part's own. -/
structure KnownGrant where
  amps : Nat
  own  : Option LoadOp
deriving DecidableEq, Repr

/-- The known grants of one station and class, later position first. -/
def State.knownOf (s : State) (a : Addr) (cls : Nat) : List KnownGrant :=
  if a = s.image.ownAddress then
    ((s.share.grants.filter fun g => g.cls == cls).map fun g => ({ amps := g.amps, own := g.op } : KnownGrant)).reverse
  else match s.record a with
    | some r =>
      if r.freshness = .lost then []
      else (((r.grants.getD []).filter fun g => g.cls == cls).map fun g => ({ amps := g.amps, own := none } : KnownGrant)).reverse
    | none => []

/-- Station addresses, higher first. -/
def addressesDown : List Addr := [14, 13, 12, 11, 10, 9, 8, 7, 6, 5, 4, 3, 2, 1]

/-- The worst-first order: class higher first, address higher first, later position first; class 0 left out (R72). -/
def State.worstFirst (s : State) : List KnownGrant :=
  [7, 6, 5, 4, 3, 2, 1].flatMap fun cls => addressesDown.flatMap fun a => s.knownOf a cls

/-- The shed prefix: grants from the head until their sum is at or above the excess (R73). -/
def shedPrefix : Nat → List KnownGrant → List KnownGrant
  | _, [] => []
  | 0, _ => []
  | excess, g :: rest => g :: shedPrefix (excess - g.amps) rest

/-- The own operations of a list of known grants, in its order. -/
def ownOps (l : List KnownGrant) : List LoadOp := l.filterMap KnownGrant.own

/-- A grant placed behind those of a higher class, before those of its own class or a lower one. -/
def insertWorst (g : Grant) : List Grant → List Grant
  | [] => [g]
  | x :: rest => if x.cls ≤ g.cls then g :: x :: rest else x :: insertWorst g rest

/-- The own grants worst first: class higher first, later position first (R72, R75). -/
def worstGrants (l : List Grant) : List Grant := l.reverse.foldr insertWorst []

/-- The own claimable operations worst first (R75). -/
def State.ownWorstFirst (s : State) : List LoadOp := (worstGrants s.share.grants).filterMap Grant.op

end Sys2Proof.Machine
end

