-- ==== Sys2Proof/Machine/Defrost.lean ====
section
/-! DEFINITION. Frost accounting (R83 to R98) and the defrost controller (R99 to R118): the operations the commands are made of. -/

namespace Sys2Proof.Machine

/-! ### The frost increment (R84, R85, R87) -/

/-- Ta: AMBIENT_TEMP clamped to −100 to 500, or 320 while invalid (R85). -/
def State.ambientTemp (s : State) : Int :=
  match s.door tagAmbientTemp with
  | some v => clampInt (-100) 500 v
  | none => 320

/-- RH: AMBIENT_RH clamped to 0 to 100, or 70 while invalid (R85). -/
def State.ambientRh (s : State) : Int :=
  match s.door tagAmbientRh with
  | some v => clampInt 0 100 v
  | none => 70

/-- The moisture weight M (R87 step 2). -/
def moistureWeight (rh ta : Int) : Nat := (Int.fdiv (rh * (ta + 100)) 4000).toNat

/-- A door's seconds at the minute's end: at least the door allowance when its mark is set (R84). -/
def doorSeconds (mark : Bool) (count allowance : Nat) : Nat := if mark then max count allowance else count

/-- The frost increment (R87 step 4). -/
def frostIncrement (r m dz dr h : Nat) : Nat := r / 15 + 2 * m * dz + m * dr / 2 + 8 * h

/-- The increment of the minute in hand; in SABBATH the door terms are 0 (R87 steps 1 to 4). -/
def State.minuteIncrement (s : State) : Nat :=
  let fr := s.frost
  let dz := if s.mode = .sabbath then 0 else doorSeconds fr.freezerMark fr.dz Config.freezerDoorAllowance
  let dr := if s.mode = .sabbath then 0 else doorSeconds fr.fridgeMark fr.dr Config.fridgeDoorAllowance
  frostIncrement fr.r (moistureWeight s.ambientRh s.ambientTemp) dz dr fr.h

/-- The accumulators and marks are cleared (R87 step 6). -/
def State.clearMinute (s : State) : State :=
  { s with frost := { s.frost with r := 0, dz := 0, dr := 0, h := 0, freezerMark := false, fridgeMark := false } }

/-- The minute is discarded: SHOWROOM, or a defrost past PENDING (R87). -/
def State.minuteDiscarded (s : State) : Bool :=
  s.mode == .showroom || !(s.defrost.state == .idle || s.defrost.state == .pending)

/-- The threshold test finds F ≥ T with the gap state allowing it (R89, R90). -/
def State.thresholdTest (s : State) : Bool :=
  decide (s.frost.t ≤ s.frost.f) &&
    match s.frost.gap with
    | .minGap => decide (Config.minGap ≤ s.frost.hours)
    | .retryWait => false
    | .retryOpen => true

/-- The max gap test (R91). -/
def State.maxGapTest (s : State) : Bool := decide (Config.maxGap ≤ s.frost.hours)

/-- One door's sample at a frost second: its count and mark (R84). -/
def doorSample (v : Option Int) (count : Nat) (mark : Bool) : Nat × Bool :=
  match v with
  | none => (count, true)
  | some v => (if v = 0 then count else count + 1, mark)

/-- The samples of a frost second (R83, R84). -/
def State.frostSamples (s : State) : State :=
  let z := doorSample (s.door tagDoorFreezer) s.frost.dz s.frost.freezerMark
  let f := doorSample (s.door tagDoorFridge) s.frost.dr s.frost.fridgeMark
  { s with
    frost := { s.frost with
      r := if s.compressorSpeed = some 0 then s.frost.r else s.frost.r + 1
      dz := z.1, freezerMark := z.2, dr := f.1, fridgeMark := f.2
      seconds := s.frost.seconds + 1 } }

/-- The harvest report (R86). -/
def State.reportHarvest (s : State) : State :=
  { s with frost := { s.frost with h := min 2 (s.frost.h + 1) } }

/-! ### The end of a defrost, as accounted (R93 to R96) -/

inductive EndReport where
  | complete | overtime | timed
deriving DecidableEq, Repr

/-- T after a COMPLETE report (R94). -/
def adaptedT (t tEq2 : Nat) : Nat :=
  let t1 := t * 1800 / max tEq2 120
  clampNat Config.thresholdLow Config.thresholdHigh (clampNat (3 * t / 4) (5 * t / 4) t1)

/-- T after a report (R94 to R96). -/
def reportedT (rep : EndReport) (t tEq2 : Nat) : Nat :=
  match rep with
  | .complete => adaptedT t tEq2
  | .overtime => max Config.thresholdLow (3 * t / 4)
  | .timed => t

/-- A completed defrost: T, then F, the hours and the gap state; OVERTIME reports DEFROST_OVERTIME (R93, R95). DESIGN CHOICE (notes/assumptions/31): the report is last, so that a detail record captured by it holds F = 0 (R176). -/
def State.frostCompleted (s : State) (rep : EndReport) (tEq2 : Nat) : State :=
  let s1 := ((s.setT (reportedT rep s.frost.t tEq2)).setF 0).setHours 0
  let s2 := { s1 with frost := { s1.frost with hourTimer := s1.timer Config.hour, gap := .minGap, retryTimer := none } }
  match rep with
  | .overtime => s2.raiseB .defrostOvertime
  | _ => s2

/-- An ABANDONED or ABORTED report: the retry gap starts (R89, R93). -/
def State.frostNotCompleted (s : State) : State :=
  { s with frost := { s.frost with gap := .retryWait, retryTimer := s.timer Config.hour } }

/-! ### The compressor hold (R103 to R106) -/

/-- HOLD_COMPRESSOR with the 600 s duration (R103, R106). -/
def State.offerHold (s : State) : State := s.offerOwnRequest kindHoldCompressor (leBytes 2 600)

/-- RELEASE_COMPRESSOR (R106). -/
def State.offerReleaseCompressor (s : State) : State := s.offerOwnRequest kindReleaseCompressor []

/-- Entry to PUMP_DOWN with a hold state (R104, R105, R107). -/
def State.enterPumpDown (s : State) (hold : HoldState) : State :=
  let s1 := { s with defrost := { s.defrost with hold := hold, speed := none, dwell := s.timer Config.minute } }
  s1.setDefrost .pumpDown

/-- The test that ends a hold attempt well: outside island operation DONE and a valid speed of 0, in island operation the speed alone (R104, R105). -/
def State.holdCheck (s : State) : State :=
  if s.defrost.state = .holdWait ∧ s.compressorSpeed = some 0 then
    if s.line.island then s.enterPumpDown .unconfirmed
    else if s.defrost.answered then s.enterPumpDown .held
    else s
  else s

/-- A hold attempt (R103). -/
def State.beginHold (s : State) : State :=
  let tag := s.defrost.seqCounter
  let s1 := { s with defrost := { s.defrost with hold := .asked, answered := false } }.setDefrost .holdWait
  let s2 := s1.offerHold
  let s3 := { s2 with
    defrost := { s2.defrost with
      outstanding := some tag
      answer := s2.timer Config.answerTime, speed := s2.timer Config.speedTime, renew := s2.timer Config.minute } }
  if s3.line.island then s3.holdCheck else s3

/-- The leave test (R101). -/
def State.leaveTest (s : State) : State :=
  if s.defrost.state = .pending ∧ s.mode ≠ .showroom ∧ s.classA = false ∧ s.defrost.inhibit = none ∧ s.defrost.holdRetry = none then
    s.beginHold
  else s

/-- A failed hold attempt (R104). DESIGN CHOICE (notes/assumptions/41): a failure after the third, in a defrost that SHOWROOM has returned to PENDING, counts on and is taken as a third. -/
def State.failHold (s : State) : State :=
  let n := s.defrost.attempts + 1
  let s1 := { s with defrost := { s.defrost with attempts := n, answer := none, speed := none, outstanding := none } }
  if n < 3 then
    let s2 := s1.offerReleaseCompressor
    let s3 := { s2 with defrost := { s2.defrost with renew := none, hold := .none, holdRetry := s2.timer Config.holdRetry } }
    s3.setDefrost .pending
  else
    let s2 := s1.raiseB .holdRefused
    { s2 with defrost := { s2.defrost with renew := none } }.enterPumpDown .refused

/-- What becomes of a demand (R100). -/
inductive DemandOutcome where
  | taken | joined | notTaken
deriving DecidableEq, Repr

def State.demandOutcome (s : State) : DemandOutcome :=
  match s.defrost.state with
  | .idle => .taken
  | .pending => .joined
  | _ => .notTaken

/-- A defrost demand reaches the controller (R100). -/
def State.demand (s : State) : State :=
  match s.demandOutcome with
  | .taken =>
    ({ s with defrost := { s.defrost with attempts := 0, hold := .none, duty := .full } }.setDefrost .pending).leaveTest
  | _ => s

/-- A test that raises a demand (R90, R91). -/
def State.demandIf (s : State) (c : Bool) : State := if c then s.demand else s

/-- WRITE_FROST_INDEX, followed by the threshold test (R97). -/
def State.writeFrostIndex (s : State) (v : Nat) : State :=
  let s1 := s.setF v
  s1.demandIf s1.thresholdTest

/-! ### Heating and its end (R108 to R115) -/

/-- Every exit from HEATING: DH off, the heating second timer stopped (R110). -/
def State.heaterOff (s : State) : State :=
  { (s.command .dh .off) with defrost := { (s.command .dh .off).defrost with heatSecond := none } }

/-- Entry to DRIP (R114). -/
def State.enterDrip (s : State) : State :=
  let s1 := (s.setDefrost .drip).command .dr .on
  { s1 with defrost := { s1.defrost with drip := s1.timer Config.dripTime } }

/-- RECOVERY ends (R115). -/
def State.endRecovery (s : State) : State :=
  { s with defrost := { s.defrost with fan := none } }.setDefrost .idle

/-- Entry to RECOVERY; W6 already active ends it at once (R106, R115). -/
def State.enterRecovery (s : State) : State :=
  let s1 := s.offerReleaseCompressor
  let s2 := { s1 with defrost := { s1.defrost with renew := none, hold := .none } }.setDefrost .recovery
  let s3 := { s2 with defrost := { s2.defrost with fan := s2.timer Config.dripTime } }
  if s3.watchActive 6 then s3.endRecovery else s3

/-- The end of heating with a report (R111). -/
def State.endHeating (s : State) (rep : EndReport) : State :=
  ((s.heaterOff.releaseLoad .dh).frostCompleted rep s.defrost.tEq2).enterDrip

/-- W0 ends heating, or a pause (R111, R112). -/
def State.terminate (s : State) : State :=
  match s.defrost.state with
  | .heating => s.endHeating .complete
  | .paused => (s.withdraw .dh).endHeating .complete
  | _ => s

/-- The limits of heating by time (R111). DESIGN CHOICE (notes/assumptions/5): OVERTIME is tested before TIMED. -/
def State.limitTest (s : State) : State :=
  if s.defrost.state = .heating then
    if 4800 ≤ s.defrost.tEq2 ∨ 3600 ≤ s.defrost.heatSeconds then s.endHeating .overtime
    else if s.substituted .evap ∧ 2400 ≤ s.defrost.tEq2 then s.endHeating .timed
    else s
  else s

/-- The moment EVAP becomes substituted: the TIMED test alone (R111). -/
def State.evapSubstituted (s : State) : State :=
  if s.defrost.state = .heating ∧ s.substituted .evap ∧ 2400 ≤ s.defrost.tEq2 then s.endHeating .timed else s

/-- Entry to HEATING with the duty in force, and the tests made there (R110, R111). -/
def State.enterHeating (s : State) : State :=
  let s1 := s.setDefrost .heating
  let s2 := { s1 with defrost := { s1.defrost with heatSecond := s1.timer Config.sec } }
  let s3 := s2.command .dh s2.defrost.duty.drive
  if s3.watchActive 0 then s3.endHeating .complete else s3.limitTest

/-- The duty a current gives (R108). -/
def dutyOf (full amps : Nat) : Duty := if amps = full then .full else .half

/-- GRANTED for DH: in HEAT_CLAIM, or a re-grant with its context in PAUSED (R108, R112). -/
def State.dhGranted (s : State) (amps : Nat) (context : Option SavedContext) : State :=
  let s1 := { s with defrost := { s.defrost with duty := dutyOf s.image.dhAmps amps } }
  match s.defrost.state, context with
  | .heatClaim, _ => s1.enterHeating
  | .paused, some (.defrost t _) => { s1 with defrost := { s1.defrost with tEq2 := t } }.enterHeating
  | .paused, _ => s1.enterHeating
  | _, _ => s

/-- The current of an ask at a duty (R109). -/
def askAmps (full : Nat) : Duty → Nat
  | .full => full
  | .half => full / 2

/-- The duty chosen at a refusal with count `n` of 2 or more (R109). -/
def chosenDuty (n f t full : Nat) : Duty :=
  if 3 * t ≤ 2 * f then .full
  else if 3 ≤ full / 2 then (if n % 2 = 0 then .half else .full)
  else .full

/-- The current held for DH: the claim entry's, or the suspension record's (R109). -/
def State.dhCurrent (s : State) : Option Nat :=
  match s.suspensionOf .dh, s.entryOf .dh with
  | some r, _ => some r.amps
  | none, some e => some e.amps
  | none, none => none

/-- REFUSED for DH with the consecutive refusal count (R109). -/
def State.dhRefused (s : State) (n : Nat) : State :=
  if (s.defrost.state = .heatClaim ∨ s.defrost.state = .paused) ∧ 2 ≤ n then
    let d := chosenDuty n s.frost.f s.frost.t s.image.dhAmps
    let amps := askAmps s.image.dhAmps d
    let s1 := { s with defrost := { s.defrost with duty := d } }
    if s.dhCurrent = some amps then s1 else s1.ask .dh amps
  else s

/-- SHED for DH (R112). -/
def State.dhShed (s : State) : State :=
  if s.defrost.state = .heating then s.heaterOff.setDefrost .paused else s.heaterOff

/-- The saved context of a shed DH (R112). -/
def State.dhContext (s : State) : SavedContext := .defrost s.defrost.tEq2 s.defrost.duty

/-- ABANDONED for DH outside SHOWROOM (R113). -/
def State.dhAbandoned (s : State) : State :=
  if s.defrost.state = .paused ∧ s.mode ≠ .showroom then s.frostNotCompleted.enterDrip else s

/-- The dwell ends: HEAT_CLAIM and the ask for DH (R107). -/
def State.enterHeatClaim (s : State) : State :=
  let s1 := { s with defrost := { s.defrost with dwell := none, tEq2 := 0, heatSeconds := 0, duty := .full } }.setDefrost .heatClaim
  let reply := s1.askReply .dh
  let s2 := s1.ask .dh s1.image.dhAmps
  match reply with
  | .granted amps => s2.dhGranted amps none
  | _ => s2

/-! ### Faults and modes (R117, R118) -/

/-- Abort of the current step at a new class A raise (R117). -/
def State.abortDefrost (s : State) : State :=
  match s.defrost.state with
  | .holdWait =>
    let s1 := { s with defrost := { s.defrost with answer := none, speed := none, renew := none, outstanding := none } }.offerReleaseCompressor
    ({ s1 with defrost := { s1.defrost with hold := .none } }.frostNotCompleted).setDefrost .pending
  | .pumpDown | .heatClaim | .heating | .paused =>
    let s1 := { s with defrost := { s.defrost with dwell := none } }.heaterOff
    ((s1.withdraw .dh).frostNotCompleted).enterRecovery
  | .drip =>
    let s1 := s.command .dr .off
    { s1 with defrost := { s1.defrost with drip := none } }.enterRecovery
  | _ => s

/-- Entry to SHOWROOM (R118). -/
def State.showroomDefrost (s : State) : State :=
  match s.defrost.state with
  | .holdWait | .pumpDown | .heatClaim =>
    let s1 := { s with
      defrost := { s.defrost with answer := none, speed := none, renew := none, dwell := none, outstanding := none } }
    let s2 := (s1.withdraw .dh).offerReleaseCompressor
    { s2 with defrost := { s2.defrost with hold := .none } }.setDefrost .pending
  | .heating | .paused => (s.heaterOff.withdraw .dh).enterDrip
  | _ => s

end Sys2Proof.Machine
end

