-- ==== Sys2Proof/Machine/Ice.lean ====
section
/-! DEFINITION. The ice controller (Chapter 7) up to the water path: freezing, harvest holds, claim, heat, eject, shed and abandonment, and the auger. -/

namespace Sys2Proof.Machine

/-! ### Freezing (R143, R144) -/

/-- The freeze test is met: while the channel is good, the least timer has expired and the freeze point is active; while it is substituted, the timed timer has expired (R143). -/
def State.frozen (s : State) (m : Mold) : Bool :=
  if s.substituted m.channel then (s.mold m).timedFreeze.isNone
  else (s.mold m).leastFreeze.isNone && s.watchActive m.freezePoint

/-- A harvest hold applies (R145). -/
def State.harvestHeld (s : State) : Bool :=
  s.switches.bin.level || s.whileApplies .suspendHarvest || s.classA || s.mode == .showroom

/-! ### Claim, heat and eject (R146 to R148) -/

/-- Entry to EJECT (R148). -/
def State.enterEject (s : State) (m : Mold) : State :=
  let s1 := s.setMold m { s.mold m with
    state := .eject, resumeEject := false, heatSecond := none
    leaveSeen := !(s.switches.home.get m).level, eject := s.timer Config.ejectTime }
  (s1.command m.heater .on).command m.ejector (.pattern 2)

/-- The heat end test; `atSecond` at a heater second, where a harvest resumed from EJECT also ends its heating (R147). -/
def State.heatEnds (s : State) (m : Mold) (atSecond : Bool) : Bool :=
  let r := s.mold m
  (if s.substituted m.channel then decide (150 ≤ r.heatSeconds)
   else s.watchActive m.releasePoint || decide (180 ≤ r.heatSeconds)) || (atSecond && r.resumeEject)

/-- The heat end test is made (R147); a suspended mold takes no action (R150). -/
def State.heatEndTest (s : State) (m : Mold) (atSecond : Bool) : State :=
  if (s.mold m).state = .harvestHeat ∧ (s.mold m).suspended = false ∧ s.heatEnds m atSecond then s.enterEject m else s

/-- Entry to HARVEST_HEAT (R147). -/
def State.enterHarvestHeat (s : State) (m : Mold) : State :=
  let s1 := s.setMold m { s.mold m with state := .harvestHeat, heatSecond := s.timer Config.sec }
  (s1.command m.heater .on).heatEndTest m false

/-- Entry to HARVEST_CLAIM, with the ask (R146). -/
def State.enterHarvestClaim (s : State) (m : Mold) : State :=
  let s1 := s.setMold m { s.mold m with state := .harvestClaim }
  let s2 := s1.ask m.op (s1.image.ampsOf m.op)
  match s1.askReply m.op with
  | .granted _ => s2.enterHarvestHeat m
  | _ => s2

/-- The hold test (R145). -/
def State.holdTestMold (s : State) (m : Mold) : State :=
  if (s.mold m).state = .harvestPending ∧ s.harvestHeld = false then
    (s.setMold m { s.mold m with heatSeconds := 0 }).enterHarvestClaim m
  else s

/-- The hold test of both molds, each in its own test (R145). DESIGN CHOICE (notes/assumptions/46): Mold A's test, and so its ask, comes first. -/
def State.holdTests (s : State) : State := (s.holdTestMold .a).holdTestMold .b

/-- Entry to HARVEST_PENDING (R145). -/
def State.enterHarvestPending (s : State) (m : Mold) : State :=
  (s.setMold m { s.mold m with state := .harvestPending }).holdTestMold m

/-- The freeze test is made; the ice controller runs in RUN alone (R141, R143). -/
def State.freezeTest (s : State) (m : Mold) : State :=
  if s.running ∧ (s.mold m).state = .freezing ∧ s.frozen m then
    (s.setMold m { s.mold m with leastFreeze := none, timedFreeze := none }).enterHarvestPending m
  else s

/-- Entry to FREEZING (R143). -/
def State.enterFreezing (s : State) (m : Mold) : State :=
  let least := if (s.mold m).short then Config.leastFreezeShort else Config.leastFreeze
  (s.setMold m { s.mold m with
    state := .freezing, leastFreeze := s.timer least, timedFreeze := s.timer Config.timedFreeze }).freezeTest m

/-- A mold channel has become substituted or has returned to NORMAL: the freeze and heat end tests (R143, R147). -/
def State.moldChannelChange (s : State) (m : Mold) : State := (s.freezeTest m).heatEndTest m false

/-! ### Reports from the share unit (R146, R150 to R152) -/

/-- GRANTED: to a mold in HARVEST_CLAIM, or as a re-grant with its context to a suspended one (R146, R151). -/
def State.moldGranted (s : State) (m : Mold) (context : Option SavedContext) : State :=
  let r := s.mold m
  if r.suspended then
    match context with
    | some (.harvest secs phase) =>
      (s.setMold m { r with suspended := false, heatSeconds := secs, resumeEject := r.resumeEject || phase == .eject }).enterHarvestHeat m
    | _ => (s.setMold m { r with suspended := false }).enterHarvestHeat m
  else if r.state = .harvestClaim then s.enterHarvestHeat m
  else s

/-- The saved context of a shed harvest (R150). -/
def State.moldContext (s : State) (m : Mold) : SavedContext :=
  .harvest (s.mold m).heatSeconds (if (s.mold m).state = .eject then .eject else .heat)

/-- Heater and ejector off at the job layer. -/
def State.moldOff (s : State) (m : Mold) : State := (s.command m.heater .off).command m.ejector .off

/-- SHED for a mold heater (R150). -/
def State.moldShed (s : State) (m : Mold) : State :=
  let s1 := s.moldOff m
  s1.setMold m { s1.mold m with heatSecond := none, eject := none, suspended := true }

/-- ABANDONED for a mold heater outside SHOWROOM (R152). DEDUCED (notes/assumptions/37): the resume-from-eject mark, which R152 does not list, stays. -/
def State.moldAbandoned (s : State) (m : Mold) : State :=
  if (s.mold m).suspended ∧ s.mode ≠ .showroom then
    (s.setMold m { s.mold m with suspended := false, heatSeconds := 0 }).enterHarvestPending m
  else s

/-! ### Faults and modes (R153, R154) -/

/-- A harvest is in progress (the last row of R153's table). -/
def MoldState.inHarvest : MoldState → Bool
  | .harvestClaim | .harvestHeat | .eject | .stallWait => true
  | _ => false

/-- The last row of R153's table, for a class A raise and for SHOWROOM. -/
def State.abortMold (s : State) (m : Mold) : State :=
  if (s.mold m).state.inHarvest then
    let s1 := (s.moldOff m).withdraw m.op
    (s1.setMold m { s1.mold m with
      heatSecond := none, eject := none, stallWait := none, suspended := false, resumeEject := false
      heatSeconds := 0 }).enterHarvestPending m
  else s

def State.abortMolds (s : State) : State := (s.abortMold .a).abortMold .b

/-! ### The auger (R156 to R159) -/

/-- The paddle test (R156). -/
def State.paddleTest (s : State) : Bool :=
  s.panelQuantity tagPaddleIce == some 1 && s.isFresh s.image.panel

/-- AUG off, the run timer stopped, the auger IDLE (R158, R159). -/
def State.augerOff (s : State) : State :=
  let s1 := s.command .aug .off
  { s1 with ice := { s1.ice with runTimer := none } }.setAuger .idle

/-- CLAIMING or RUNNING ends: the claim is withdrawn or the grant released (R157, R158). -/
def State.endAuger (s : State) : State :=
  match s.ice.auger with
  | .claiming => (s.withdraw .aug).augerOff
  | .running => (s.command .aug .off).releaseLoad .aug |>.augerOff
  | .idle => s

/-- GRANTED for AUG (R157). -/
def State.augerGranted (s : State) : State :=
  if s.ice.auger = .claiming then
    let s1 := s.command .aug .on
    { s1 with ice := { s1.ice with runTimer := s1.timer Config.augerRun } }.setAuger .running
  else s

/-- SHED for AUG: AUGER_STOPPED is written (R159). -/
def State.augerShed (s : State) : State :=
  if s.ice.auger = .running then s.augerOff.writeEvent eventAugerStopped else s.augerOff

/-- A class A raise, or ABANDONED for AUG (R159). -/
def State.augerAborted (s : State) : State :=
  if s.ice.auger = .idle then s else s.augerOff

end Sys2Proof.Machine
end

