-- ==== Sys2Proof/Machine/WaterPath.lean ====
section
/-! DEFINITION. The water path controller (Chapter 6): fills, dispensing and metering, and the ice controller's use of fills (R142, R148, R155). -/

namespace Sys2Proof.Machine

/-! ### Fills (R120 to R123) -/

/-- The mold fill target in 1/256 mL. -/
def State.fillTarget (s : State) : Nat := s.image.fillTargetMl * 256

/-- The mold is in the fill queue, is the current fill or is the held fill (R120). -/
def State.fillKnown (s : State) (m : Mold) : Bool :=
  s.water.queue.any (fun f => f.mold == m) ||
  (match s.water.current with | some f => f.mold == m | none => false) ||
  (match s.water.held with | some f => f.mold == m | none => false)

/-- The ice controller is told that a mold's fill has opened (R121, R142). -/
def State.fillOpened (s : State) (m : Mold) : State :=
  if (s.mold m).state = .fillWait then s.setMold m { s.mold m with state := .filling } else s

/-- A fill opens (R121). -/
def State.openFill (s : State) (f : Fill) : State :=
  let s1 := { s with
    water := { s.water with
      current := some f
      fillLimit := s.timer ((Config.fillLimitMs - f.openMs) * Config.ms) } }.setPath .filling
  (s1.openValveJob f.mold.valve).fillOpened f.mold

/-- Mode, class A flags and start-up state allow a fill (R119, R121). -/
def State.fillsAllowed (s : State) : Bool := s.running && s.mode != .showroom && !s.classA

/-- The start test: the held fill, or else the head of the queue, opens; else the path is IDLE (R121). -/
def State.startTest (s : State) : State :=
  if s.fillsAllowed then
    match s.water.held, s.water.queue with
    | some f, _ => { s with water := { s.water with held := none } }.openFill f
    | none, f :: rest => { s with water := { s.water with queue := rest } }.openFill { f with openMs := 0 }
    | none, [] => s.setPath .idle
  else s.setPath .idle

/-- A fill request (R120); an entry added while the path is IDLE makes the start test (R121). -/
def State.fillRequest (s : State) (m : Mold) : State :=
  if s.fillKnown m then s
  else
    let r := s.mold m
    let s1 := { s with
      water := { s.water with queue := s.water.queue ++ [{ mold := m, owed := r.owed, attempt := r.attempt, openMs := 0 }] } }
    if s1.water.path = .idle then s1.startTest else s1

/-- The fill's valve closes at the job layer, its limit timer stops, and the remainder of the draw counter is mixed (R120, R122, R126, R138). -/
def State.closeFill (s : State) (f : Fill) : State :=
  let s1 := s.command f.mold.valve .off
  { s1 with water := { s1.water with fillLimit := none } }.mixRemainder

/-- The grade of an ended fill (R123). -/
inductive Grade where
  | full | short | retry | noWater
deriving DecidableEq, Repr

def gradeOf (target : Nat) (f : Fill) : Grade :=
  if f.owed = 0 then .full
  else if target ≤ 4 * (target - f.owed) then .short
  else if f.attempt = 1 then .retry
  else .noWater

/-- The ice controller takes a grade (R142); NO_WATER is reported first (R123). -/
def State.takeGrade (s : State) (f : Fill) (g : Grade) : State :=
  let m := f.mold
  match g with
  | .full => (s.setMold m { s.mold m with short := false }).enterFreezing m
  | .short => (s.setMold m { s.mold m with short := true }).enterFreezing m
  | .retry =>
    s.setMold m { s.mold m with state := .fillWait, owed := f.owed, attempt := 2, fillRetry := s.timer Config.minute }
  | .noWater =>
    let s1 := s.raiseB .noWater
    s1.setMold m { s1.mold m with state := .outOfService }

/-- The current fill ends: closed, graded, and the start test made (R122). -/
def State.endFill (s : State) : State :=
  match s.water.current with
  | none => s
  | some f =>
    let s1 := s.closeFill f
    let s2 := { s1 with water := { s1.water with current := none } }
    (s2.takeGrade f (gradeOf s2.fillTarget f)).startTest

/-- A fill withdrawal (R120). -/
def State.withdrawFill (s : State) (m : Mold) : State :=
  let s1 := { s with
    water := { s.water with
      queue := s.water.queue.filter fun f => f.mold != m
      held := match s.water.held with | some f => if f.mold = m then none else some f | none => none } }
  match s1.water.current with
  | some f =>
    if f.mold = m then
      let s2 := s1.closeFill f
      { s2 with water := { s2.water with current := none } }.startTest
    else s1
  | none => s1

/-- The valve-open time of the current fill, in ms (R122). DESIGN CHOICE (notes/assumptions/32): a part of a millisecond counts as one. -/
def State.fillOpenMs (s : State) : Nat :=
  match s.water.fillLimit with
  | some deadline => Config.fillLimitMs - (deadline - s.now) / Config.ms
  | none => Config.fillLimitMs

/-! ### Dispensing (R125 to R129) -/

/-- The panel hold could be set: PADDLE_WATER valid and 1, the panel FRESH (R125). -/
def State.panelReady (s : State) : Bool :=
  s.panelQuantity tagPaddleWater == some 1 && s.isFresh s.image.panel

/-- The panel hold of the running dispense. -/
def State.panelHold (s : State) : Bool :=
  match s.water.dispense with
  | some d => d.panelHold
  | none => false

/-- The holds of Table 6-4 are present. -/
def State.holdsPresent (s : State) : Bool :=
  match s.image.source with
  | .panel => s.panelHold
  | .line => s.water.lineHold
  | .either => s.panelHold || s.water.lineHold
  | .both => s.panelHold && s.water.lineHold

/-- Under FALLING and RISING a stop clears the line hold (R124, R129). -/
def State.clearLineHold (s : State) : State :=
  match s.image.edge with
  | .levelLow => s
  | _ => { s with water := { s.water with lineHold := false } }

/-- DISPENSED_VOLUME: whole mL, rounded down, at most 2000 (R129). -/
def State.writeDispensed (s : State) (counted : Nat) : State :=
  s.write .dispensedVolume (min 2000 (counted / 256) : Nat)

/-- What every stop of a dispense does before the path moves on (R129 steps 1 to 4, R138). -/
def State.closeDispense (s : State) (d : Dispense) : State :=
  let s1 := s.command .dv .off
  let s2 := { s1 with water := { s1.water with dispenseLimit := none } }.mixRemainder
  let s3 := (s2.writeDispensed d.counted).clearLineHold
  { s3 with water := { s3.water with dispense := none } }

/-- A dispense stops, other than by a class A raise (R129). -/
def State.stopDispense (s : State) : State :=
  match s.water.dispense with
  | none => s
  | some d =>
    let s1 := s.closeDispense d
    { s1 with water := { s1.water with settling := s1.timer Config.settlingTime } }.setPath .settling

/-- The hold test (R129). -/
def State.holdTest (s : State) : State :=
  if s.water.path = .dispensing ∧ s.holdsPresent = false then s.stopDispense else s

/-- The panel hold is cleared, and the hold test made (R125). -/
def State.clearPanelHold (s : State) : State :=
  match s.water.dispense with
  | some d =>
    if d.panelHold then
      { s with water := { s.water with dispense := some { d with panelHold := false } } }.holdTest
    else s
  | none => s

/-- A paddle quantity ends what it holds: it is 0 or invalid, or the panel is not FRESH (R125, R158). DESIGN CHOICE (notes/assumptions/33): a value other than 0 and 1 ends nothing. -/
def State.paddleEnds (s : State) (tag : Byte) : Bool :=
  s.panelQuantity tag == none || s.panelQuantity tag == some 0 || !s.isFresh s.image.panel

/-- PADDLE_WATER has changed, or the panel's freshness has (R125). -/
def State.paddleWaterChange (s : State) : State := if s.paddleEnds tagPaddleWater then s.clearPanelHold else s

/-- PADDLE_ICE has changed or become invalid, or the panel's freshness has changed (R157, R158). -/
def State.paddleIceChange (s : State) : State := if s.paddleEnds tagPaddleIce then s.endAuger else s

/-- The requested limit of a volume: 2000 mL for 0; in 1/256 mL (R127). -/
def requestedLimit (ml : Nat) : Nat := (if ml = 0 then 2000 else ml) * 256

/-- The warm cap (R27, R127). -/
def warmCap : Nat := 300 * 256

/-- A fill is preempted by a dispense (R126). -/
def State.preempt (s : State) : State :=
  match s.water.current with
  | none => s
  | some f =>
    let used := s.fillOpenMs
    let s1 := s.closeFill f
    { s1 with water := { s1.water with current := none, held := some { f with openMs := used } } }

/-- The start of a dispense (R126, R127). -/
def State.startDispense (s : State) (owner : DispenseOwner) (ml : Nat) : State :=
  let s1 := if s.water.path = .filling then s.preempt else s
  let capped := s1.whileApplies .limitDispense
  let asked := requestedLimit ml
  let d : Dispense :=
    { owner := owner, limit := if capped then min asked warmCap else asked, capped := capped, counted := 0
      panelHold := owner == .panel }
  let s2 := { s1 with
    water := { s1.water with dispense := some d, settling := none, dispenseLimit := s1.timer Config.dispenseTime } }
  ((s2.writeDispensed 0).setPath .dispensing).openValveJob .dv

/-- DONE or LIMITED after a start (R127). -/
def State.startAnswer (s : State) (ml : Nat) : Nat :=
  match s.water.dispense with
  | some d => if d.limit < requestedLimit ml then resLimited else resDone
  | none => resDone

/-- An update of a panel-owned dispense (R127). -/
def State.updateDispense (s : State) (d : Dispense) (ml : Nat) : State :=
  let limit := if d.capped then min (requestedLimit ml) warmCap else requestedLimit ml
  let s1 := { s with
    water := { s.water with dispense := some { d with limit := max limit d.counted, panelHold := d.panelHold || s.panelReady } } }
  if limit ≤ d.counted then s1.stopDispense else s1

/-- DONE or LIMITED of an update (R127). -/
def updateAnswer (d : Dispense) (ml : Nat) : Nat :=
  let limit := if d.capped then min (requestedLimit ml) warmCap else requestedLimit ml
  if max limit d.counted = requestedLimit ml then resDone else resLimited

/-- The line start attempt (R128). -/
def State.lineStart (s : State) : State :=
  match s.image.source with
  | .panel | .both => s
  | .line | .either =>
    match s.water.path with
    | .dispensing => s
    | .locked => s.clearLineHold
    | _ => if s.running && s.mode != .showroom then s.startDispense .line 0 else s.clearLineHold

/-- The line hold changes: present makes the line start attempt, absent the hold test (R124). -/
def State.setLineHold (s : State) (present : Bool) : State :=
  let s1 := { s with water := { s.water with lineHold := present } }
  if present then s1.lineStart else s1.holdTest

/-- A qualified edge of the paddle line under the edge select (R124). -/
def State.paddleEdge (s : State) (low : Bool) : State :=
  match s.image.edge with
  | .levelLow => s.setLineHold low
  | .falling => if low then s.setLineHold (!s.water.lineHold) else s
  | .rising => if low then s else s.setLineHold (!s.water.lineHold)

/-! ### Metering (R131 to R134) -/

/-- The part of a metering step that counts towards the delivery (R131). -/
def State.countStep (s : State) (volume : Nat) : State :=
  match s.water.path, s.water.dispense, s.water.current with
  | .dispensing, some d, _ =>
    if s.isOn .dv then
      let d' := { d with counted := d.counted + volume }
      { s with water := { s.water with dispense := some d' } }.writeDispensed d'.counted
    else s
  | .filling, _, some f =>
    if s.isOn f.mold.valve then
      { s with water := { s.water with current := some { f with owed := f.owed - volume } } }
    else s
  | _, _, _ => s

/-- The limit tests after a metering step (R122, R129, R134). -/
def State.stepLimits (s : State) : State :=
  match s.water.path, s.water.dispense, s.water.current with
  | .dispensing, some d, _ => if s.isOn .dv ∧ d.limit ≤ d.counted then s.stopDispense else s
  | .filling, _, some f => if s.isOn f.mold.valve ∧ f.owed = 0 then s.endFill else s
  | _, _, _ => s

/-- A metering step with a valve open: delivery, draw counter, limits (R131, R134, R135). -/
def State.meteringStep (s : State) (volume : Nat) : State :=
  ((s.countStep volume).addDraw volume).stepLimits

/-- The pulse moments in the 2 s that end now, this pulse included (R132). -/
def recentPulses (now : Nat) (pulses : List Nat) : List Nat :=
  now :: pulses.filter fun t => decide (now < t + Config.rateWindow)

/-- The meter at a pulse while the commanded valve is open: history, rate, silence timer (R132, R133). -/
def State.ratePulse (s : State) : State :=
  match s.meteredValve with
  | none => s
  | some _ =>
    let pulses := recentPulses s.now s.water.pulses
    let rate :=
      if s.water.openedAt + Config.rateWindow ≤ s.now then pulses.length * s.image.meterK / 20 else s.water.rate
    { s with water := { s.water with pulses := pulses, rate := rate, silence := s.timer Config.silenceTime } }

/-- A pulse returns the meter to COUNTED (R131). -/
def State.toCounted (s : State) : State :=
  { s with water := { s.water with estimated := false, estimate := none } }

/-- A pulse that the armed closed watch counts (R137), but for the report; the closed volume is left at its sum. -/
def State.closedPulse (s : State) : State :=
  { s with
    water := { s.water with
      closedVolume := s.water.closedVolume + s.image.meterK, runawayHold := s.timer Config.closedTime } }

/-! ### Class A and the path (R138, R139) -/

/-- A fill returned to the head of the queue, its valve-open time dropped; the mold enters FILL_WAIT (R138, R142). -/
def State.returnFill (s : State) (f : Fill) : State :=
  let s1 := { s with
    water := { s.water with
      queue := { f with openMs := 0 } :: (s.water.queue.filter fun g => g.mold != f.mold), current := none, held := none } }
  if (s1.mold f.mold).state = .filling then
    s1.setMold f.mold { s1.mold f.mold with state := .fillWait, owed := f.owed }
  else s1

/-- A held fill, if there is one, is returned (R138). -/
def State.returnHeld (s : State) : State :=
  match s.water.held with
  | some f => s.returnFill f
  | none => s

/-- The path at a new class A raise (R138). -/
def State.lockPath (s : State) : State :=
  match s.water.path with
  | .locked => s
  | .idle => s.returnHeld.setPath .locked
  | .dispensing =>
    match s.water.dispense with
    | some d => ((s.closeDispense d).returnHeld).setPath .locked
    | none => s.returnHeld.setPath .locked
  | .settling => ({ s with water := { s.water with settling := none } }.returnHeld).setPath .locked
  | .filling =>
    match s.water.current with
    | some f => ((s.closeFill f).returnFill f).setPath .locked
    | none => s.setPath .locked

/-- The last class A flag is cleared (R139). -/
def State.unlockPath (s : State) : State :=
  if s.water.path = .locked then (s.setPath .idle).startTest else s

/-! ### The ice controller's fills, completion and enabling (R142, R148, R155) -/

/-- The completion of a harvest (R148). -/
def State.completeHarvest (s : State) (m : Mold) : State :=
  let s1 := s.moldOff m
  let s2 := (s1.setMold m { s1.mold m with eject := none }).releaseLoad m.op
  let s3 := s2.reportHarvest
  let s4 := s3.setMold m { s3.mold m with
    stalls := 0, heatSeconds := 0, short := false, owed := s3.fillTarget, attempt := 1, state := .fillWait }
  s4.fillRequest m

/-- A qualified edge of a home switch reaches its mold (R13, R148); a suspended mold takes no action (R150). -/
def State.homeEdge (s : State) (m : Mold) (home : Bool) : State :=
  let r := s.mold m
  if r.state = .eject ∧ r.suspended = false then
    if home then (if r.leaveSeen then s.completeHarvest m else s)
    else s.setMold m { r with leaveSeen := true }
  else s

/-- A stall (R149). -/
def State.stall (s : State) (m : Mold) : State :=
  let s1 := (s.moldOff m).releaseLoad m.op
  let r : MoldRecord := { s1.mold m with eject := none, heatSeconds := 0, stalls := (s1.mold m).stalls + 1 }
  if r.stalls = 1 then s1.setMold m { r with state := .stallWait, stallWait := s1.timer Config.stallWait }
  else (s1.raiseB .ejectorStall).setMold m { r with state := .outOfService }

/-- MOLD_ENABLE off (R155). -/
def State.disableMold (s : State) (m : Mold) : State :=
  if (s.mold m).state = .outOfService then s
  else
    let s1 := s.moldOff m
    let s2 := s1.setMold m { s1.mold m with
      fillRetry := none, leastFreeze := none, timedFreeze := none, heatSecond := none, eject := none, stallWait := none }
    let s3 := (s2.withdrawFill m).withdraw m.op
    s3.setMold m { s3.mold m with suspended := false, resumeEject := false, state := .outOfService }

/-- MOLD_ENABLE on (R155). -/
def State.enableMold (s : State) (m : Mold) : State :=
  if (s.mold m).state = .outOfService then
    (s.setMold m { s.mold m with
      stalls := 0, heatSeconds := 0, attempt := 1, owed := s.fillTarget, short := false }).enterFreezing m
  else s

end Sys2Proof.Machine
end

