-- ==== Sys2Proof/Machine/Faults.lean ====
section
/-! DEFINITION. The fault unit: raises of class A faults and what they reach (R170 to R173), the clear test and the clears (R174, R178, R179). -/

namespace Sys2Proof.Machine

/-- The class A faults, highest priority first (section 9.1). -/
def classAFaults : List FaultId := [.leak, .runaway, .overtemp]

/-- The highest-priority class A flag set (R173). -/
def FaultUnit.highestA (u : FaultUnit) : Option FaultId := classAFaults.find? u.isSet

/-- A NOTICE of frame class 0 and fault class 1 with a fault's code (R173). -/
def State.offerFaultNotice (s : State) (f : FaultId) : State := s.offerNotice 0 (BitVec.ofNat 8 f.code) 1

/-- The notice repeat timer is started, or restarted (R173). -/
def State.startNoticeRepeat (s : State) : State :=
  { s with fault := { s.fault with noticeTimer := s.timer Config.noticeRepeat } }

/-- The NOTICE of a raise or re-raise, and the repeat timer (R173). -/
def State.announce (s : State) (f : FaultId) : State := (s.offerFaultNotice f).startNoticeRepeat

/-- A raise of a class A fault; a repeat writes LAST_EVENT alone. The order of the blocks of R172 is the model's (notes/assumptions/6). -/
def State.raiseA (s : State) (f : FaultId) : State :=
  if s.fault.isSet f then s.writeEvent (raiseEvent f)
  else
    ((((((s.setFlag f).resolve).generalRelease).lockPath).abortDefrost).abortMolds).augerAborted.announce f

/-- A raise of any fault (R170). -/
def State.raise (s : State) (f : FaultId) : State := if f.isA then s.raiseA f else s.raiseB f

/-- A sensor fault's condition: its channel is HOLDING or SUBSTITUTED (R11). -/
def State.sensorLost (s : State) (c : Channel) : Bool :=
  match (s.sensors.get c).state with
  | .holding | .substituted => true
  | _ => false

/-- The clear test (Table 9-1, R171). -/
def State.conditionHolds (s : State) (f : FaultId) : Bool :=
  match f with
  | .leak => s.switches.leak.level
  | .runaway => s.water.runawayHold.isSome
  | .overtemp => s.switches.cutout.level || heaters.any s.overtempOf
  | .sensorEvap => s.sensorLost .evap
  | .sensorFreezer => s.sensorLost .freezerAir
  | .sensorMoldA => s.sensorLost .moldA
  | .sensorMoldB => s.sensorLost .moldB
  | .flowSilent => s.water.estimated
  | .linkStuck => s.line.mode == .stuck
  | _ => false

/-- The record is freed at the clear of the flag it describes (R177). -/
def State.freeRecord (s : State) (f : FaultId) : State :=
  match s.fault.record with
  | some d => if d.fault = f then { s with fault := { s.fault with record := none } } else s
  | none => s

/-- One set flag is cleared, or found still present and set again (R178). -/
def State.clearFlag (s : State) (f : FaultId) : State :=
  let s1 := s.freeRecord f
  if s1.conditionHolds f then
    let s2 := (s1.capture f).writeEvent (raiseEvent f)
    if f.isA then s2.announce f else s2
  else { s1 with fault := s1.fault.put f false }.writeFlags

/-- What follows when the last class A flag has been cleared (R174). DESIGN CHOICE (notes/assumptions/49): the outputs are resolved without the SAFETY layer's opinion before the water path makes its start test. -/
def State.lastClassACleared (s : State) : State :=
  ((({ s with fault := { s.fault with noticeTimer := none } }.resolve).unlockPath).leaveTest).holdTests

/-- R174 applies if a clear has taken the last class A flag. -/
def State.afterClear (s : State) (hadA : Bool) : State :=
  if hadA && !s.classA then s.lastClassACleared else s

/-- FAULT_A_FLAGS and FAULT_B_FLAGS as CLEAR_FAULT answers them (R178). -/
def State.flagBytes (s : State) : List Byte := leBytes 2 s.fault.aFlags.toNat ++ leBytes 2 s.fault.bFlags.toNat

/-- CLEAR_FAULT of a single code: the state after it and the result code (R178). -/
def State.clearSingle (s : State) (f : FaultId) : State × Nat :=
  if !s.fault.isSet f then (s, resDone)
  else if f = .runaway ∧ s.mode ≠ .service then (s, resRefusedMode)
  else if s.conditionHolds f then (s.clearFlag f, resStillPresent)
  else ((s.clearFlag f).afterClear s.classA, resDone)

/-- RUNAWAY is passed over outside SERVICE (R179). -/
def State.passedOver (s : State) (f : FaultId) : Bool := f == .runaway && s.mode != .service

/-- The faults that CLEAR_FAULT with 0xFF takes, in code order. -/
def State.takenByAll (s : State) : List FaultId := faultIds.filter fun f => s.fault.isSet f && !s.passedOver f

/-- CLEAR_FAULT with 0xFF (R179). -/
def State.clearAll (s : State) : State × Nat :=
  let s1 := s.takenByAll.foldl State.clearFlag s
  let code :=
    if s.takenByAll.any s1.fault.isSet then resStillPresent
    else if s.fault.isSet .runaway && s.passedOver .runaway then resRefusedMode
    else resDone
  (s1.afterClear s.classA, code)

end Sys2Proof.Machine
end

