-- ==== Sys2Proof/Machine/Grants.lean ====
section
/-! DEFINITION. The share unit's decisions and its reports to the jobs: the offer of a claim, grants, refusals, sheds, abandonment, the entry to and exit from island operation, and the re-claim (R54, R55, R62 to R80). -/

namespace Sys2Proof.Machine

/-! ### Reports to the jobs (section 3.2) -/

/-- GRANTED, with the saved context of a re-claim (R66, R78). -/
def State.reportGranted (s : State) (op : LoadOp) (amps : Nat) (context : Option SavedContext) : State :=
  match op with
  | .dh => s.dhGranted amps context
  | .mha => s.moldGranted .a context
  | .mhb => s.moldGranted .b context
  | .aug => s.augerGranted

/-- SHED (R74). -/
def State.reportShed (s : State) (op : LoadOp) : State :=
  match op with
  | .dh => s.dhShed
  | .mha => s.moldShed .a
  | .mhb => s.moldShed .b
  | .aug => s.augerShed

/-- ABANDONED (R79). -/
def State.reportAbandoned (s : State) (op : LoadOp) : State :=
  match op with
  | .dh => s.dhAbandoned
  | .mha => s.moldAbandoned .a
  | .mhb => s.moldAbandoned .b
  | .aug => s.augerAborted

/-- The context a job hands over at a shed; none for AUG (R74, R76). -/
def State.shedContext (s : State) (op : LoadOp) : Option SavedContext :=
  match op with
  | .dh => some s.dhContext
  | .mha => some (s.moldContext .a)
  | .mhb => some (s.moldContext .b)
  | .aug => none

/-! ### Grants (R66) -/

/-- The saved context a granted claim hands back (R78). -/
def State.claimContext (s : State) (c : Claim) : Option SavedContext :=
  if c.reclaim then (s.suspensionOf c.op).map Suspension.context else none

/-- The grant joins the list and the claim in flight ends; a suspension record leaves in the same event (R66, R78). -/
def State.joinGrant (s : State) (c : Claim) : State :=
  let s1 := { s with
    share := { s.share with
      grants := s.share.grants ++ [{ op := some c.op, cls := c.cls, amps := c.amps, tag := c.tag }]
      flight := none
      dhRefusals := if c.op = .dh then 0 else s.share.dhRefusals } }
  if c.reclaim then s1.dropSuspension c.op else s1

/-- A claim is granted (R66). -/
def State.grantClaim (s : State) (c : Claim) : State :=
  (((s.joinGrant c).reportGranted c.op c.amps (s.claimContext c)).publishRequest).recomputeExcess

/-! ### Refusals (R67) -/

/-- A refusal of a DH claim is counted, and the DH class re-evaluated (R69). -/
def State.countRefusal (s : State) (op : LoadOp) : State :=
  if op = .dh then
    { s with share := { s.share with dhRefusals := min 255 (s.share.dhRefusals + 1) } }.reevaluateDh
  else s

/-- The moment a refused claim becomes eligible again: 2 s and 0.25 s for each unit of the own address (R67). -/
def State.retryMoment (s : State) : Nat := s.now + Config.retryBase + Config.retryStep * s.image.ownAddress.toNat

/-- A refused re-claim leaves its record, with the next ask as its current (R67). -/
def State.keepRecord (s : State) (c : Claim) : State :=
  { s with
    share := { s.share with
      suspended := s.share.suspended.map fun r =>
        if r.op = c.op then { r with amps := c.nextAsk.getD r.amps } else r } }

/-- What happens to the operation of a refused claim (R67). -/
def State.requeue (s : State) (c : Claim) : State :=
  if c.reclaim then (s.keepRecord c).startReclaim
  else
    s.enqueueClaim
      { op := c.op, cls := s.classOf c.op, amps := c.nextAsk.getD c.amps, asked := c.asked
        retryAt := some s.retryMoment, reclaim := false }

/-- A claim is refused; `heard` when peers have received it, so that a RELEASE is offered (R63, R67). -/
def State.refuseClaim (s : State) (c : Claim) (heard : Bool) : State :=
  let s1 := if heard then s.offerRelease c.tag c.cls else s
  let s2 := ({ s1 with share := { s1.share with flight := none } }.countRefusal c.op).requeue c
  if c.op = .dh then s2.dhRefused s2.share.dhRefusals else s2

/-! ### Deciding and offering (R62 to R66) -/

/-- The window of the claim in flight expires (R66 to R68). -/
def State.decideClaim (s : State) : State :=
  match s.share.flight with
  | none => s
  | some c =>
    match c.phase with
    | .offered => s
    | .opened stamp _ =>
      if c.cancelled then (s.offerRelease c.tag c.cls).endFlight
      else if s.admits c.cls c.amps stamp then s.grantClaim c
      else s.refuseClaim c true

/-- An entry's retry time is absent or has passed (R62). -/
def ClaimEntry.eligible (e : ClaimEntry) (now : Nat) : Bool :=
  match e.retryAt with
  | none => true
  | some t => decide (t ≤ now)

/-- The first eligible entry in queue order (R62). -/
def State.firstEligible (s : State) : Option ClaimEntry := s.share.queue.find? fun e => e.eligible s.now

/-- The conditions of R62 but for the eligible entry. -/
def State.mayClaim (s : State) : Bool :=
  s.running && s.share.flight.isNone && s.line.returnListen.isNone && !s.classA

/-- The claim in flight made from an entry with the next claim tag (R63). -/
def ClaimEntry.claim (e : ClaimEntry) (tag : Byte) : Claim :=
  { op := e.op, tag := tag, cls := e.cls, amps := e.amps, asked := e.asked, phase := .offered, cancelled := false
    reclaim := e.reclaim, nextAsk := none, lateAsk := none }

/-- A claim entry is offered: it leaves the queue for the line (R63); a CLAIM the queue does not take is refused. -/
def State.offerEntry (s : State) (e : ClaimEntry) : State :=
  let c := e.claim s.share.tagCounter
  let s1 := { s with
    share := { s.share with
      queue := s.share.queue.filter fun x => x.op != e.op
      flight := some c, tagCounter := s.share.tagCounter + 1 } }
  if s1.takes then s1.offer (newFrame allStations c.cls (.claim c.tag c.cls c.amps)) else s1.refuseClaim c false

/-- The next claim is offered; a DH entry's class is re-evaluated first (R63, R69). -/
def State.offerNextClaim (s : State) : State :=
  match s.firstEligible with
  | none => s
  | some e =>
    if e.op = .dh then
      let s1 := s.reevaluateDh
      s1.offerEntry ((s1.entryOf .dh).getD e)
    else s.offerEntry e

/-! ### Sheds (R71 to R76) -/

/-- The suspension record of a shed grant (R76). -/
def State.suspensionRecord (s : State) (op : LoadOp) (g : Grant) (context : SavedContext) : Suspension :=
  { op := op, cls := g.cls, amps := g.amps, context := context, since := s.now, abandon := s.now + op.abandonTime }

/-- The record joins the list, and the re-claim timer starts (R76, R77). -/
def State.suspend (s : State) (r : Suspension) : State :=
  { s with share := { s.share with suspended := insertSuspension r s.share.suspended } }.startReclaim

/-- One own grant is shed (R73, R74). -/
def State.shedOp (s : State) (op : LoadOp) : State :=
  match s.grantOf op with
  | none => s
  | some g =>
    let s1 := { s with share := { s.share with grants := s.share.grants.filter fun x => x.op != some op } }
    let s2 := (s1.offerRelease g.tag g.cls).reportShed op
    match s.shedContext op with
    | some context => s2.suspend (s2.suspensionRecord op g context)
    | none => s2

/-- The excess, 0 when there is none (R70). -/
def State.excess (s : State) : Nat := s.peerTotal + s.ownTotal - s.image.budget

/-- The own operations in the shed prefix, worst first (R73). -/
def State.shedOps (s : State) : List LoadOp := ownOps (shedPrefix s.excess s.worstFirst)

/-- The walk: sheds, one publish request, and the excess again (R71, R73). -/
def State.shedWalk (s : State) : State :=
  if s.inExcess then
    if s.shedOps.isEmpty then s
    else ((s.shedOps.foldl State.shedOp s).publishRequest).recomputeExcess
  else s

/-- Sheds at an island entry, one after another until the island allowance holds (R75). -/
def State.islandSheds (s : State) : State :=
  s.ownWorstFirst.foldl (fun st op => if st.image.islandAllowance < st.ownClaimable then st.shedOp op else st) s

/-- The island entry shed of R75, with its publish request and recomputation. DESIGN CHOICE (notes/assumptions/44): of several sheds the excess is recomputed, and the publish request made, once, after the last. -/
def State.islandShed (s : State) : State :=
  if s.image.islandAllowance < s.ownClaimable then s.islandSheds.publishRequest.recomputeExcess else s

/-! ### Island operation (R54, R55) -/

/-- Entry to island operation; nothing when already there (R54). -/
def State.enterIsland (s : State) : State :=
  if s.line.island then s
  else
    let s1 := { s with
      line := { s.line with
        island := true, lineGood := false, returnListen := none
        goodTimer := if s.pins.line then none else s.timer Config.lineGoodTime } }.reportWords
    (s1.publishRequest.islandShed).holdCheck

/-- Exit from island operation (R55, R77). -/
def State.exitIsland (s : State) : State :=
  let s1 := { s with line := { s.line with island := false, goodTimer := none } }.reportWords.publishRequest
  let s2 := { s1 with
    store := { s1.store with changed := s1.image.publish }
    line := { s1.line with clearing := [], returnListen := s1.timer Config.returnListen } }
  if s2.share.suspended.isEmpty then s2 else s2.startReclaim

/-! ### Re-claim and abandonment (R77, R79) -/

/-- The re-claim entry of a suspension record (R77). -/
def State.reclaimEntry (s : State) (r : Suspension) : ClaimEntry :=
  { op := r.op, cls := if r.op = .dh then s.share.dhClass else r.cls, amps := r.amps, asked := s.now
    retryAt := none, reclaim := true }

/-- The re-claim timer expires: the head of the list gets its entry (R77). -/
def State.reclaimHead (s : State) : State :=
  match s.share.suspended with
  | [] => s
  | r :: _ =>
    if (s.entryOf r.op).isSome || (s.flightOf r.op).isSome then s
    else
      let s1 := if r.op = .dh then s.reevaluateDh else s
      s1.enqueueClaim (s1.reclaimEntry r)

/-- A suspension record is abandoned (R79). -/
def State.abandon (s : State) (op : LoadOp) : State :=
  let s1 := (s.dropSuspension op).dropEntry op
  let s2 := if (s1.flightOf op).isSome then s1.cancelFlight else s1
  s2.reportAbandoned op

end Sys2Proof.Machine
end

