-- ==== Sys2Proof/Machine/View.lean ====
section
/-! DEFINITION. The station view (R2, R3, R45 to R51), what each of its changes tells the share unit and the jobs, and the reception of frames (R38 to R40, R55). -/

namespace Sys2Proof.Machine

/-! ### Records (R45, R46) -/

/-- A record as its first frame creates it (R45). -/
def StationRecord.new (now : Nat) : StationRecord :=
  { freshness := .fresh, heard := now, grants := none, claims := [], quantities := [], notice := none }

def State.setRecord (s : State) (a : Addr) (r : Option StationRecord) : State :=
  { s with view := s.view.set a.toFin r }

/-- Change a station's record, if it has one. -/
def State.modifyRecord (s : State) (a : Addr) (g : StationRecord → StationRecord) : State :=
  match s.record a with
  | some r => s.setRecord a (some (g r))
  | none => s

/-- A record that is FRESH or STALE. -/
def StationRecord.live (r : StationRecord) : Bool :=
  match r.freshness with
  | .lost => false
  | _ => true

/-- Some record is FRESH or STALE (R54). -/
def State.anyLive (s : State) : Bool :=
  s.view.toList.any fun r =>
    match r with
    | some r => r.live
    | none => false

/-! ### Tags of interest (R2) -/

/-- The role station of a shared tag (Table 1-1). -/
def State.roleStation (s : State) (tag : Byte) : Option Addr :=
  if tag == tagCompressorSpeed then some s.image.compressor
  else if decide (2 ≤ tag.toNat) && decide (tag.toNat ≤ 6) then some s.image.doorReporter
  else if decide (7 ≤ tag.toNat) && decide (tag.toNat ≤ 9) then some s.image.panel
  else none

/-- A watch point names the pair as source or reference. -/
def State.watchNames (s : State) (a : Addr) (tag : Byte) : Bool :=
  s.image.watch.toList.any fun c => c.source == some (.peer a tag) || c.reference == some (.peer a tag)

/-- The tag is of interest for the station (R2). -/
def State.ofInterest (s : State) (a : Addr) (tag : Byte) : Bool :=
  s.roleStation tag == some a || s.watchNames a tag

/-! ### What a change tells the jobs (R46) -/

/-- A peer quantity has changed, in value or validity: the jobs that act at the change (R104, R116, R125, R156). -/
def State.jobsHear (s : State) (a : Addr) (tag : Byte) : State :=
  if a = s.image.compressor ∧ tag = tagCompressorSpeed then s.holdCheck.fan
  else if a = s.image.panel ∧ tag = tagPaddleWater then s.paddleWaterChange
  else if a = s.image.panel ∧ tag = tagPaddleIce then s.paddleIceChange
  else s

/-- A peer quantity has changed: watch points and jobs (R6). -/
def State.peerChanged (s : State) (a : Addr) (tag : Byte) : State := (s.notify (.peer a tag)).jobsHear a tag

/-- A record's freshness has changed or the record has gone: the share unit, and the panel's consumers (R46, R70, R125, R156). -/
def State.freshnessChanged (s : State) (a : Addr) : State :=
  let s1 := s.recomputeExcess
  if a = s1.image.panel then s1.paddleWaterChange.paddleIceChange else s1

/-- A tag and its value placed among a record's quantities, in tag order. -/
def setQuantity (tag : Byte) (v : Int) : List (Byte × Int) → List (Byte × Int)
  | [] => [(tag, v)]
  | (t, w) :: rest =>
    if tag = t then (t, v) :: rest
    else if tag.toNat < t.toNat then (tag, v) :: (t, w) :: rest
    else (t, w) :: setQuantity tag v rest

/-- One quantity item of a STATUS from station `a` (R1, R2, R6). -/
def State.takeItem (a : Addr) (s : State) (q : QuantityItem) : State :=
  let v := readValue (tagSigned q.tag) q.value
  if s.ofInterest a q.tag then
    if s.peer a q.tag = some v then s
    else
      (s.modifyRecord a fun r => { r with quantities := setQuantity q.tag v r.quantities }).peerChanged a q.tag
  else s

/-! ### Ageing and removal (R46, R51, R54) -/

/-- The alone timer starts when the last FRESH or STALE record has gone (R54). -/
def State.aloneTest (s : State) : State :=
  if s.anyLive then s else { s with line := { s.line with alone := s.timer Config.aloneTime } }

/-- Every quantity a record held has become invalid (R3). -/
def State.quantitiesLost (s : State) (a : Addr) (held : List (Byte × Int)) : State :=
  held.foldl (fun st q => st.peerChanged a q.1) s

/-- A record becomes STALE (R46). -/
def State.becomeStale (s : State) (a : Addr) : State :=
  (s.modifyRecord a fun r => { r with freshness := .stale }).freshnessChanged a

/-- A live record becomes LOST or is removed; `left` is what remains of it (R46, R51). -/
def State.dropLive (s : State) (a : Addr) (held : List (Byte × Int)) (left : Option StationRecord) : State :=
  (((s.setRecord a left).aloneTest).quantitiesLost a held).freshnessChanged a

/-- A record becomes LOST (R46). -/
def State.becomeLost (s : State) (a : Addr) : State :=
  match s.record a with
  | some r =>
    s.dropLive a r.quantities
      (some { r with freshness := .lost, grants := none, claims := [], quantities := [], notice := none })
  | none => s

/-- FORGET_STATION removes a record (R51). -/
def State.forget (s : State) (a : Addr) : State :=
  match s.record a with
  | some r =>
    if r.live then s.dropLive a r.quantities none else (s.setRecord a none).freshnessChanged a
  | none => s

/-! ### Reception (R38 to R40, R46, R55) -/

/-- The recessive times of the line count from now (R32, R55). -/
def State.recessiveFromNow (s : State) : State :=
  { s with
    line := { s.line with
      idle := false, recessive := s.timer Config.idleGap
      goodTimer := if s.line.island && !s.line.lineGood then s.timer Config.lineGoodTime else s.line.goodTimer } }

/-- A frame, or an attempt, has ended on the line: the framer ignores the line until the idle gap, and the recessive times count from now (R32, R55). -/
def State.lineActivity (s : State) : State :=
  let s1 := { s with line := { s.line with framer := .gap } }
  if s.pins.line then s1 else s1.recessiveFromNow

/-- A frame is taken from the line: one that the framer has taken from the levels, whose recessive times they tell (R32), or one that a command brings whole. DESIGN CHOICE (notes/assumptions/51): while a frame taken from the levels waits, the frame taken is that one. -/
def State.frameTaken (s : State) : State :=
  match s.line.heard with
  | [] => s.lineActivity
  | _ :: rest => { s with line := { s.line with heard := rest } }

/-- A valid frame refreshes its sender's record, creating it if need be, and stops the alone timer (R45, R46, R54). -/
def State.refresh (s : State) (a : Addr) : State :=
  let wasFresh := s.isFresh a
  let r : StationRecord :=
    match s.record a with
    | some r => { r with freshness := .fresh, heard := s.now }
    | none => .new s.now
  let s1 := s.setRecord a (some r)
  let s2 := { s1 with line := { s1.line with alone := none } }
  if wasFresh then s2 else s2.freshnessChanged a

/-- The first valid peer frame heard with the line good flag set ends island operation (R55). -/
def State.islandExitTest (s : State) : State :=
  if s.line.island && s.line.lineGood then s.exitIsland else s

/-- A frame is heard from an address: taken from a peer, a clash from the own address (R39), discarded from 0 or 15 (R38), nothing before LISTEN (R52). DESIGN CHOICE (notes/assumptions/40): island operation that the frame ends is over before its content is taken. -/
def State.receive (s : State) (src : Addr) (content : State → State) : State :=
  if s.listening then
    if src = 0 ∨ src = 15 then s.frameTaken
    else if src = s.image.ownAddress then s.frameTaken.raiseB .addressClash
    else content (((s.frameTaken.countFrame).refresh src).islandExitTest)
  else s

/-! ### Contents (R47, R49, R50) -/

/-- A peer STATUS (R47). -/
def State.takeStatus (s : State) (a : Addr) (grants : List GrantItem) (items : List QuantityItem) : State :=
  let s1 := s.modifyRecord a fun r =>
    { r with grants := some (grants.map fun g => { cls := g.cls.toNat, amps := g.amps.toNat }), claims := [] }
  (items.foldl (State.takeItem a) s1).recomputeExcess

/-- A new pending claim takes the place of one with its tag, or of the older of two (R49). -/
def addPending (p : PendingClaim) (l : List PendingClaim) : List PendingClaim :=
  if l.any fun q => q.tag == p.tag then l.map fun q => if q.tag == p.tag then p else q
  else match l with
    | q1 :: q2 :: _ => if earlier q1.stamp q2.stamp then [p, q2] else [q1, p]
    | l => l ++ [p]

/-- A peer CLAIM (R49). -/
def State.takeClaim (s : State) (a : Addr) (tag : Byte) (cls : BitVec 3) (amps : Byte) : State :=
  s.modifyRecord a fun r =>
    { r with
      claims := addPending
        { tag := tag, cls := cls.toNat, amps := amps.toNat, stamp := s.line.orderCount
          expires := s.now + Config.pendingLife } r.claims }

/-- A pending claim is removed by its tag (R49). -/
def State.removePending (s : State) (a : Addr) (tag : Byte) : State :=
  s.modifyRecord a fun r => { r with claims := r.claims.filter fun p => p.tag != tag }

/-- A peer NOTICE (R50). -/
def State.takeNotice (s : State) (a : Addr) (code cls : Byte) : State :=
  s.modifyRecord a fun r => { r with notice := some (code, cls) }

/-- An ANSWER to the outstanding hold (R103 to R105). -/
def State.takeHoldAnswer (s : State) (result : Byte) : State :=
  let s1 := { s with defrost := { s.defrost with answer := none, outstanding := none } }
  if s1.defrost.state = .holdWait then
    if result = BitVec.ofNat 8 resDone then
      { s1 with defrost := { s1.defrost with answered := true } }.holdCheck
    else if s1.line.island then s1 else s1.failHold
  else s1

/-- An ANSWER addressed to the part: taken for the outstanding hold alone (R103). -/
def State.takeAnswer (s : State) (src : Addr) (kind seq result : Byte) : State :=
  if src = s.image.compressor ∧ kind = BitVec.ofNat 8 kindHoldCompressor ∧ s.defrost.outstanding = some seq then
    s.takeHoldAnswer result
  else s

end Sys2Proof.Machine
end

