-- ==== Sys2Proof/Machine/Transmit.lean ====
section
/-! DEFINITION. Sending: the start of an attempt, lost arbitration, bit errors, sent frames (R33 to R35, R42, R44, R68), and the stuck-line states (R53). -/

namespace Sys2Proof.Machine

/-! ### The length of a frame (R31, Table 2-3) -/

/-- The number of payload characters. -/
def FrameBody.payloadLength : FrameBody → Nat
  | .status none => 1
  | .status (some p) => 1 + 2 * p.grants.length + 3 * p.items.length
  | .claim _ _ _ => 3
  | .release _ => 1
  | .request _ _ _ args => 3 + args.length
  | .answer _ _ _ bytes _ => 3 + bytes.length
  | .notice _ _ => 2

/-- How long a frame takes on the line, in microseconds: ten bit times of 1/9600 s a character (R31). -/
def TxFrame.duration (f : TxFrame) : Nat := (4 + f.body.payloadLength) * 3125 / 3

/-! ### The start of an attempt (R33, R44) -/

/-- The conditions of R33 but for the idle line. -/
def State.maySend (s : State) : Bool :=
  s.listening && s.line.driver && s.line.sendingFrame.isNone && !s.line.queue.isEmpty

/-- The frame with the content it has on the line; a STATUS is assembled now (R44). -/
def State.launched (s : State) (f : TxFrame) : TxFrame :=
  match f.body with
  | .status _ => { f with body := .status (some s.assembled), sending := true }
  | _ => { f with sending := true }

/-- The head frame goes on the line, and the framer follows it (R33, R34). -/
def State.startSending (s : State) : State :=
  match s.line.queue with
  | [] => s
  | f :: rest =>
    let g := s.launched f
    let s1 := if f.isStatus then s.assemble else s
    { s1 with
      line := { s1.line with
        queue := g :: rest, idle := false, recessive := none, goodTimer := none, txEnd := s1.timer g.duration
        framer := .next [] } }

/-! ### The ends of an attempt (R34, R35, R42, R68) -/

/-- The frame waits again; a STATUS loses its assembled content. -/
def TxFrame.returned (f : TxFrame) (retries : Nat) : TxFrame :=
  let g := { f with retries := retries, sending := false }
  if f.isStatus then { g with body := .status none } else g

/-- The first frame for which `p` holds is replaced, or removed. -/
def replaceFirst (p : TxFrame → Bool) (new : Option TxFrame) : List TxFrame → List TxFrame
  | [] => []
  | f :: rest =>
    if p f then
      match new with
      | some g => g :: rest
      | none => rest
    else f :: replaceFirst p new rest

/-- The frame in transmission leaves the line: replaced in its place, or out of the queue. -/
def State.endAttempt (s : State) (new : Option TxFrame) : State :=
  { s with
    line := { s.line with queue := replaceFirst (fun f => f.sending) new s.line.queue, txEnd := none, clearing := [] } }

/-- A second STATUS that waits leaves the queue when the one in transmission fails (R42). -/
def State.dropWaitingStatus (s : State) : State :=
  { s with line := { s.line with queue := s.line.queue.filter fun f => !(f.isStatus && !f.sending) } }

/-- A cancelled CLAIM that returns to waiting is removed, and the claim in flight ends without a RELEASE (R68). -/
def State.dropCancelledClaim (s : State) : State :=
  match s.share.flight with
  | some c =>
    if c.cancelled then
      { s with line := { s.line with queue := s.line.queue.filter fun f => !f.isClaim } }.endFlight
    else s
  | none => s

/-- A NOTICE of class 0 waits. -/
def Line.noticeStands (l : Line) : Bool := l.waiting fun f => f.isNotice && f.cls == 0

/-- A second NOTICE that waits leaves the queue. -/
def State.dropWaitingNotice (s : State) : State :=
  { s with line := { s.line with queue := s.line.queue.filter fun f => !(f.isNotice && !f.sending) } }

/-- A NOTICE whose attempt failed meets a NOTICE queued meanwhile; at most one waits (R42). DESIGN CHOICE (notes/assumptions/36): as at an offer of the second one: of class 0 it takes the first one's place, of another class it is dropped. -/
def State.keepNotice (s : State) (f : TxFrame) (retries : Nat) : State :=
  if s.line.noticeStands then s.endAttempt none else s.dropWaitingNotice.endAttempt (some (f.returned retries))

/-- The attempt fails and the frame keeps its place with a retry count (R34, R35). -/
def State.keepFrame (s : State) (f : TxFrame) (retries : Nat) : State :=
  if f.isNotice then s.keepNotice f retries
  else
    let s1 := if f.isStatus then s.dropWaitingStatus else s
    let s2 := s1.endAttempt (some (f.returned retries))
    if f.isClaim then s2.dropCancelledClaim else s2

/-- The queuing block is told that its frame was not sent (R35, R63, R68, R187). -/
def State.reportNotSent (s : State) (f : TxFrame) : State :=
  match f.body with
  | .status _ => { s with line := { s.line with period := s.timer Config.statusPeriod } }
  | .claim _ _ _ =>
    match s.share.flight with
    | some c => if c.cancelled then s.endFlight else s.refuseClaim c false
    | none => s
  | .answer _ _ _ _ true => { s with start := { s.start with restart := .due } }
  | _ => s

/-- A frame tried four times is removed (R35). -/
def State.giveUp (s : State) (f : TxFrame) : State :=
  let s1 := if f.isStatus then s.dropWaitingStatus else s
  (s1.endAttempt none).reportNotSent f

/-- Arbitration is lost: no retry is counted, and another station's frame is on the line (R34). -/
def State.loseArbitration (s : State) : State :=
  match s.line.sendingFrame with
  | none => s
  | some f => s.keepFrame f f.retries

/-- A bit error: one more retry, and the frame waits or is given up (R35). -/
def State.bitError (s : State) : State :=
  match s.line.sendingFrame with
  | none => s
  | some f =>
    if Config.maxTries ≤ f.retries + 1 then s.giveUp f else s.keepFrame f (f.retries + 1)

/-- The frame is sent: it leaves the queue, the line order count rises, and its block is told (R35, R39). -/
def State.frameSent (s : State) : State :=
  match s.line.sendingFrame with
  | none => s
  | some f =>
    let s1 := { s with
      line := { s.line with queue := replaceFirst (fun g => g.sending) none s.line.queue, txEnd := none } }
    (s1.countFrame.reportSent f).lineActivity

/-! ### The stuck line (R53) -/

/-- 2 ms of dominance: the driver goes off, a transmission ends as a bit error, the line good flag is cleared (R53, R55). -/
def State.holdOff (s : State) : State :=
  let s1 := { s with line := { s.line with stuckShort := none, lineGood := false } }
  if s1.line.mode = .normal then
    { s1 with line := { s1.line with driver := false, mode := .heldOff } }.bitError
  else s1

/-- Every frame of the queue is taken as sent, in queue order (R53). -/
def State.flushQueue (s : State) : State :=
  s.line.queue.foldl State.sendStuck { s with line := { s.line with queue := [] } }

/-- 1 s of dominance: LINK_STUCK, STUCK, and island operation (R53, R54). -/
def State.enterStuck (s : State) : State :=
  let s1 := s.raiseB .linkStuck
  let s2 := { s1 with line := { s1.line with stuckLong := none, mode := .stuck, driver := false, txEnd := none } }
  s2.flushQueue.enterIsland

end Sys2Proof.Machine
end

