-- ==== Sys2Proof/Machine/Settle.lean ====
section
/-! DEFINITION. The consequences inside one event: what a watch point's becoming active does (R25 to R29), the detections of R171, the reports kept by the request and watch units (R25, R184), the owed STATUS (R42) and the offer of the next claim (R62), until none is left or the bound of one step is reached (notes/assumptions/2). -/

namespace Sys2Proof.Machine

/-- The entry action of a watch point (R26). -/
def State.entryAction (s : State) (i : Fin 16) : State :=
  match s.image.watch[i].entry with
  | .none => s
  | .writeFrostIndex v => s.writeFrostIndex v
  | .defrostDemand => s.demand
  | .sendNotice => s.offerNotice 4 (BitVec.ofNat 8 (0x70 + i.val)) 7

/-- A built-in point has become active: its role (R28, Table 1-9). -/
def State.roleActive (s : State) (i : Fin 16) : State :=
  match i.val with
  | 0 => s.terminate
  | 1 => s.freezeTest .a
  | 2 => s.freezeTest .b
  | 3 => s.heatEndTest .a false
  | 4 => s.heatEndTest .b false
  | 6 => if s.defrost.state = .recovery then s.endRecovery else s
  | _ => s

/-- A start or end of SUSPEND_HARVEST makes the hold test (R145). -/
def State.whileChanged (s : State) (i : Fin 16) : State :=
  if s.image.watch[i].whileAct = .suspendHarvest then s.holdTests else s

/-- An effective entry to ACTIVE: LAST_EVENT, the entry action, the role (R25, R26, R28). DESIGN CHOICE (notes/assumptions/39): the role comes after the entry action. -/
def State.watchBegins (s : State) (i : Fin 16) : State :=
  (((s.writeEvent i.val).entryAction i).roleActive i).whileChanged i

/-- One consequence is carried out. -/
def State.handle (s : State) (g : Signal) : State :=
  match g with
  | .watchEntered i => s.watchBegins i
  | .watchLeft i => s.whileChanged i
  | .overtemp => s.raiseA .overtemp

/-- A STATUS that was owed may be offered: the queue holds five frames or fewer (R42). -/
def State.owedDue (s : State) : Bool := s.line.statusOwed && s.takes

/-- The owed STATUS is offered, and its mark cleared (R42). -/
def State.payOwed (s : State) : State :=
  { s with line := { s.line with statusOwed := false } }.offerStatus

/-- One internal consequence, if any is left: CONDITION_FLAGS, WATCH_STATES, an agenda signal, the owed STATUS, the next claim. Nothing before LISTEN (R52, R160). DESIGN CHOICE (notes/assumptions/29): the owed STATUS is offered after the event's other frames. -/
def State.settleStep (s : State) : Option State :=
  if !s.listening then none
  else match s.reportOwed with
    | some t => some t
    | none =>
      match s.agenda with
      | g :: rest => some ({ s with agenda := rest }.handle g)
      | [] =>
        if s.owedDue then some s.payOwed
        else if s.mayClaim && s.firstEligible.isSome then some s.offerNextClaim
        else none

/-- Up to `n` internal consequences. -/
def State.settle : Nat → State → State
  | 0, s => s
  | n + 1, s =>
    match s.settleStep with
    | some t => State.settle n t
    | none => s

/-- The outcome of a command: its effect, with the internal consequences. -/
def State.done (s : State) : Host.Outcome State Fault Refusal := .next (State.settle Config.settleBound s)

end Sys2Proof.Machine
end

