-- ==== Sys2Proof/Machine/StartUp.lean ====
section
/-! DEFINITION. Resets, the image load, and the entries to LISTEN and RUN (R7, R12 to R15, R30, R52, R81, R82, R98, R99, R119, R124, R141, R156, R160, R180, R184, R188, R191 to R194). -/

namespace Sys2Proof.Machine

/-! ### What a reset clears (R191) -/

/-- A mold record with nothing but its state (R141). -/
def MoldRecord.bare (r : MoldRecord) : MoldRecord := { MoldRecord.blank with state := r.state }

/-- A watch point with nothing but what the retention domain keeps of it: LATCHED (R20, R30). -/
def WatchPoint.bare (w : WatchPoint) : WatchPoint :=
  if w.computed = .latched then { WatchPoint.blank with computed := .latched } else .blank

/-- Everything outside the retention domain is cleared; every output and the line driver are off (R52, R160). -/
def State.clearVolatile (s : State) : State :=
  { s with
    line := .blank
    view := Vector.replicate 16 none
    share := .blank
    sensors := { evap := .blank, freezerAir := .blank, moldA := .blank, moldB := .blank }
    switches := .blank
    watch := s.watch.map WatchPoint.bare
    frost := { Frost.blank with f := s.frost.f, t := s.frost.t, hours := s.frost.hours, gap := s.frost.gap }
    defrost := { Defrost.blank with state := s.defrost.state }
    water := { Water.blank with tRes := s.water.tRes }
    ice := { Ice.blank with molds := { a := s.ice.molds.a.bare, b := s.ice.molds.b.bare } }
    out := .blank
    fault := { s.fault with noticeTimer := none }
    start := { s.start with listenTimer := none, restart := .none, port := .rest, acked := 0, arrived := 0, sent := [] }
    agenda := [] }

/-- A defrost state after PENDING (R98). -/
def DefrostState.pastPending : DefrostState → Bool
  | .idle | .pending => false
  | _ => true

/-- A watch point at the start of a reset; a brown-out keeps LATCHED (R30). Power-on inhibit is applied when the image is in place. -/
def WatchPoint.atReset (w : WatchPoint) (kind : ResetKind) : WatchPoint :=
  if kind = .brownOut then w.bare else .blank

/-- A mold at the start of a reset: in service at a power-on, else OUT_OF_SERVICE kept (R141). -/
def MoldRecord.atReset (r : MoldRecord) (kind : ResetKind) : MoldRecord :=
  if kind ≠ .powerOn ∧ r.state = .outOfService then { MoldRecord.blank with state := .outOfService } else .blank

/-- The retained state at its power-on values; F, T and the hour count wait for the image (R191). -/
def State.powerOnValues (s : State) : State :=
  { s with
    fault := .blank
    water := { s.water with tRes := 40 }
    frost := { s.frost with hours := 0, gap := .minGap }
    store := { s.store with values := s.store.values.set OwnTag.lastEvent.idx eventNone } }

/-- The start of a reset: what was kept is read, and each retained block takes its value for the reset kind (R30, R98, R99, R141, R170, R188, R191). -/
def State.beginReset (s : State) (kind : ResetKind) : State :=
  let interrupted := kind != .powerOn && s.defrost.state.pastPending
  let s1 := if kind = .powerOn then s.powerOnValues else s
  { s1 with
    frost := { s1.frost with f := if interrupted then max s1.frost.f s1.frost.t else s1.frost.f }
    defrost := .blank
    watch := s1.watch.map fun w => w.atReset kind
    ice := { s1.ice with molds := { a := s1.ice.molds.a.atReset kind, b := s1.ice.molds.b.atReset kind } }
    fault := { s1.fault with keptA := s1.fault.aFlags != 0 }
    mode := if kind = .brownOut then s1.mode else .normal
    start := { s1.start with kind := kind, interrupted := interrupted, restart := .none }
    agenda := [] }

/-! ### The entry to LISTEN (R192) -/

/-- The line interface at the entry to LISTEN (R52). -/
def State.listenLine (s : State) : Line :=
  { Line.blank with
    driver := true
    queue := [statusFrame]
    period := s.timer Config.statusPeriod
    stuckShort := if s.pins.line then s.timer Config.stuckShort else none
    stuckLong := if s.pins.line then s.timer Config.stuckLong else none
    recessive := if s.pins.line then none else s.timer Config.idleGap
    alone := s.timer Config.aloneTime
    rotation := s.publishTags.getLast? }

/-- The share unit at the entry to LISTEN (R57, R81). -/
def State.listenShare (s : State) : Share :=
  { Share.blank with grants := [{ op := none, cls := 0, amps := s.image.baseline, tag := 0 }] }

/-- The switch inputs at the entry to LISTEN (R12 to R15, R124). -/
def State.listenSwitches (s : State) : Switches :=
  { bin := { level := true, timer := if s.pins.bin then none else s.timer Config.binTime }
    home := { a := { level := s.pins.home.a, timer := none }, b := { level := s.pins.home.b, timer := none } }
    leak := { level := false, timer := if s.pins.leak then s.timer Config.leakTime else none }
    cutout := { level := false, timer := if s.pins.cutout then s.timer Config.cutoutTime else none }
    paddle := { level := s.pins.paddle, timer := none } }

/-- F, T at the entry to LISTEN: a power-on takes them from the image (R82, R191). -/
def State.listenFrost (s : State) : Frost :=
  if s.start.kind = .powerOn then
    { s.frost with t := s.image.initialThreshold, f := s.image.initialThreshold / 2, hours := 0, gap := .minGap }
  else s.frost

/-- A used point with power-on inhibit starts INHIBITED (R16, R21, R30). -/
def WatchPoint.atListen (w : WatchPoint) (cfg : WatchConfig) : WatchPoint :=
  if cfg.inhibit && cfg.source.isSome && w.computed != .latched then { w with computed := .inhibited } else w

/-- The water path at the entry to LISTEN (R119). -/
def State.listenWater (s : State) : Water :=
  { Water.blank with
    path := if s.classA then .locked else .idle
    rate := s.image.nominalRate
    tRes := min s.water.tRes s.image.tIn }

/-- A mold record at the entry to LISTEN (R141). -/
def State.listenMold (s : State) (r : MoldRecord) : MoldRecord :=
  { MoldRecord.blank with state := r.state, owed := s.fillTarget }

/-- The thermistor channels start with their samples due at once (R7). -/
def State.listenSensors (s : State) : PerChannel ChannelRecord :=
  let c : ChannelRecord := { ChannelRecord.blank with sample := s.timer Config.sampleTime }
  { evap := c, freezerAir := c, moldA := c, moldB := c }

/-- The value of an own tag at the entry to LISTEN (R4, R5, R7, R82, R119, R141, R188); CONDITION_FLAGS and WATCH_STATES follow. -/
def State.listenValue (s : State) (t : OwnTag) : Int :=
  match t with
  | .evapTemp => s.image.substitutes.evap
  | .freezerAirTemp => s.image.substitutes.freezerAir
  | .moldATemp => s.image.substitutes.moldA
  | .moldBTemp => s.image.substitutes.moldB
  | .reservoirEst => s.water.tRes
  | .frostIndex => (s.frost.f : Nat)
  | .defrostThreshold => (s.frost.t : Nat)
  | .defrostState => (s.defrost.state.code : Nat)
  | .moldAState => s.ice.molds.a.tagValue
  | .moldBState => s.ice.molds.b.tagValue
  | .waterPathState => (s.water.path.code : Nat)
  | .dispensedVolume => 0
  | .conditionFlags => s.conditionWord
  | .faultAFlags => (s.fault.aFlags.toNat : Nat)
  | .faultBFlags => (s.fault.bFlags.toNat : Nat)
  | .lastEvent => s.own .lastEvent
  | .mode => (s.mode.code : Nat)
  | .watchStates => s.watchWord
  | .hoursSinceDefrost => (s.frost.hours : Nat)

/-- The own tag at a place of the store. -/
def ownTagAt (i : Fin 19) : OwnTag := ownTags.getD i.val .evapTemp

/-- Every own tag written, and every tag of the publish set marked changed (R6). -/
def State.writeAll (s : State) : State :=
  { s with store := { values := Vector.ofFn fun i => s.listenValue (ownTagAt i), changed := s.image.publish } }

/-- A sample outside the ends of the conversion table is bad (R7). -/
def goodSample (table : List (Nat × Int)) (raw : Nat) : Bool :=
  match table.head?, table.getLast? with
  | some lo, some hi => decide (lo.1 ≤ raw) && decide (raw ≤ hi.1)
  | _, _ => false

/-- The temperature of a good raw reading, before the clamp (R8). -/
def interpolate : List (Nat × Int) → Nat → Int
  | (r0, t0) :: (r1, t1) :: rest, x =>
    if x ≤ r1 then t0 + truncDiv (((x : Int) - r0) * (t1 - t0)) ((r1 : Int) - r0)
    else interpolate ((r1, t1) :: rest) x
  | [(_, t0)], _ => t0
  | [], _ => 0

/-- The conversion of a good raw reading (R8). -/
def convert (table : List (Nat × Int)) (x : Nat) : Int := clampInt (-500) 900 (interpolate table x)

def State.setSensor (s : State) (c : Channel) (r : ChannelRecord) : State :=
  { s with sensors := s.sensors.set c r }

/-- A channel has become substituted or has returned to NORMAL: the tests of the jobs that read it (R111, R143, R147). -/
def State.channelJobs (s : State) (c : Channel) : State :=
  match c with
  | .evap => s.evapSubstituted
  | .freezerAir => s
  | .moldA => s.moldChannelChange .a
  | .moldB => s.moldChannelChange .b

/-- The heater a channel's temperature condition belongs to (R171). -/
def heaterOf : Channel → Option Output
  | .evap => some .dh
  | .freezerAir => none
  | .moldA => some .mha
  | .moldB => some .mhb

/-- The temperature conditions are tested at a good sample (R171). -/
def State.overtempTest (s : State) (c : Channel) : State :=
  match heaterOf c with
  | some h => if s.overtempOf h then { s with agenda := s.agenda ++ [Signal.overtemp] } else s
  | none => s

/-- A good sample (R9). At a return to NORMAL the jobs make their tests on the watch points as they were kept (R144), before the watch unit hears of the sample. -/
def State.goodReading (s : State) (c : Channel) (raw : Nat) : State :=
  let r := s.sensors.get c
  let v := convert s.image.table raw
  let changed := decide (s.own c.tag ≠ v) || s.substituted c
  let s1 := (s.setSensor c { r with state := .normal, badCount := 0, hold := none }).putOwn c.tag v
  let s2 := if r.state = .normal then s1 else s1.channelJobs c
  let s3 := if changed then s2.validityChange c else s2
  s3.overtempTest c

/-- A bad sample (R10). -/
def State.badReading (s : State) (c : Channel) : State :=
  let r := s.sensors.get c
  let n := min 3 (r.badCount + 1)
  let s1 := s.setSensor c { r with badCount := n }
  match r.state with
  | .normal =>
    if n = 3 then
      let s2 := s1.raiseB c.fault
      s2.setSensor c { s2.sensors.get c with state := .holding, hold := s2.timer Config.sensorHold }
    else s1
  | .starting =>
    if n = 3 then
      let s2 := s1.raiseB c.fault
      s2.setSensor c { s2.sensors.get c with state := .substituted }
    else s1
  | _ => s1

/-- A channel takes a sample of its pin, and its sample timer reloads (R7). -/
def State.takeSample (s : State) (c : Channel) : State :=
  let raw := (s.pins.thermistor.get c).toNat
  let s1 := s.setSensor c { s.sensors.get c with sample := s.timer Config.sampleTime }
  if goodSample s1.image.table raw then s1.goodReading c raw else s1.badReading c

/-- The blocks' values at the entry to LISTEN, before the tags are written (R192). -/
def State.listenBlocks (s : State) : State :=
  let s1 := { s with
    start := { s.start with state := .listen, mark := true, listenTimer := s.timer Config.listenTime, port := .rest }
    line := s.listenLine
    view := Vector.replicate 16 none
    share := s.listenShare
    sensors := s.listenSensors
    switches := s.listenSwitches
    frost := s.listenFrost
    defrost := .blank
    water := s.listenWater
    ice := { Ice.blank with molds := { a := s.listenMold s.ice.molds.a, b := s.listenMold s.ice.molds.b } }
    out := .blank
    watch := Vector.ofFn fun i => s.watch[i].atListen s.image.watch[i] }
  s1.writeAll

/-- The entry to LISTEN: the blocks' values, the layers' opinions, and the first samples (R7, R160, R192). DESIGN CHOICE (notes/assumptions/38): a first sample takes the reading that the last SAMPLE brought, before LISTEN or in the run before. DESIGN CHOICE (notes/assumptions/43): the outputs are resolved in the entry, so that a paddle line found low may light LMP at once. -/
def State.enterListen (s : State) : State :=
  let s1 := s.listenBlocks.resolve
  (((s1.takeSample .evap).takeSample .freezerAir).takeSample .moldA).takeSample .moldB

/-! ### The image load (R193, R194) -/

/-- An image is in place, and the part enters LISTEN; `defaulted` raises IMAGE_DEFAULTED (R176, R194). -/
def State.imageInPlace (s : State) (image : Image) (defaulted : Bool) : State :=
  let s1 := { s with image := image }.enterListen
  if defaulted then s1.raiseB .imageDefaulted else s1

/-- The fallback: the built-in set of the strapped variant, with IMAGE_DEFAULTED (R194). -/
def State.imageFallback (s : State) : State := s.imageInPlace (builtinImage s.pins.straps) true

/-- The bus clear: a data line that reads low takes up to nine clock pulses, and a stop ends them (R193). -/
def busClear (pulses : Nat) : List PortSignal :=
  if pulses = 0 then [] else List.replicate (min 9 pulses) .pulse ++ [.stop]

/-- The three address bytes, each with the start that comes before it (R193). -/
def addressByte : Nat → List PortSignal
  | 0 => [.start, .device false]
  | 1 => [.word 0]
  | 2 => [.repeatedStart, .device true]
  | _ => []

/-- The address bytes from one on. -/
def addressFrom (acked : Nat) : List PortSignal := ([0, 1, 2].drop acked).flatMap addressByte

/-- `n` image bytes taken after the first `first`, each acknowledged but the 256th (R193). -/
def taken (first n : Nat) : List PortSignal := (List.range n).map fun k => .take (first + k != 255)

/-- What the part does on the port is noted, in order (R193). -/
def State.drive (s : State) (signals : List PortSignal) : State :=
  { s with start := { s.start with sent := s.start.sent ++ signals } }

/-- Entry to IMAGE_LOAD: the mark is cleared, the straps decide, the bus is cleared (R191, R193). -/
def State.enterImageLoad (s : State) : State :=
  let pulses := min 9 s.pins.sdaLowPulses
  let s1 := { s with start := { s.start with state := .imageLoad, mark := false, port := .rest, clearPulses := 0, acked := 0, arrived := 0, sent := [] } }
  if s1.pins.straps.imen then
    let s2 := { s1 with
      start := { s1.start with port := .reading, clearPulses := pulses, sent := busClear s1.pins.sdaLowPulses } }
    if 9 < s2.pins.sdaLowPulses then s2.imageFallback else s2
  else s1.imageInPlace (builtinImage s1.pins.straps) false

/-- The read is in progress. -/
def State.reading (s : State) : Bool := s.start.state == .imageLoad && s.start.port == .reading

/-- The image bytes of the read in hand, with the next ones. -/
def State.readSoFar (s : State) (b : List Byte) : List Byte := s.rawImage.take s.start.arrived ++ b

/-- Image bytes arrive: they are held in the places of those held before (R193). -/
def State.arrive (s : State) (b : List Byte) : State :=
  let s1 := s.drive (addressFrom s.start.acked ++ taken s.start.arrived b.length)
  { s1 with
    rawImage := s.readSoFar b ++ s.rawImage.drop (s.start.arrived + b.length)
    start := { s1.start with acked := 3, arrived := s.start.arrived + b.length } }

/-- An address byte is acknowledged (R193). -/
def State.acknowledge (s : State) : State :=
  let s1 := s.drive (addressByte s.start.acked)
  { s1 with start := { s1.start with acked := min 3 (s.start.acked + 1) } }

/-- The read fails, at the address byte in hand or at the image bytes: a stop ends the transfer, and the fallback follows (R193). DESIGN CHOICE (notes/assumptions/48): a missing acknowledge that comes after the three address bytes fails the read too. -/
def State.readFails (s : State) : State := (s.drive (addressByte s.start.acked ++ [.stop])).imageFallback

/-- What the image read brings; at its end, the checks (R193, R194). DESIGN CHOICE (notes/assumptions/48): a failure is a failure at any point of the read. -/
def State.goOnReading (s : State) (read : ImageRead) : State :=
  match read with
  | .acknowledged => s.acknowledge
  | .arrived b => s.arrive b
  | .failed => s.readFails
  | .bytes rest =>
    let b := s.readSoFar rest
    let s1 := (s.arrive rest).drive [.stop]
    if imageChecks b then s1.imageInPlace (decodeImage b) (!strictRise (tableAt b)) else s1.imageFallback

/-- The straps and the data line as read at the start (R193). -/
def State.setStraps (s : State) (straps : Straps) (sdaLowPulses : Nat) : State :=
  { s with pins := { s.pins with straps := straps, sdaLowPulses := sdaLowPulses } }

/-- Supply and clock become good in POWER_UP (R191). -/
def State.supplyGood (s : State) : State :=
  if s.start.mark then (s.beginReset .brownOut).enterListen else (s.beginReset .powerOn).enterImageLoad

/-- The supply falls: POWER_UP, and the mark is lost with the retention domain (R191). -/
def State.supplyFalls (s : State) (retentionLost : Bool) : State :=
  let s1 := s.clearVolatile
  { s1 with start := { s1.start with state := .powerUp, mark := s1.start.mark && !retentionLost } }

/-- The RESTART reset (R187, R191). -/
def State.restartReset (s : State) : State := (s.clearVolatile.beginReset .restart).enterImageLoad

/-! ### The entry to RUN (R192) -/

/-- The watch unit starts: each point's threshold, its entry evaluation, and its reports (R17, R25, R30, R184). -/
def State.startWatch (s : State) : State :=
  watchPoints.foldl (fun st i => ((st.recompute i).recheck i).reportWords) s

/-- The frost accountant starts, with its entry tests (R82, R98). -/
def State.startFrost (s : State) : State :=
  let s1 := s.clearMinute
  let s2 := { s1 with
    frost := { s1.frost with
      seconds := 0
      secondTimer := s1.timer Config.sec
      hourTimer := s1.timer Config.hour
      retryTimer := if s1.frost.gap = GapState.retryWait then s1.timer Config.hour else none } }
  let s3 := s2.demandIf s2.thresholdTest
  let s4 := s3.demandIf s3.maxGapTest
  s4.demandIf s4.start.interrupted

/-- The water path starts (R119, R137). -/
def State.startWater (s : State) : State :=
  { s with
    water := { s.water with
      relaxation := s.timer Config.minute
      allClosed := if s.anyValveOpen then none else s.timer Config.closedTime } }

/-- A mold in FREEZING starts its freeze timers (R141). -/
def State.startMold (s : State) (m : Mold) : State :=
  if (s.mold m).state = .freezing then s.enterFreezing m else s

/-- A class A flag kept through the reset is announced (R180). -/
def State.announceKept (s : State) : State :=
  if s.fault.keptA then
    match s.fault.highestA with
    | some f => s.announce f
    | none => s
  else s

/-- The blocks that detect class A faults test their conditions afresh (R180, R192; notes/assumptions/19). -/
def State.testAfresh (s : State) : State :=
  classAFaults.foldl (fun st f => if st.conditionHolds f then st.raiseA f else st) s

/-- The entry to RUN (R192). The order of the blocks is the model's (notes/assumptions/6). -/
def State.enterRun (s : State) : State :=
  let s1 := { s with start := { s.start with state := .run, runSince := s.now, listenTimer := none } }
  ((((((s1.startWatch.fan).startFrost).startWater).startMold .a).startMold .b).announceKept).testAfresh

end Sys2Proof.Machine
end

