-- ==== Sys2Proof/Machine/Requests.lean ====
section
/-! DEFINITION. The request unit: the checks, broadcasts and answers (R181 to R185, R190), modes (R188, R189), reads (R186), and the acts of the request kinds that need more than one operation. -/

namespace Sys2Proof.Machine

/-! ### The checks (R181) -/

/-- The first failing check of R181, as its result code. -/
def State.firstFailure (s : State) (kind : Nat) (req : Request) : Option Nat :=
  if !s.running then some resNotReady
  else if kind = 0 ∨ 16 < kind then some resBadKind
  else if req.args.length ≠ argCount kind then some resBadArgument
  else if 14 < req.cond.toNat then some resBadArgument
  else if panelOnly kind && req.src != s.image.panel then some resNotPermitted
  else if refusedIn s.mode kind then some resRefusedMode
  else if !s.condition req.cond.toNat then some resConditionFalse
  else none

/-- The result bytes of a request turned away by a check: four flag bytes for CLEAR_FAULT, none for any other (R181). -/
def State.failureBytes (s : State) (kind : Nat) : List Byte := if kind = kindClearFault then s.flagBytes else []

/-- The ANSWER to a request (R181). -/
def State.answer (s : State) (kind : Nat) (req : Request) (r : Result) : State :=
  s.offerAnswer req.src (BitVec.ofNat 8 kind) req.seq r.code r.bytes

/-- The kinds taken as broadcasts (R182). -/
def broadcastKind (kind : Nat) : Bool := kind == kindSetMode || kind == kindPublishNow

/-- An act of a block: its state after the request, and its result. -/
abbrev Act := State → State × Result

/-- A request that passes is carried out, and answered (R181). -/
def State.carryOut (s : State) (kind : Nat) (req : Request) (act : Act) : State :=
  match s.firstFailure kind req with
  | some code => s.answer kind req { code := code, bytes := s.failureBytes kind }
  | none => (act s).1.answer kind req (act s).2

/-- A broadcast request is carried out if it passes, and never answered (R182). -/
def State.carryOutBroadcast (s : State) (kind : Nat) (req : Request) (act : Act) : State :=
  if broadcastKind kind && (s.firstFailure kind req).isNone then (act s).1 else s

/-- A REQUEST frame is heard and taken (R40, R181, R182). -/
def State.request (s : State) (kind : Nat) (req : Request) (act : Act) : State :=
  s.receive req.src fun st =>
    if req.broadcast then st.carryOutBroadcast kind req act else st.carryOut kind req act

/-! ### Water (R126, R127) -/

/-- The start test of the source (R126). -/
def State.sourceReady (s : State) : Bool :=
  s.panelReady && (s.image.source != .both || s.water.lineHold)

/-- DISPENSE_WATER reaches the water path (R126). -/
def State.actDispenseWater (req : Request) (s : State) : State × Result :=
  let ml := arg16 req.args 0
  if 2000 < ml then (s, .plain resBadArgument)
  else if s.image.source = .line then (s, .plain resNotPermitted)
  else match s.water.path with
    | .locked => (s, .plain resRefusedFault)
    | .dispensing =>
      match s.water.dispense with
      | some d =>
        if d.owner = .panel then (s.updateDispense d ml, .plain (updateAnswer d ml)) else (s, .plain resBusy)
      | none => (s, .plain resBusy)
    | _ =>
      if s.sourceReady then
        let t := s.startDispense .panel ml
        (t, .plain (t.startAnswer ml))
      else (s, .plain resNotReady)

/-- DISPENSE_STOP (R129). -/
def State.actDispenseStop (s : State) : State × Result := (s.stopDispense, .plain resDone)

/-! ### Ice (R155 to R158) -/

/-- AUG is asked for, and the auger waits in CLAIMING (R157). -/
def State.claimAuger (s : State) : State := (s.setAuger .claiming).ask .aug s.image.augAmps

/-- DISPENSE_ICE by the auger state (R157). -/
def State.actDispenseIce (s : State) : State × Result :=
  match s.ice.auger with
  | .idle =>
    if s.classA then (s, .plain resRefusedFault)
    else if s.paddleTest then (s.claimAuger, .plain resAccepted)
    else (s, .plain resNotReady)
  | .claiming => (s, .plain resBusy)
  | .running => (s, .plain resDone)

/-- ICE_STOP (R158). -/
def State.actIceStop (s : State) : State × Result := (s.endAuger, .plain resDone)

/-- The mold of a mold byte (R155). -/
def moldOf : Nat → Option Mold
  | 0 => some .a
  | 1 => some .b
  | _ => none

/-- MOLD_ENABLE (R155). -/
def State.actMoldEnable (req : Request) (s : State) : State × Result :=
  match moldOf (argAt req.args 0), argAt req.args 1 with
  | some m, 0 => (s.disableMold m, .plain resDone)
  | some m, 1 => (s.enableMold m, .plain resDone)
  | _, _ => (s, .plain resBadArgument)

/-! ### Defrost (R102, R187) -/

/-- DEFROST_NOW: ACCEPTED when the demand is taken or joins, BUSY when it is not taken (R100, R187). -/
def State.actDefrostNow (s : State) : State × Result :=
  match s.demandOutcome with
  | .notTaken => (s.demand, .plain resBusy)
  | _ => (s.demand, .plain resAccepted)

/-- The inhibit timer is stopped, if it runs, and the leave test made (R102). -/
def State.stopInhibit (s : State) : State :=
  match s.defrost.inhibit with
  | none => s
  | some _ => { s with defrost := { s.defrost with inhibit := none } }.leaveTest

/-- The inhibit timer is started, or restarted, with a number of minutes (R102). -/
def State.startInhibit (s : State) (minutes : Nat) : State :=
  { s with defrost := { s.defrost with inhibit := s.timer (minutes * Config.minute) } }

/-- DEFROST_INHIBIT (R102). -/
def State.actDefrostInhibit (req : Request) (s : State) : State × Result :=
  let minutes := arg16 req.args 0
  if 480 < minutes then (s, .plain resBadArgument)
  else if minutes = 0 then (s.stopInhibit, .plain resDone)
  else (s.startInhibit minutes, .plain resDone)

/-! ### Modes (R188, R189) -/

/-- A channel with test value NONE (R164). -/
def OutputChannel.untested (c : OutputChannel) : OutputChannel := { c with test := .none }

/-- Every test value is NONE, and the outputs resolved (R164). -/
def State.clearTests (s : State) : State :=
  { s with out := { s.out with channels := s.out.channels.map OutputChannel.untested } }.resolve

/-- The start test after SHOWROOM, for a path in IDLE (R121, R140). -/
def State.startTestIdle (s : State) : State := if s.water.path = .idle then s.startTest else s

/-- Entry to SHOWROOM (R80, R118, R140, R154, R189). -/
def State.enterShowroom (s : State) : State :=
  ((((s.generalRelease).augerAborted).showroomDefrost).abortMolds).stopDispense

/-- The exit effects of a mode (R189). -/
def State.exitMode (s : State) (old : OpMode) : State :=
  match old with
  | .service => s.clearTests
  | .showroom => s.startTestIdle
  | _ => s

/-- The entry effects of a mode (R189). -/
def State.enterMode (s : State) (new : OpMode) : State :=
  match new with
  | .showroom => s.enterShowroom
  | _ => s

/-- A change of mode: the mode, its layers, the exit and entry effects, the leave and hold tests, MODE (R101, R145, R162, R188, R189). -/
def State.changeMode (s : State) (new : OpMode) : State :=
  let s1 := { s with mode := new }.resolve
  let s2 := ((s1.exitMode s.mode).enterMode new).leaveTest.holdTests
  s2.write .mode (new.code : Nat)

/-- SET_MODE (R188). -/
def State.actSetMode (req : Request) (s : State) : State × Result :=
  match opModeOf (argAt req.args 0) with
  | none => (s, .plain resBadArgument)
  | some m => (if m = s.mode then s else s.changeMode m, .plain resDone)

/-! ### Faults (R178, R179) -/

/-- CLEAR_FAULT: every answer carries the flags (R178). -/
def State.actClearFault (req : Request) (s : State) : State × Result :=
  let code := argAt req.args 0
  if code = 0xFF then (s.clearAll.1, { code := s.clearAll.2, bytes := s.clearAll.1.flagBytes })
  else match faultOf code with
    | some f => ((s.clearSingle f).1, { code := (s.clearSingle f).2, bytes := (s.clearSingle f).1.flagBytes })
    | none => (s, { code := resBadArgument, bytes := s.flagBytes })

/-! ### Watch points (R20, R24) -/

/-- The watch point of an index byte. -/
def pointOf (n : Nat) : Option (Fin 16) := if h : n < 16 then some ⟨n, h⟩ else none

/-- A point taken from LATCHED to INACTIVE treats a TRUE condition as a condition-true event (R20); while the point holds, the delay timer that this starts is paused (R22). -/
def clearedPoint (cfg : WatchConfig) (now : Nat) (holds : Bool) (w : WatchPoint) : WatchPoint :=
  if w.condition = .isTrue then
    let moved := onTrueEvent cfg now w
    if holds && moved.computed = .making then { moved with delay := moved.delay.pause now } else moved
  else w

/-- A point moves, and its reports follow at once (R25, R184). -/
def State.movePoint (s : State) (i : Fin 16) (w : WatchPoint) : State := (s.putWatch i w).reportWords

/-- CLEAR_WATCH at one point: LATCHED goes to INACTIVE, and from there on as its condition says, each move with its report (R20, R184). -/
def State.clearPoint (s : State) (i : Fin 16) : State :=
  if s.watch[i].computed = .latched then
    let s1 := s.movePoint i { s.watch[i] with computed := .inactive }
    s1.movePoint i (clearedPoint s1.image.watch[i] s1.now (s1.pointHolds i) s1.watch[i])
  else s

/-- CLEAR_WATCH (R20). -/
def State.actClearWatch (req : Request) (s : State) : State × Result :=
  let n := argAt req.args 0
  if n = 255 then (watchPoints.foldl State.clearPoint s, .plain resDone)
  else match pointOf n with
    | some i => (s.clearPoint i, .plain resDone)
    | none => (s, .plain resBadArgument)

def forcedOf : Nat → Option Forced
  | 0 => some .none
  | 1 => some .active
  | 2 => some .inactive
  | _ => none

/-- FORCE_WATCH (R24). -/
def State.actForceWatch (req : Request) (s : State) : State × Result :=
  match pointOf (argAt req.args 0), forcedOf (argAt req.args 1) with
  | some i, some f => (s.putWatch i { s.watch[i] with forced := f }, .plain resDone)
  | _, _ => (s, .plain resBadArgument)

/-! ### Reading (R186) -/

/-- An own tag as it reads: its value, and 0 or 2 (R186). -/
def State.readOwn (s : State) (t : OwnTag) : List Byte :=
  valueBytes (s.own t) ++ [if s.ownValid t then 0 else 2]

/-- A part of the detail record (R177, R186). -/
def State.detailPart (s : State) (k : Nat) : List Byte := ((detailBytes s.fault.record).drop (4 * k)).take 4

/-- READ_QUANTITY of the part itself (R186). -/
def State.readSelf (s : State) (item : Nat) : Option (List Byte) :=
  match ownTagOf item with
  | some t => some (s.readOwn t)
  | none =>
    if item = 0xD0 then some (s.detailPart 0)
    else if item = 0xD1 then some (s.detailPart 1)
    else if item = 0xD2 then some (s.detailPart 2)
    else none

/-- The freshness of a station as it reads (R186). -/
def State.readFreshness (s : State) (a : Addr) : Byte :=
  match s.record a with
  | none => 0
  | some r =>
    match r.freshness with
    | .fresh => 1
    | .stale => 2
    | .lost => 3

/-- A peer quantity as it reads: its value, and 0 FRESH, 1 STALE, 3 invalid (R186). -/
def State.readPeer (s : State) (a : Addr) (tag : Byte) : List Byte :=
  match s.peer a tag with
  | some v => valueBytes v ++ [if s.isFresh a then 0 else 1]
  | none => [0, 0, 3]

/-- A station's last notice as it reads (R50, R186). -/
def State.readNotice (s : State) (a : Addr) : List Byte :=
  match (s.record a).bind StationRecord.notice with
  | some (code, cls) => [code, cls, 1]
  | none => [0, 0, 0]

/-- READ_QUANTITY of a peer (R186). -/
def State.readStation (s : State) (a : Addr) (item : Nat) : Option (List Byte) :=
  if item = 0xFE then some (s.readNotice a)
  else if item = 0xFF then some [s.readFreshness a]
  else if isKnownTag (BitVec.ofNat 8 item) then some (s.readPeer a (BitVec.ofNat 8 item))
  else none

/-- What a station byte and an item byte read (R186). -/
def State.readItem (s : State) (station item : Nat) : Option (List Byte) :=
  if station = 0 ∨ station = s.image.ownAddress.toNat then s.readSelf item
  else match stationOf station with
    | some a => s.readStation a item
    | none => none

/-- READ_QUANTITY (R186). -/
def State.actReadQuantity (req : Request) (s : State) : State × Result :=
  match s.readItem (argAt req.args 0) (argAt req.args 1) with
  | some bytes => (s, { code := resDone, bytes := bytes })
  | none => (s, .plain resBadArgument)

/-! ### Small requests (R51, R164, R187) -/

/-- PUBLISH_NOW (R187). -/
def State.actPublishNow (s : State) : State × Result := (s.publishRequest, .plain resDone)

/-- FORGET_STATION (R51). -/
def State.actForgetStation (req : Request) (s : State) : State × Result :=
  match stationOf (argAt req.args 0) with
  | some a => if a = s.image.ownAddress then (s, .plain resBadArgument) else (s.forget a, .plain resDone)
  | none => (s, .plain resBadArgument)

/-- The test value of a value code and a parameter (R164). -/
def testValueOf (code param : Nat) : Option TestValue :=
  match code with
  | 0 => some .none
  | 1 => some .off
  | 2 => some .on
  | 3 => if h : param < 4 then some (.pattern ⟨param, h⟩) else none
  | 4 => if h : param < 6 then some (.follow ⟨param, h⟩) else none
  | _ => none

/-- A test value that could open a valve: ON, PATTERN(n) or FOLLOW(i) (R167). -/
def TestValue.opens : TestValue → Bool
  | .on | .pattern _ | .follow _ => true
  | _ => false

/-- The valve test of R167 fails. -/
def State.valveTestFails (s : State) (o : Output) (v : TestValue) : Bool :=
  o.isValve && v.opens && valves.any fun w => w != o && (s.isOn w || (s.channel w).test.opens)

/-- A test value is set, and the outputs resolved (R164). -/
def State.setTest (s : State) (o : Output) (v : TestValue) : State :=
  { s with out := { s.out with channels := s.out.channels.set o.idx { s.channel o with test := v } } }.resolve

/-- TEST_OUTPUT (R164, R167). -/
def State.actTestOutput (req : Request) (s : State) : State × Result :=
  match outputOf (argAt req.args 0), testValueOf (argAt req.args 1) (argAt req.args 2) with
  | some o, some v =>
    if s.valveTestFails o v then (s, .plain resInterlock)
    else (s.setTest o v, { code := resDone, bytes := [BitVec.ofNat 8 ((s.setTest o v).outputState o)] })
  | _, _ => (s, .plain resBadArgument)

/-- The ANSWER to a RESTART is offered with its mark; the reset waits for its fate, or is due at once when the queue does not take it (R187). -/
def State.takeRestart (s : State) (req : Request) : State :=
  if s.start.restart = .due then s.answer kindRestart req (.plain resDone)
  else if s.takes then
    { s with start := { s.start with restart := .answering } }.offer
      (newFrame req.src 2 (.answer (BitVec.ofNat 8 kindRestart) req.seq (BitVec.ofNat 8 resDone) [] true))
  else { s with start := { s.start with restart := .due } }

/-- A RESTART request (R181, R187). -/
def State.requestRestart (s : State) (req : Request) : State :=
  s.receive req.src fun st =>
    if req.broadcast then st
    else match st.firstFailure kindRestart req with
      | some code => st.answer kindRestart req (.plain code)
      | none => st.takeRestart req

end Sys2Proof.Machine
end

