-- ==== Sys2Proof/Machine/ExecDefrost.lean ====
section
/-! DEFINITION. The meanings of the frost accountant's and the defrost controller's timer commands (Chapters 4 and 5). -/

namespace Sys2Proof.Machine

/-- The end of a frost minute (R87). -/
def State.endMinute (s : State) : State :=
  let s1 := { s with frost := { s.frost with seconds := 0 } }
  if s1.minuteDiscarded then s1.clearMinute
  else
    let s2 := (s1.setF (s1.frost.f + s1.minuteIncrement)).clearMinute
    s2.demandIf s2.thresholdTest

/-- A frost second: the timer restarts, the samples, the minute's end (R83). -/
def State.frostSecond (s : State) : State :=
  let s1 := { s with frost := { s.frost with secondTimer := s.timer Config.sec } }.frostSamples
  if s1.frost.seconds = 60 then s1.endMinute else s1

/-- FROST_SECOND_EXPIRY (R83). -/
def execFrostSecondExpiry (s : State) : Host.Outcome State Fault Refusal :=
  (onExpiry s.frost.secondTimer State.frostSecond s).done

/-- An hour has passed: the count, then the threshold and max gap tests (R88). -/
def State.hourPassed (s : State) : State :=
  let s1 := { s with frost := { s.frost with hourTimer := s.timer Config.hour } }.setHours (s.frost.hours + 1)
  let s2 := s1.demandIf s1.thresholdTest
  s2.demandIf s2.maxGapTest

/-- HOUR_TIMER_EXPIRY (R88). -/
def execHourTimerExpiry (s : State) : Host.Outcome State Fault Refusal :=
  (onExpiry s.frost.hourTimer State.hourPassed s).done

/-- The retry gap has run: RETRY_OPEN and the threshold test (R89). -/
def State.retryOpens (s : State) : State :=
  let s1 := { s with frost := { s.frost with gap := .retryOpen, retryTimer := none } }
  s1.demandIf s1.thresholdTest

/-- RETRY_TIMER_EXPIRY (R89). -/
def execRetryTimerExpiry (s : State) : Host.Outcome State Fault Refusal :=
  (onExpiry s.frost.retryTimer State.retryOpens s).done

/-- No answer in time: a failure outside island operation (R104, R105). -/
def State.answerLate (s : State) : State :=
  let s1 := { s with defrost := { s.defrost with answer := none } }
  if s1.defrost.state = .holdWait ∧ s1.line.island = false then s1.failHold else s1

/-- ANSWER_TIMER_EXPIRY (R104). -/
def execAnswerTimerExpiry (s : State) : Host.Outcome State Fault Refusal :=
  (onExpiry s.defrost.answer State.answerLate s).done

/-- The compressor has not stopped in time: a failure, or in island operation the way to PUMP_DOWN (R104, R105). -/
def State.speedLate (s : State) : State :=
  let s1 := { s with defrost := { s.defrost with speed := none } }
  if s1.defrost.state = .holdWait then
    if s1.line.island then s1.enterPumpDown .unconfirmed else s1.failHold
  else s1

/-- SPEED_TIMER_EXPIRY (R104). -/
def execSpeedTimerExpiry (s : State) : Host.Outcome State Fault Refusal :=
  (onExpiry s.defrost.speed State.speedLate s).done

/-- A hold state that is renewed (R106). -/
def HoldState.renewed : HoldState → Bool
  | .asked | .held | .unconfirmed => true
  | _ => false

/-- A renewal of the hold (R106). -/
def State.renewHold (s : State) : State :=
  if s.defrost.hold.renewed then
    let s1 := s.offerHold
    { s1 with defrost := { s1.defrost with renew := s1.timer Config.minute } }
  else { s with defrost := { s.defrost with renew := none } }

/-- REPEAT_TIMER_EXPIRY (R106). -/
def execRepeatTimerExpiry (s : State) : Host.Outcome State Fault Refusal :=
  (onExpiry s.defrost.renew State.renewHold s).done

/-- HOLD_RETRY_EXPIRY (R101, R104). -/
def execHoldRetryExpiry (s : State) : Host.Outcome State Fault Refusal :=
  (onExpiry s.defrost.holdRetry (fun t => { t with defrost := { t.defrost with holdRetry := none } }.leaveTest) s).done

/-- INHIBIT_TIMER_EXPIRY (R101, R102). -/
def execInhibitTimerExpiry (s : State) : Host.Outcome State Fault Refusal :=
  (onExpiry s.defrost.inhibit (fun t => { t with defrost := { t.defrost with inhibit := none } }.leaveTest) s).done

/-- DWELL_TIMER_EXPIRY (R107). -/
def execDwellTimerExpiry (s : State) : Host.Outcome State Fault Refusal :=
  (onExpiry s.defrost.dwell State.enterHeatClaim s).done

/-- What a second of heating adds to t_eq2 (R110). -/
def Duty.weight : Duty → Nat
  | .full => 2
  | .half => 1

/-- A heating second: the counts, then the limits (R110, R111). -/
def State.heatingSecond (s : State) : State :=
  State.limitTest
    { s with
      defrost := { s.defrost with
        heatSecond := s.timer Config.sec
        heatSeconds := s.defrost.heatSeconds + 1
        tEq2 := s.defrost.tEq2 + s.defrost.duty.weight } }

/-- HEATING_SECOND_EXPIRY (R110). -/
def execHeatingSecondExpiry (s : State) : Host.Outcome State Fault Refusal :=
  (onExpiry s.defrost.heatSecond State.heatingSecond s).done

/-- The drip ends: DR off, RECOVERY (R114). -/
def State.dripEnds (s : State) : State :=
  ({ s with defrost := { s.defrost with drip := none } }.command .dr .off).enterRecovery

/-- DRIP_TIMER_EXPIRY (R114). -/
def execDripTimerExpiry (s : State) : Host.Outcome State Fault Refusal :=
  (onExpiry s.defrost.drip State.dripEnds s).done

/-- FAN_TIMER_EXPIRY (R115). -/
def execFanTimerExpiry (s : State) : Host.Outcome State Fault Refusal :=
  (onExpiry s.defrost.fan State.endRecovery s).done

end Sys2Proof.Machine
end

