-- ==== Sys2Proof/Machine/ExecIce.lean ====
section
/-! DEFINITION. The meanings of the ice controller's timers, the pattern generators' phase timer and the notice repeat timer (Chapters 7 to 9). -/

namespace Sys2Proof.Machine

/-- The fill retry time has run: the fill request for attempt 2 (R142). -/
def State.fillRetries (s : State) (m : Mold) : State :=
  (s.setMold m { s.mold m with fillRetry := none }).fillRequest m

/-- FILL_RETRY_EXPIRY (R142). -/
def execFillRetryExpiry (mold : Mold) (s : State) : Host.Outcome State Fault Refusal :=
  (onExpiry (s.mold mold).fillRetry (fun t => t.fillRetries mold) s).done

/-- LEAST_FREEZE_EXPIRY (R143). -/
def execLeastFreezeExpiry (mold : Mold) (s : State) : Host.Outcome State Fault Refusal :=
  (onExpiry (s.mold mold).leastFreeze
    (fun t => (t.setMold mold { t.mold mold with leastFreeze := none }).freezeTest mold) s).done

/-- TIMED_FREEZE_EXPIRY (R143). -/
def execTimedFreezeExpiry (mold : Mold) (s : State) : Host.Outcome State Fault Refusal :=
  (onExpiry (s.mold mold).timedFreeze
    (fun t => (t.setMold mold { t.mold mold with timedFreeze := none }).freezeTest mold) s).done

/-- A heater second: the count, then the heat end test (R147). -/
def State.heaterSecond (s : State) (m : Mold) : State :=
  (s.setMold m { s.mold m with heatSecond := s.timer Config.sec, heatSeconds := (s.mold m).heatSeconds + 1 }).heatEndTest m true

/-- HEATER_SECOND_EXPIRY (R147). -/
def execHeaterSecondExpiry (mold : Mold) (s : State) : Host.Outcome State Fault Refusal :=
  (onExpiry (s.mold mold).heatSecond (fun t => t.heaterSecond mold) s).done

/-- EJECT_TIMER_EXPIRY: a stall (R149). -/
def execEjectTimerExpiry (mold : Mold) (s : State) : Host.Outcome State Fault Refusal :=
  (onExpiry (s.mold mold).eject (fun t => t.stall mold) s).done

/-- STALL_WAIT_EXPIRY: HARVEST_CLAIM (R149). -/
def execStallWaitExpiry (mold : Mold) (s : State) : Host.Outcome State Fault Refusal :=
  (onExpiry (s.mold mold).stallWait
    (fun t => (t.setMold mold { t.mold mold with stallWait := none }).enterHarvestClaim mold) s).done

/-- AUGER_RUN_EXPIRY (R158). -/
def execAugerRunExpiry (s : State) : Host.Outcome State Fault Refusal :=
  (onExpiry s.ice.runTimer State.endAuger s).done

/-- The next phase of a generator (R168). -/
def nextPhase (p : GenParams) (now : Nat) (g : Generator) : Generator :=
  match g.phase with
  | .idle => g
  | .pullIn => enterOnPhase p now
  | .onPhase => enterOffPhase p now
  | .offPhase => enterOnPhase p now

/-- The phase timer of a generator has run (R168). -/
def State.phaseEnds (s : State) (n : Fin 4) : State :=
  { s with out := { s.out with gens := s.out.gens.set n (nextPhase s.image.gens[n] s.now s.out.gens[n]) } }

/-- PHASE_TIMER_EXPIRY (R168). -/
def execPhaseTimerExpiry (generator : Fin 4) (s : State) : Host.Outcome State Fault Refusal :=
  (onExpiry s.out.gens[generator].timer (fun t => t.phaseEnds generator) s).done

/-- The notice repeat: a further NOTICE while a class A flag is set (R173). -/
def State.noticeRepeats (s : State) : State :=
  match s.fault.highestA with
  | some f => s.announce f
  | none => { s with fault := { s.fault with noticeTimer := none } }

/-- NOTICE_REPEAT_EXPIRY (R173). -/
def execNoticeRepeatExpiry (s : State) : Host.Outcome State Fault Refusal :=
  (onExpiry s.fault.noticeTimer State.noticeRepeats s).done

end Sys2Proof.Machine
end

