-- ==== Sys2Proof/Machine/ExecInputs.lean ====
section
/-! DEFINITION. The meanings of the watch, sensor and switch commands (Chapter 1, R124). -/

namespace Sys2Proof.Machine

/-! ### Watch points (R19) -/

/-- The moment a running delay timer expires. -/
def DelayTimer.deadline : DelayTimer → Timer
  | .running deadline => some deadline
  | _ => none

/-- The move at the expiry of the delay timer (Table 1-8). -/
def onDelay (w : WatchPoint) : WatchPoint :=
  match w.computed with
  | .making => { w with computed := .active, delay := .stopped }
  | .breaking => { w with computed := .inactive, delay := .stopped }
  | _ => { w with delay := .stopped }

/-- WATCH_DELAY_EXPIRY (R19). -/
def execWatchDelayExpiry (point : Fin 16) (s : State) : Host.Outcome State Fault Refusal :=
  (onExpiry s.watch[point].delay.deadline (fun t => t.putWatch point (onDelay t.watch[point])) s).done

/-! ### Thermistors (R7 to R11) -/

/-- The reading now at a thermistor pin. -/
def State.setThermistor (s : State) (c : Channel) (raw : BitVec 12) : State :=
  { s with pins := { s.pins with thermistor := s.pins.thermistor.set c raw } }

/-- SAMPLE: the reading at the pin, and the sample where the sample timer runs (R7). DESIGN CHOICE (notes/assumptions/38): with the timer stopped, before LISTEN, it brings the reading that the first sample at the entry to LISTEN takes. -/
def execSample (channel : Channel) (raw : BitVec 12) (s : State) : Host.Outcome State Fault Refusal :=
  (onExpiry (s.sensors.get channel).sample (fun t => t.takeSample channel) (s.setThermistor channel raw)).done

/-- The hold has run out: the substitute, and the tag invalid for the watch unit (R11). -/
def State.holdRunsOut (s : State) (c : Channel) : State :=
  let r := s.sensors.get c
  if r.state = .holding then
    let s1 := (s.setSensor c { r with state := .substituted, hold := none }).write c.tag (s.image.substitutes.get c)
    (s1.validityChange c).channelJobs c
  else s.setSensor c { r with hold := none }

/-- CHANNEL_HOLD_EXPIRY (R11). -/
def execChannelHoldExpiry (channel : Channel) (s : State) : Host.Outcome State Fault Refusal :=
  (onExpiry (s.sensors.get channel).hold (fun t => t.holdRunsOut channel) s).done

/-! ### Switch inputs (R12 to R15, R124) -/

/-- A raw level that differs from the qualified level starts the timer; a return stops it. -/
def Qualified.raw (q : Qualified) (level : Bool) (timer : Timer) : Qualified :=
  { q with timer := if level = q.level then none else timer }

/-- The raw level has held: it is the qualified level. -/
def Qualified.settled (level : Bool) : Qualified := { level := level, timer := none }

/-- A new raw level of a pin: nothing when it is the level already there. -/
def State.inputEdge (s : State) (was level : Bool) (pin switch : State → State) : State :=
  if was = level then s
  else
    let t := pin s
    if t.listening then switch t else t

/-- BIN_INPUT_CHANGE (R12). -/
def execBinInputChange (up : Bool) (s : State) : Host.Outcome State Fault Refusal :=
  (s.inputEdge s.pins.bin up
    (fun t => { t with pins := { t.pins with bin := up } })
    (fun t => { t with switches := { t.switches with bin := t.switches.bin.raw up (t.timer Config.binTime) } })).done

/-- The bin state changes (R12, R145, R164). -/
def State.binQualified (s : State) : State :=
  ({ s with switches := { s.switches with bin := .settled s.pins.bin } }.reportWords.resolve).holdTests

/-- BIN_TIMER_EXPIRY (R12). -/
def execBinTimerExpiry (s : State) : Host.Outcome State Fault Refusal :=
  (onExpiry s.switches.bin.timer State.binQualified s).done

/-- HOME_SWITCH_CHANGE (R13). -/
def execHomeSwitchChange (mold : Mold) (closed : Bool) (s : State) : Host.Outcome State Fault Refusal :=
  (s.inputEdge (s.pins.home.get mold) closed
    (fun t => { t with pins := { t.pins with home := t.pins.home.set mold closed } })
    (fun t => { t with
      switches := { t.switches with
        home := t.switches.home.set mold ((t.switches.home.get mold).raw closed (t.timer Config.switchTime)) } })).done

/-- A home switch changes its qualified level, and the edge goes to its mold (R13). DESIGN CHOICE (notes/assumptions/42): what follows the switch in the TEST layer is resolved first. -/
def State.homeQualified (s : State) (m : Mold) : State :=
  let level := s.pins.home.get m
  ({ s with switches := { s.switches with home := s.switches.home.set m (.settled level) } }.resolve).homeEdge m level

/-- HOME_TIMER_EXPIRY (R13). -/
def execHomeTimerExpiry (mold : Mold) (s : State) : Host.Outcome State Fault Refusal :=
  (onExpiry (s.switches.home.get mold).timer (fun t => t.homeQualified mold) s).done

/-- LEAK_INPUT_CHANGE (R14). -/
def execLeakInputChange (wet : Bool) (s : State) : Host.Outcome State Fault Refusal :=
  (s.inputEdge s.pins.leak wet
    (fun t => { t with pins := { t.pins with leak := wet } })
    (fun t => { t with switches := { t.switches with leak := t.switches.leak.raw wet (t.timer Config.leakTime) } })).done

/-- The leak state changes; WET is a LEAK detection (R14). DESIGN CHOICE (notes/assumptions/34): the raise comes before the resolution of what follows the sensor. -/
def State.leakQualified (s : State) : State :=
  let s1 := { s with switches := { s.switches with leak := .settled s.pins.leak } }
  (if s.pins.leak then s1.raiseA .leak else s1).resolve

/-- LEAK_TIMER_EXPIRY (R14). -/
def execLeakTimerExpiry (s : State) : Host.Outcome State Fault Refusal :=
  (onExpiry s.switches.leak.timer State.leakQualified s).done

/-- CUTOUT_INPUT_CHANGE (R15). -/
def execCutoutInputChange (contactsOpen : Bool) (s : State) : Host.Outcome State Fault Refusal :=
  (s.inputEdge s.pins.cutout contactsOpen
    (fun t => { t with pins := { t.pins with cutout := contactsOpen } })
    (fun t => { t with
      switches := { t.switches with cutout := t.switches.cutout.raw contactsOpen (t.timer Config.cutoutTime) } })).done

/-- The cutout sense changes; TRIPPED is an OVERTEMP detection (R15, R171). DESIGN CHOICE (notes/assumptions/34): the raise comes before the resolution of what follows the sensor. -/
def State.cutoutQualified (s : State) : State :=
  let s1 := { s with switches := { s.switches with cutout := .settled s.pins.cutout } }
  (if s.pins.cutout then s1.raiseA .overtemp else s1).resolve

/-- CUTOUT_TIMER_EXPIRY (R15). -/
def execCutoutTimerExpiry (s : State) : Host.Outcome State Fault Refusal :=
  (onExpiry s.switches.cutout.timer State.cutoutQualified s).done

/-- PADDLE_LINE_CHANGE (R124). -/
def execPaddleLineChange (low : Bool) (s : State) : Host.Outcome State Fault Refusal :=
  (s.inputEdge s.pins.paddle low
    (fun t => { t with pins := { t.pins with paddle := low } })
    (fun t => { t with
      switches := { t.switches with paddle := t.switches.paddle.raw low (t.timer Config.switchTime) } })).done

/-- The paddle line changes its qualified level: the layers, then the line hold (R124, R162). DESIGN CHOICE (notes/assumptions/42): what follows the line in the TEST and FOLLOW layers is resolved first. -/
def State.paddleQualified (s : State) : State :=
  ({ s with switches := { s.switches with paddle := .settled s.pins.paddle } }.resolve).paddleEdge s.pins.paddle

/-- PADDLE_TIMER_EXPIRY (R124). -/
def execPaddleTimerExpiry (s : State) : Host.Outcome State Fault Refusal :=
  (onExpiry s.switches.paddle.timer State.paddleQualified s).done

end Sys2Proof.Machine
end

