-- ==== Sys2Proof/Machine/Codec.lean ====
section
/-! DEFINITION. Frames as characters of the cabinet line: layout, check character, what is discarded, which command a frame heard is, and the characters of a frame sent (R36 to R40, Tables 2-1 to 2-4). -/

namespace Sys2Proof.Machine

/-! ### Characters 1 and 2 (Table 2-2) -/

/-- A three-bit field placed most significant bit first. -/
def rev3 (b : BitVec 3) : BitVec 3 :=
  BitVec.ofBool (b.getLsbD 0) ++ BitVec.ofBool (b.getLsbD 1) ++ BitVec.ofBool (b.getLsbD 2)

/-- A four-bit field placed most significant bit first. -/
def rev4 (b : BitVec 4) : BitVec 4 :=
  BitVec.ofBool (b.getLsbD 0) ++ BitVec.ofBool (b.getLsbD 1) ++ BitVec.ofBool (b.getLsbD 2) ++ BitVec.ofBool (b.getLsbD 3)

/-- Character 1: class in bits 0 to 2, kind in bits 3 to 5, two zero bits. -/
def headerOne (cls kind : BitVec 3) : Byte := 0#2 ++ rev3 kind ++ rev3 cls

/-- Character 2: source in bits 0 to 3, target in bits 4 to 7. -/
def headerTwo (source target : Addr) : Byte := rev4 target ++ rev4 source

/-- The kind that character 1 names (Table 2-2). -/
def kindOf (c1 : Byte) : BitVec 3 := rev3 (c1.extractLsb' 3 3)

/-- The source that character 2 names (Table 2-2). -/
def sourceOf (c2 : Byte) : Addr := rev4 (c2.extractLsb' 0 4)

/-! ### The check character (R36) -/

/-- One bit of the CRC-8 with polynomial x⁸ + x² + x + 1. -/
def crcBit (c : Byte) : Byte := if c.msb then (c <<< 1) ^^^ 0x07 else c <<< 1

/-- The remainder after one more character, most significant bit first. -/
def crcByte (c b : Byte) : Byte :=
  crcBit (crcBit (crcBit (crcBit (crcBit (crcBit (crcBit (crcBit (c ^^^ b))))))))

/-- The check of a list of characters. -/
def crc8 (chars : List Byte) : Byte := chars.foldl crcByte 0

/-! ### Frames (Table 2-1) -/

/-- A frame as its characters say it. -/
structure Frame where
  cls     : BitVec 3
  kind    : BitVec 3
  source  : Addr
  target  : Addr
  payload : List Byte
deriving DecidableEq, Repr

/-- The characters before the check. -/
def Frame.body (f : Frame) : List Byte :=
  [headerOne f.cls f.kind, headerTwo f.source f.target, BitVec.ofNat 8 f.payload.length] ++ f.payload

/-- The characters of a frame (Table 2-1). -/
def Frame.chars (f : Frame) : List Byte := f.body ++ [crc8 f.body]

/-- A payload length within the range of its kind (Table 2-3). -/
def lengthFits (kind : BitVec 3) (n : Nat) : Bool :=
  match kind.toNat with
  | 1 => decide (1 ≤ n) && decide (n ≤ 16)
  | 2 => n == 3
  | 3 => n == 1
  | 4 => decide (3 ≤ n) && decide (n ≤ 11)
  | 5 => decide (3 ≤ n) && decide (n ≤ 7)
  | 6 => n == 2
  | _ => false

/-- A class byte of a payload is at most 7 (R38). -/
def classByte (b : Byte) : Bool := decide (b.toNat ≤ 7)

/-- The first `n` two-byte entries of a payload have legal class bytes (R38). -/
def grantsFit : Nat → List Byte → Bool
  | 0, _ => true
  | n + 1, c :: _ :: rest => classByte c && grantsFit n rest
  | _ + 1, _ => false

/-- A STATUS payload fits: 0 to 5 grant entries, all there (Table 2-3, R38). -/
def statusFits : List Byte → Bool
  | n :: rest => decide (n.toNat ≤ 5) && decide (2 * n.toNat ≤ rest.length) && grantsFit n.toNat rest
  | [] => false

/-- A payload fits its kind (Table 2-3, R38). DEDUCED (notes/assumptions/16): the class bytes are the precedence classes of STATUS and CLAIM, not the fault class of NOTICE. -/
def payloadFits (kind : BitVec 3) (p : List Byte) : Bool :=
  match kind.toNat with
  | 1 => statusFits p
  | 2 => lengthFits kind p.length && classByte (p.getD 1 0)
  | _ => lengthFits kind p.length

/-- What makes a frame valid beside its length and check (R38). -/
def Frame.fits (f : Frame) : Bool :=
  f.source != 0 && f.source != 15 && decide (f.payload.length ≤ 16) && payloadFits f.kind f.payload

/-- The frame of a list of characters: none when it is discarded (R38). The framer takes 4 + length characters, and what comes after them is no part of the frame. Bits 6 and 7 of character 1 are not examined. -/
def readFrame (chars : List Byte) : Option Frame :=
  match chars with
  | c1 :: c2 :: len :: rest =>
    let f : Frame :=
      { cls := rev3 (c1.extractLsb' 0 3), kind := kindOf c1
        source := sourceOf c2, target := rev4 (c2.extractLsb' 4 4), payload := rest.take len.toNat }
    if decide (len.toNat + 1 ≤ rest.length) && f.fits && crc8 (c1 :: c2 :: len :: f.payload) == rest.getD len.toNat 0 then
      some f
    else none
  | _ => none

/-! ### Which command a frame heard is (R39, R40) -/

/-- The grant entries of a STATUS payload. -/
def readGrants : Nat → List Byte → List GrantItem
  | n + 1, c :: a :: rest => { cls := BitVec.ofNat 3 c.toNat, amps := a } :: readGrants n rest
  | _, _ => []

/-- Whole three-byte items; one or two bytes left over are ignored (R38). -/
def readItems : List Byte → List QuantityItem
  | t :: lo :: hi :: rest => { tag := t, value := hi ++ lo } :: readItems rest
  | _ => []

/-- The STATUS command of a payload. -/
def statusCommand (src : Addr) (p : List Byte) : Instr :=
  let n := (p.getD 0 0).toNat
  .statusFrameReceived src (readGrants n (p.drop 1)) (readItems (p.drop (1 + 2 * n)))

/-- The request command of a kind code (Table 10-1). -/
def requestCommand (kind : Byte) (req : Request) : Instr :=
  match kind.toNat with
  | 1 => .dispenseWater req
  | 2 => .dispenseStop req
  | 3 => .dispenseIce req
  | 4 => .iceStop req
  | 5 => .defrostNow req
  | 6 => .defrostInhibit req
  | 7 => .moldEnable req
  | 8 => .setMode req
  | 9 => .clearFault req
  | 10 => .clearWatch req
  | 11 => .forceWatch req
  | 12 => .readQuantity req
  | 13 => .publishNow req
  | 14 => .forgetStation req
  | 15 => .testOutput req
  | 16 => .restart req
  | _ => .requestUnknownKind kind req

/-- The command of a valid frame at a part of a given address (R39, R40). -/
def Frame.command (own : Addr) (f : Frame) : Instr :=
  let p := f.payload
  if f.source = own then .foreignFrameOwnAddress
  else match f.kind.toNat with
    | 1 => statusCommand f.source p
    | 2 => .claimFrameReceived f.source (p.getD 0 0) (BitVec.ofNat 3 (p.getD 1 0).toNat) (p.getD 2 0)
    | 3 => .releaseFrameReceived f.source (p.getD 0 0)
    | 4 =>
      if f.target = own ∨ f.target = allStations then
        requestCommand (p.getD 0 0)
          { src := f.source, broadcast := f.target == allStations, cond := p.getD 1 0, seq := p.getD 2 0, args := p.drop 3 }
      else .unconsumedFrame f.source
    | 5 =>
      if f.target = own then .answerFrameReceived f.source (p.getD 0 0) (p.getD 1 0) (p.getD 2 0)
      else .unconsumedFrame f.source
    | _ => .noticeFrameReceived f.source (p.getD 0 0) (p.getD 1 0)

/-- The command that the characters heard on the line are (R38 to R40). -/
def commandHeard (own : Addr) (chars : List Byte) (framing : Bool) : Instr :=
  if framing then .discardedFrame chars true
  else match readFrame chars with
    | some f => f.command own
    | none => .discardedFrame chars false

/-! ### The characters of a frame sent (R37, Tables 2-3 and 2-4) -/

/-- The bytes of a grant entry. -/
def grantBytes (g : Load) : List Byte := [BitVec.ofNat 8 g.cls, BitVec.ofNat 8 g.amps]

/-- The bytes of a quantity item: tag and value, least significant byte first. -/
def itemBytes (q : OwnTag × Int) : List Byte := BitVec.ofNat 8 q.1.code :: valueBytes q.2

/-- The payload of a frame to send (Table 2-3). -/
def FrameBody.payload : FrameBody → List Byte
  | .status none => [0]
  | .status (some p) => BitVec.ofNat 8 p.grants.length :: (p.grants.flatMap grantBytes ++ p.items.flatMap itemBytes)
  | .claim tag cls amps => [tag, BitVec.ofNat 8 cls, BitVec.ofNat 8 amps]
  | .release tag => [tag]
  | .request kind cond seq args => kind :: cond :: seq :: args
  | .answer kind seq result bytes _ => kind :: seq :: result :: bytes
  | .notice code cls => [code, cls]

/-- The kind code of a frame to send (Table 2-3). -/
def FrameBody.kind : FrameBody → BitVec 3
  | .status _ => 1
  | .claim _ _ _ => 2
  | .release _ => 3
  | .request _ _ _ _ => 4
  | .answer _ _ _ _ _ => 5
  | .notice _ _ => 6

/-- A frame of the transmit queue as a station of a given address sends it (R37). -/
def TxFrame.frame (own : Addr) (f : TxFrame) : Frame :=
  { cls := BitVec.ofNat 3 f.cls, kind := f.body.kind, source := own, target := f.target, payload := f.body.payload }

/-- The characters of the frame in transmission, as the line carries them (R36, R37). -/
def State.charsOnLine (s : State) : Option (List Byte) :=
  s.line.sendingFrame.map fun f => (f.frame s.image.ownAddress).chars

end Sys2Proof.Machine
end

