-- ==== Sys2Proof/Machine/Framer.lean ====
section
/-! DEFINITION. The receive framer: the levels of the cabinet line, sampled bit by bit, as characters and frames (R31, R32, R38), and the edges and the idle gap of the line (R32, R53, R55). -/

namespace Sys2Proof.Machine

/-! ### Discards found before the end of a frame (R32, R38) -/

/-- The grant entries that have arrived hold a class byte above 7. -/
def badClassSoFar (n : Nat) (entries : List Byte) : Bool :=
  (List.range n).any fun i => !classByte (entries.getD (2 * i) 0)

/-- The payload characters that have arrived, of `len` in all, show that the payload does not fit its kind (R38). -/
def payloadMisfits (kind : BitVec 3) (len : Nat) (p : List Byte) : Bool :=
  match kind.toNat, p with
  | 1, n :: rest => decide (5 < n.toNat) || decide (len < 1 + 2 * n.toNat) || badClassSoFar n.toNat rest
  | 2, p => !classByte (p.getD 1 0)
  | _, _ => false

/-- The characters taken so far show a condition on which the frame is discarded (R38). -/
def discardsSoFar (chars : List Byte) : Bool :=
  match chars with
  | [c1] => kindOf c1 == 0 || kindOf c1 == 7
  | [_, c2] => sourceOf c2 == 0 || sourceOf c2 == 15
  | [c1, _, len] => !lengthFits (kindOf c1) len.toNat
  | c1 :: _ :: len :: p => payloadMisfits (kindOf c1) len.toNat (p.take len.toNat)
  | [] => false

/-- The frame has reached its expected length of 4 + length characters (R38). -/
def expectedLength (chars : List Byte) : Bool :=
  match chars with
  | _ :: _ :: len :: rest => decide (len.toNat + 1 ≤ rest.length)
  | _ => false

/-! ### The framer (R32) -/

/-- After a character: the frame is discarded, or whole, or goes on with its next character (R32, R38). -/
def Framer.after (chars : List Byte) : Framer :=
  if discardsSoFar chars then .gap else if expectedLength chars then .whole chars else .next chars

/-- A falling edge: it begins a frame on an idle line, or the next character of the frame in progress; within a character it is data, and otherwise it begins nothing (R32). -/
def Framer.fall (now : Nat) (f : Framer) : Framer :=
  match f with
  | .start => .character [] now []
  | .next chars => .character chars now []
  | f => f

/-- The value of eight data bits, least significant first, a recessive bit being 1 (R31). -/
def charOf (levels : List Bool) : Byte := BitVec.ofNat 8 (levels.foldr (fun b acc => 2 * acc + b.toNat) 0)

/-- The level at the middle of the next bit: eight data bits and a stop bit, of which a dominant one is a framing error (R31, R32). -/
def Framer.sample (recessive : Bool) (f : Framer) : Framer :=
  match f with
  | .character chars edge levels =>
    if levels.length < 8 then .character chars edge (levels ++ [recessive])
    else if recessive then .after (chars ++ [charOf levels])
    else .gap
  | f => f

/-- The middle of bit `k` of a character, the start bit being bit 0, after its falling edge: bit times of 1/9600 s in whole microseconds (R31, R32). -/
def bitMiddle (k : Nat) : Nat := (2 * k + 1) * 625 / 12

/-- The moment of the next sample (R32). DESIGN CHOICE (notes/assumptions/51): the start bit is not sampled again after its edge. -/
def Framer.sampleAt (f : Framer) : Timer :=
  match f with
  | .character _ edge levels => some (edge + bitMiddle (levels.length + 1))
  | _ => none

/-! ### The framer on the line -/

/-- A frame taken whole waits to be carried out, unless the part has sent it itself (R32, R34). -/
def Line.takeWhole (l : Line) : Line :=
  match l.framer with
  | .whole chars => { l with framer := .gap, heard := if l.sendingFrame.isSome then l.heard else l.heard ++ [chars] }
  | _ => l

/-- The framer samples the line (R32). -/
def State.lineSample (s : State) : State :=
  { s with line := { s.line with framer := s.line.framer.sample (!s.pins.line) }.takeWhole }

/-- The framer's next sample is due. -/
def State.sampleDue (s : State) : Bool :=
  match s.line.framer.sampleAt with
  | some moment => decide (moment ≤ s.now)
  | none => false

/-- Up to `n` samples that are due. -/
def State.samplesUpTo : Nat → State → State
  | 0, s => s
  | n + 1, s => if s.sampleDue then State.samplesUpTo n s.lineSample else s

/-- The samples of the character in hand that are due, nine at most, at the level the line has had since its last change. -/
def State.lineSamples (s : State) : State := State.samplesUpTo 9 s

/-! ### The edges of the line and the idle gap (R32, R53) -/

/-- The line has fallen: the framer hears the edge, the stuck-line timer starts, and the line is not idle (R32, R53). -/
def State.lineFalls (s : State) : State :=
  { s with
    line := { s.line with
      stuckShort := s.timer Config.stuckShort, stuckLong := s.timer Config.stuckLong
      recessive := none, idle := false, goodTimer := none, framer := s.line.framer.fall s.now } }

/-- The line has gone recessive: the stuck-line timer stops (R53), and the recessive times count (R32, R55). -/
def State.lineRises (s : State) : State :=
  { s with line := { s.line with stuckShort := none, stuckLong := none } }.recessiveFromNow

/-- Recessive for 12 bit times: a frame still short of its expected length is closed, the line is idle and the driver enabled (R32, R53). -/
def State.lineIdle (s : State) : State :=
  let s1 := s.lineSamples
  { s1 with line := { s1.line with recessive := none, idle := true, mode := .normal, driver := true, framer := .start } }

end Sys2Proof.Machine
end

