-- ==== Sys2Proof/Machine/ExecLine.lean ====
section
/-! DEFINITION. The meanings of the line commands: sending, received frames, the stuck line, island operation and the station view (Chapter 2). -/

namespace Sys2Proof.Machine

/-- The line is idle, or becomes idle when its recessive time ends (R32). -/
def State.idleOrNear (s : State) : Bool := s.line.idle || s.line.recessive.isSome

/-- The line has become idle, and the clock stands at that moment or later. -/
def State.atIdle (s : State) : State := if s.line.idle then s else onExpiry s.line.recessive State.lineIdle s

/-- TRANSMISSION_START (R33, R44). -/
def execTransmissionStart (s : State) : Host.Outcome State Fault Refusal :=
  (if s.listening && s.idleOrNear then
     let t := s.atIdle
     if t.maySend then t.startSending else t
   else s).done

/-- LOST_ARBITRATION (R34). -/
def execLostArbitration (s : State) : Host.Outcome State Fault Refusal := s.loseArbitration.done

/-- BIT_ERROR: the recessive time counts anew once the part has stopped driving (R35). -/
def execBitError (s : State) : Host.Outcome State Fault Refusal :=
  (if s.line.sendingFrame.isSome then s.bitError.lineActivity else s).done

/-- FRAME_SENT (R35); the clock stands at the frame's end or later. -/
def execFrameSent (s : State) : Host.Outcome State Fault Refusal := (onExpiry s.line.txEnd State.frameSent s).done

/-- STATUS_FRAME_RECEIVED (R47). -/
def execStatusFrameReceived (src : Addr) (grants : List GrantItem) (items : List QuantityItem) (s : State) :
    Host.Outcome State Fault Refusal :=
  (s.receive src fun t => t.takeStatus src grants items).done

/-- CLAIM_FRAME_RECEIVED (R49). -/
def execClaimFrameReceived (src : Addr) (tag : Byte) (cls : BitVec 3) (amps : Byte) (s : State) :
    Host.Outcome State Fault Refusal :=
  (s.receive src fun t => t.takeClaim src tag cls amps).done

/-- RELEASE_FRAME_RECEIVED (R49). -/
def execReleaseFrameReceived (src : Addr) (tag : Byte) (s : State) : Host.Outcome State Fault Refusal :=
  (s.receive src fun t => t.removePending src tag).done

/-- NOTICE_FRAME_RECEIVED (R50). -/
def execNoticeFrameReceived (src : Addr) (code cls : Byte) (s : State) : Host.Outcome State Fault Refusal :=
  (s.receive src fun t => t.takeNotice src code cls).done

/-- ANSWER_FRAME_RECEIVED (R103). -/
def execAnswerFrameReceived (src : Addr) (kind seq result : Byte) (s : State) : Host.Outcome State Fault Refusal :=
  (s.receive src fun t => t.takeAnswer src kind seq result).done

/-- UNCONSUMED_FRAME: the sender's record is refreshed, and nothing more (R40). -/
def execUnconsumedFrame (src : Addr) (s : State) : Host.Outcome State Fault Refusal := (s.receive src fun t => t).done

/-- DISCARDED_FRAME: no trace but the activity of the line (R32, R38). -/
def execDiscardedFrame (_chars : List Byte) (_framing : Bool) (s : State) : Host.Outcome State Fault Refusal :=
  (if s.listening then s.frameTaken else s).done

/-- FOREIGN_FRAME_OWN_ADDRESS raises ADDRESS_CLASH (R39). -/
def execForeignFrameOwnAddress (s : State) : Host.Outcome State Fault Refusal :=
  (if s.listening then s.frameTaken.raiseB .addressClash else s).done

/-- STATUS_PERIOD_EXPIRY (R43). -/
def execStatusPeriodExpiry (s : State) : Host.Outcome State Fault Refusal :=
  (onExpiry s.line.period (fun t => { t with line := { t.line with period := none } }.offerStatus) s).done

/-- STUCK_TIMER_2MS (R53). -/
def execStuckTimer2ms (s : State) : Host.Outcome State Fault Refusal :=
  (onExpiry s.line.stuckShort State.holdOff s).done

/-- The stuck-line timer reaches 1 s: the 2 ms have passed too; in STUCK there is nothing more to enter (R53). -/
def State.reachOneSecond (s : State) : State :=
  let s1 := if s.line.stuckShort.isSome then s.holdOff else s
  if s1.line.mode = .stuck then { s1 with line := { s1.line with stuckLong := none } } else s1.enterStuck

/-- STUCK_TIMER_1S (R53). -/
def execStuckTimer1s (s : State) : Host.Outcome State Fault Refusal :=
  (onExpiry s.line.stuckLong State.reachOneSecond s).done

/-- LINE_RECESSIVE_12_BITS (R32, R53). -/
def execLineRecessive12Bits (s : State) : Host.Outcome State Fault Refusal :=
  (onExpiry s.line.recessive State.lineIdle s).done

/-- LINE_GOOD_TIMER (R55). -/
def execLineGoodTimer (s : State) : Host.Outcome State Fault Refusal :=
  (onExpiry s.line.goodTimer (fun t => { t with line := { t.line with goodTimer := none, lineGood := true } }) s).done

/-- ALONE_TIMER_EXPIRY (R54). -/
def execAloneTimerExpiry (s : State) : Host.Outcome State Fault Refusal :=
  (onExpiry s.line.alone (fun t => { t with line := { t.line with alone := none } }.enterIsland) s).done

/-- RETURN_LISTEN_EXPIRY (R55, R62). -/
def execReturnListenExpiry (s : State) : Host.Outcome State Fault Refusal :=
  (onExpiry s.line.returnListen (fun t => { t with line := { t.line with returnListen := none } }) s).done

/-- The moment a FRESH record becomes STALE (R46). -/
def State.staleAt (s : State) (a : Addr) : Timer :=
  match s.record a with
  | some r => if r.freshness = .fresh then some (r.heard + Config.staleAge) else none
  | none => none

/-- The moment a live record becomes LOST (R46). -/
def State.lostAt (s : State) (a : Addr) : Timer :=
  match s.record a with
  | some r => if r.live then some (r.heard + Config.lostAge) else none
  | none => none

/-- AGE_STALE (R46). -/
def execAgeStale (station : Addr) (s : State) : Host.Outcome State Fault Refusal :=
  (onExpiry (s.staleAt station) (fun t => t.becomeStale station) s).done

/-- AGE_LOST (R46). -/
def execAgeLost (station : Addr) (s : State) : Host.Outcome State Fault Refusal :=
  (onExpiry (s.lostAt station) (fun t => t.becomeLost station) s).done

/-- The expiry of a pending claim (R49). -/
def State.pendingAt (s : State) (a : Addr) (tag : Byte) : Timer :=
  match s.record a with
  | some r => (r.claims.find? fun p => p.tag == tag).map PendingClaim.expires
  | none => none

/-- PENDING_CLAIM_EXPIRY (R49). -/
def execPendingClaimExpiry (station : Addr) (tag : Byte) (s : State) : Host.Outcome State Fault Refusal :=
  (onExpiry (s.pendingAt station tag) (fun t => t.removePending station tag) s).done

/-- The line takes a level. -/
def State.setLine (s : State) (dominant : Bool) : State := { s with pins := { s.pins with line := dominant } }

/-- LINE_LEVEL_CHANGE; a level already held is no change. The framer takes the samples that were due at the old level first (R32, R53). -/
def execLineLevelChange (dominant : Bool) (s : State) : Host.Outcome State Fault Refusal :=
  (if s.pins.line = dominant then s
   else if !s.listening then s.setLine dominant
   else
     let t := s.lineSamples.setLine dominant
     if dominant then t.lineFalls else t.lineRises).done

end Sys2Proof.Machine
end

