-- ==== Sys2Proof/Machine/ExecRequests.lean ====
section
/-! DEFINITION. The meanings of the REQUEST commands (Chapter 10). Each goes through the checks of R181 to its block. -/

namespace Sys2Proof.Machine

/-- REQUEST_UNKNOWN_KIND: BAD_KIND, after NOT_READY (R181); the kind is one outside codes 1 to 16. -/
def execRequestUnknownKind (kind : Byte) (req : Request) (s : State) : Host.Outcome State Fault Refusal :=
  (s.request kind.toNat req fun t => (t, .plain resBadKind)).done

/-- DISPENSE_WATER (R126). -/
def execDispenseWater (req : Request) (s : State) : Host.Outcome State Fault Refusal :=
  (s.request kindDispenseWater req (State.actDispenseWater req)).done

/-- DISPENSE_STOP (R129). -/
def execDispenseStop (req : Request) (s : State) : Host.Outcome State Fault Refusal :=
  (s.request kindDispenseStop req State.actDispenseStop).done

/-- DISPENSE_ICE (R157). -/
def execDispenseIce (req : Request) (s : State) : Host.Outcome State Fault Refusal :=
  (s.request kindDispenseIce req State.actDispenseIce).done

/-- ICE_STOP (R158). -/
def execIceStop (req : Request) (s : State) : Host.Outcome State Fault Refusal :=
  (s.request kindIceStop req State.actIceStop).done

/-- DEFROST_NOW (R187). -/
def execDefrostNow (req : Request) (s : State) : Host.Outcome State Fault Refusal :=
  (s.request kindDefrostNow req State.actDefrostNow).done

/-- DEFROST_INHIBIT (R102). -/
def execDefrostInhibit (req : Request) (s : State) : Host.Outcome State Fault Refusal :=
  (s.request kindDefrostInhibit req (State.actDefrostInhibit req)).done

/-- MOLD_ENABLE (R155). -/
def execMoldEnable (req : Request) (s : State) : Host.Outcome State Fault Refusal :=
  (s.request kindMoldEnable req (State.actMoldEnable req)).done

/-- SET_MODE (R188). -/
def execSetMode (req : Request) (s : State) : Host.Outcome State Fault Refusal :=
  (s.request kindSetMode req (State.actSetMode req)).done

/-- CLEAR_FAULT (R178). -/
def execClearFault (req : Request) (s : State) : Host.Outcome State Fault Refusal :=
  (s.request kindClearFault req (State.actClearFault req)).done

/-- CLEAR_WATCH (R20). -/
def execClearWatch (req : Request) (s : State) : Host.Outcome State Fault Refusal :=
  (s.request kindClearWatch req (State.actClearWatch req)).done

/-- FORCE_WATCH (R24). -/
def execForceWatch (req : Request) (s : State) : Host.Outcome State Fault Refusal :=
  (s.request kindForceWatch req (State.actForceWatch req)).done

/-- READ_QUANTITY (R186). -/
def execReadQuantity (req : Request) (s : State) : Host.Outcome State Fault Refusal :=
  (s.request kindReadQuantity req (State.actReadQuantity req)).done

/-- PUBLISH_NOW (R187). -/
def execPublishNow (req : Request) (s : State) : Host.Outcome State Fault Refusal :=
  (s.request kindPublishNow req State.actPublishNow).done

/-- FORGET_STATION (R51). -/
def execForgetStation (req : Request) (s : State) : Host.Outcome State Fault Refusal :=
  (s.request kindForgetStation req (State.actForgetStation req)).done

/-- TEST_OUTPUT (R164). -/
def execTestOutput (req : Request) (s : State) : Host.Outcome State Fault Refusal :=
  (s.request kindTestOutput req (State.actTestOutput req)).done

/-- RESTART (R187). -/
def execRestart (req : Request) (s : State) : Host.Outcome State Fault Refusal := (s.requestRestart req).done

end Sys2Proof.Machine
end

