-- ==== Sys2Proof/Machine/ExecShare.lean ====
section
/-! DEFINITION. The meanings of the share unit's commands (R62 to R79). -/

namespace Sys2Proof.Machine

/-- The retry time of an operation's claim entry (R62). -/
def State.retryTime (s : State) (op : LoadOp) : Timer := (s.entryOf op).bind ClaimEntry.retryAt

/-- A retry time has passed: the entry is eligible (R62). -/
def State.retryPassed (s : State) (op : LoadOp) : State :=
  { s with
    share := { s.share with queue := s.share.queue.map fun e => if e.op = op then { e with retryAt := none } else e } }

/-- CLAIM_RETRY_TIME: the next claim may be offered (R62). -/
def execClaimRetryTime (op : LoadOp) (s : State) : Host.Outcome State Fault Refusal :=
  (onExpiry (s.retryTime op) (fun t => t.retryPassed op) s).done

/-- The end of the claim window (R64). -/
def State.windowEnd (s : State) : Timer :=
  match s.share.flight with
  | some c =>
    match c.phase with
    | .opened _ window => some window
    | .offered => none
  | none => none

/-- CLAIM_WINDOW_EXPIRY (R66). -/
def execClaimWindowExpiry (s : State) : Host.Outcome State Fault Refusal :=
  (onExpiry s.windowEnd State.decideClaim s).done

/-- SHED_DELAY_EXPIRY (R71). -/
def execShedDelayExpiry (s : State) : Host.Outcome State Fault Refusal :=
  (onExpiry s.share.shedDelay (fun t => { t with share := { t.share with shedDelay := none } }.shedWalk) s).done

/-- RECLAIM_TIMER_EXPIRY (R77). -/
def execReclaimTimerExpiry (s : State) : Host.Outcome State Fault Refusal :=
  (onExpiry s.share.reclaim (fun t => { t with share := { t.share with reclaim := none } }.reclaimHead) s).done

/-- The abandon time of an operation's suspension record (R76). -/
def State.abandonAt (s : State) (op : LoadOp) : Timer := (s.suspensionOf op).map Suspension.abandon

/-- ABANDON_TIMER_EXPIRY (R79). -/
def execAbandonTimerExpiry (op : LoadOp) (s : State) : Host.Outcome State Fault Refusal :=
  (onExpiry (s.abandonAt op) (fun t => t.abandon op) s).done

end Sys2Proof.Machine
end

