-- ==== Sys2Proof/Machine/ExecStart.lean ====
section
/-! DEFINITION. The meanings of the start-up commands (R187, R191 to R194). -/

namespace Sys2Proof.Machine

/-- SUPPLY_FALL (R191). -/
def execSupplyFall (retentionLost : Bool) (s : State) : Host.Outcome State Fault Refusal :=
  (s.supplyFalls retentionLost).done

/-- SUPPLY_GOOD: heard in POWER_UP alone (R191). -/
def execSupplyGood (straps : Straps) (sdaLowPulses : Nat) (s : State) : Host.Outcome State Fault Refusal :=
  (if s.start.state = .powerUp then (s.setStraps straps sdaLowPulses).supplyGood else s).done

/-- IMAGE_READ: the read in progress goes on, or ends (R193, R194). -/
def execImageRead (read : ImageRead) (s : State) : Host.Outcome State Fault Refusal :=
  (if s.reading then s.goOnReading read else s).done

/-- CLOCK_HELD_LOW_TIMEOUT: the read in progress fails (R193). -/
def execClockHeldLowTimeout (s : State) : Host.Outcome State Fault Refusal :=
  (if s.reading then s.readFails else s).done

/-- LISTEN_TIMER_EXPIRY: the entry to RUN (R192). -/
def execListenTimerExpiry (s : State) : Host.Outcome State Fault Refusal :=
  (onExpiry s.start.listenTimer State.enterRun s).done

/-- RESTART_RESET: taken when the fate of the RESTART's ANSWER is known (R187). -/
def execRestartReset (straps : Straps) (sdaLowPulses : Nat) (s : State) : Host.Outcome State Fault Refusal :=
  (if s.start.restart = .due ∧ s.start.state = .run then (s.setStraps straps sdaLowPulses).restartReset else s).done

end Sys2Proof.Machine
end

