-- ==== Sys2Proof/Machine/ExecWater.lean ====
section
/-! DEFINITION. The meanings of the meter's and the water path's commands (Chapter 6). -/

namespace Sys2Proof.Machine

/-- The closed volume has reached 20 mL: it returns to 0, and RUNAWAY is raised (R137). -/
def State.runawayTest (s : State) : State :=
  if Config.runawayVolume ≤ s.water.closedVolume then
    { s with water := { s.water with closedVolume := 0 } }.raiseA .runaway
  else s

/-- A meter pulse in RUN (R131, R133, R137). -/
def State.pulse (s : State) : State :=
  let s1 := if s.water.estimated then s.toCounted else s
  if s1.anyValveOpen then s1.ratePulse.meteringStep s1.image.meterK
  else if s1.water.armed then s1.closedPulse.runawayTest
  else s1

/-- METER_PULSE; before RUN no pulse is counted (R119, R131). -/
def execMeterPulse (s : State) : Host.Outcome State Fault Refusal := (if s.running then s.pulse else s).done

/-- FILL_LIMIT_EXPIRY (R122). -/
def execFillLimitExpiry (s : State) : Host.Outcome State Fault Refusal :=
  (onExpiry s.water.fillLimit State.endFill s).done

/-- DISPENSE_LIMIT_EXPIRY (R129). -/
def execDispenseLimitExpiry (s : State) : Host.Outcome State Fault Refusal :=
  (onExpiry s.water.dispenseLimit State.stopDispense s).done

/-- The settling time has run: IDLE and the start test (R130). -/
def State.settlingEnds (s : State) : State :=
  ({ s with water := { s.water with settling := none } }.setPath .idle).startTest

/-- SETTLING_TIMER_EXPIRY (R130). -/
def execSettlingTimerExpiry (s : State) : Host.Outcome State Fault Refusal :=
  (onExpiry s.water.settling State.settlingEnds s).done

/-- The meter has been silent: FLOW_SILENT and ESTIMATED (R133). -/
def State.meterSilent (s : State) : State :=
  let s1 := { s with water := { s.water with silence := none } }.raiseB .flowSilent
  { s1 with
    water := { s1.water with
      estimated := true, estimate := if s1.meteredValve.isSome then s1.timer Config.estimateTime else none } }

/-- SILENCE_TIMER_EXPIRY (R133). -/
def execSilenceTimerExpiry (s : State) : Host.Outcome State Fault Refusal :=
  (onExpiry s.water.silence State.meterSilent s).done

/-- One estimated metering step of R (R133, R134). -/
def State.estimatedStep (s : State) : State :=
  { s with water := { s.water with estimate := s.timer Config.estimateTime } }.meteringStep s.water.rate

/-- ESTIMATE_TIMER_EXPIRY (R133). -/
def execEstimateTimerExpiry (s : State) : Host.Outcome State Fault Refusal :=
  (onExpiry s.water.estimate State.estimatedStep s).done

/-- T_fr: FRIDGE_AIR_TEMP clamped to 0 to 150, or 40 while invalid (R136). -/
def State.fridgeTemp (s : State) : Int :=
  match s.door tagFridgeAirTemp with
  | some v => clampInt 0 150 v
  | none => 40

/-- T_res after a relaxation step towards T_fr (R136). -/
def relaxed (tRes tFr : Int) : Int :=
  let d := truncDiv (tFr - tRes) 32
  if d ≠ 0 then tRes + d
  else if tRes < tFr then tRes + 1
  else if tFr < tRes then tRes - 1
  else tRes

/-- A relaxation step (R136). -/
def State.relax (s : State) : State :=
  { s with water := { s.water with relaxation := s.timer Config.minute } }.setTRes (relaxed s.water.tRes s.fridgeTemp)

/-- RELAXATION_EXPIRY (R136). -/
def execRelaxationExpiry (s : State) : Host.Outcome State Fault Refusal :=
  (onExpiry s.water.relaxation State.relax s).done

/-- ALL_CLOSED_EXPIRY: the closed watch is armed (R137). -/
def execAllClosedExpiry (s : State) : Host.Outcome State Fault Refusal :=
  (onExpiry s.water.allClosed
    (fun t => { t with water := { t.water with allClosed := none, closedVolume := 0, armed := true } }) s).done

/-- RUNAWAY_HOLD_EXPIRY (R137). -/
def execRunawayHoldExpiry (s : State) : Host.Outcome State Fault Refusal :=
  (onExpiry s.water.runawayHold (fun t => { t with water := { t.water with runawayHold := none } }) s).done

end Sys2Proof.Machine
end

