-- ==== Sys2Proof/Machine/Dispatch.lean ====
section
/-! DEFINITION. The dispatch: one arm per command, one meaning per arm. -/

namespace Sys2Proof.Machine

/-- The effect of a command on everything but the queue of waiting commands. -/
def exec (i : Instr) (s : State) : Host.Outcome State Fault Refusal :=
  match i with
  | .supplyFall retentionLost => Sys2Proof.Machine.execSupplyFall retentionLost s
  | .supplyGood straps sdaLowPulses => Sys2Proof.Machine.execSupplyGood straps sdaLowPulses s
  | .imageRead read => Sys2Proof.Machine.execImageRead read s
  | .clockHeldLowTimeout => Sys2Proof.Machine.execClockHeldLowTimeout s
  | .listenTimerExpiry => Sys2Proof.Machine.execListenTimerExpiry s
  | .restartReset straps sdaLowPulses => Sys2Proof.Machine.execRestartReset straps sdaLowPulses s
  | .transmissionStart => Sys2Proof.Machine.execTransmissionStart s
  | .lostArbitration => Sys2Proof.Machine.execLostArbitration s
  | .bitError => Sys2Proof.Machine.execBitError s
  | .frameSent => Sys2Proof.Machine.execFrameSent s
  | .statusFrameReceived src grants items => Sys2Proof.Machine.execStatusFrameReceived src grants items s
  | .claimFrameReceived src tag cls amps => Sys2Proof.Machine.execClaimFrameReceived src tag cls amps s
  | .releaseFrameReceived src tag => Sys2Proof.Machine.execReleaseFrameReceived src tag s
  | .noticeFrameReceived src code cls => Sys2Proof.Machine.execNoticeFrameReceived src code cls s
  | .answerFrameReceived src kind seq result => Sys2Proof.Machine.execAnswerFrameReceived src kind seq result s
  | .unconsumedFrame src => Sys2Proof.Machine.execUnconsumedFrame src s
  | .discardedFrame chars framing => Sys2Proof.Machine.execDiscardedFrame chars framing s
  | .foreignFrameOwnAddress => Sys2Proof.Machine.execForeignFrameOwnAddress s
  | .statusPeriodExpiry => Sys2Proof.Machine.execStatusPeriodExpiry s
  | .stuckTimer2ms => Sys2Proof.Machine.execStuckTimer2ms s
  | .stuckTimer1s => Sys2Proof.Machine.execStuckTimer1s s
  | .lineRecessive12Bits => Sys2Proof.Machine.execLineRecessive12Bits s
  | .lineGoodTimer => Sys2Proof.Machine.execLineGoodTimer s
  | .aloneTimerExpiry => Sys2Proof.Machine.execAloneTimerExpiry s
  | .returnListenExpiry => Sys2Proof.Machine.execReturnListenExpiry s
  | .ageStale station => Sys2Proof.Machine.execAgeStale station s
  | .ageLost station => Sys2Proof.Machine.execAgeLost station s
  | .pendingClaimExpiry station tag => Sys2Proof.Machine.execPendingClaimExpiry station tag s
  | .claimRetryTime op => Sys2Proof.Machine.execClaimRetryTime op s
  | .claimWindowExpiry => Sys2Proof.Machine.execClaimWindowExpiry s
  | .shedDelayExpiry => Sys2Proof.Machine.execShedDelayExpiry s
  | .reclaimTimerExpiry => Sys2Proof.Machine.execReclaimTimerExpiry s
  | .abandonTimerExpiry op => Sys2Proof.Machine.execAbandonTimerExpiry op s
  | .frostSecondExpiry => Sys2Proof.Machine.execFrostSecondExpiry s
  | .hourTimerExpiry => Sys2Proof.Machine.execHourTimerExpiry s
  | .retryTimerExpiry => Sys2Proof.Machine.execRetryTimerExpiry s
  | .answerTimerExpiry => Sys2Proof.Machine.execAnswerTimerExpiry s
  | .speedTimerExpiry => Sys2Proof.Machine.execSpeedTimerExpiry s
  | .repeatTimerExpiry => Sys2Proof.Machine.execRepeatTimerExpiry s
  | .holdRetryExpiry => Sys2Proof.Machine.execHoldRetryExpiry s
  | .inhibitTimerExpiry => Sys2Proof.Machine.execInhibitTimerExpiry s
  | .dwellTimerExpiry => Sys2Proof.Machine.execDwellTimerExpiry s
  | .heatingSecondExpiry => Sys2Proof.Machine.execHeatingSecondExpiry s
  | .dripTimerExpiry => Sys2Proof.Machine.execDripTimerExpiry s
  | .fanTimerExpiry => Sys2Proof.Machine.execFanTimerExpiry s
  | .watchDelayExpiry point => Sys2Proof.Machine.execWatchDelayExpiry point s
  | .sample channel raw => Sys2Proof.Machine.execSample channel raw s
  | .channelHoldExpiry channel => Sys2Proof.Machine.execChannelHoldExpiry channel s
  | .binInputChange up => Sys2Proof.Machine.execBinInputChange up s
  | .binTimerExpiry => Sys2Proof.Machine.execBinTimerExpiry s
  | .homeSwitchChange mold closed => Sys2Proof.Machine.execHomeSwitchChange mold closed s
  | .homeTimerExpiry mold => Sys2Proof.Machine.execHomeTimerExpiry mold s
  | .leakInputChange wet => Sys2Proof.Machine.execLeakInputChange wet s
  | .leakTimerExpiry => Sys2Proof.Machine.execLeakTimerExpiry s
  | .cutoutInputChange contactsOpen => Sys2Proof.Machine.execCutoutInputChange contactsOpen s
  | .cutoutTimerExpiry => Sys2Proof.Machine.execCutoutTimerExpiry s
  | .paddleLineChange low => Sys2Proof.Machine.execPaddleLineChange low s
  | .paddleTimerExpiry => Sys2Proof.Machine.execPaddleTimerExpiry s
  | .meterPulse => Sys2Proof.Machine.execMeterPulse s
  | .fillLimitExpiry => Sys2Proof.Machine.execFillLimitExpiry s
  | .dispenseLimitExpiry => Sys2Proof.Machine.execDispenseLimitExpiry s
  | .settlingTimerExpiry => Sys2Proof.Machine.execSettlingTimerExpiry s
  | .silenceTimerExpiry => Sys2Proof.Machine.execSilenceTimerExpiry s
  | .estimateTimerExpiry => Sys2Proof.Machine.execEstimateTimerExpiry s
  | .relaxationExpiry => Sys2Proof.Machine.execRelaxationExpiry s
  | .allClosedExpiry => Sys2Proof.Machine.execAllClosedExpiry s
  | .runawayHoldExpiry => Sys2Proof.Machine.execRunawayHoldExpiry s
  | .fillRetryExpiry mold => Sys2Proof.Machine.execFillRetryExpiry mold s
  | .leastFreezeExpiry mold => Sys2Proof.Machine.execLeastFreezeExpiry mold s
  | .timedFreezeExpiry mold => Sys2Proof.Machine.execTimedFreezeExpiry mold s
  | .heaterSecondExpiry mold => Sys2Proof.Machine.execHeaterSecondExpiry mold s
  | .ejectTimerExpiry mold => Sys2Proof.Machine.execEjectTimerExpiry mold s
  | .stallWaitExpiry mold => Sys2Proof.Machine.execStallWaitExpiry mold s
  | .augerRunExpiry => Sys2Proof.Machine.execAugerRunExpiry s
  | .phaseTimerExpiry generator => Sys2Proof.Machine.execPhaseTimerExpiry generator s
  | .noticeRepeatExpiry => Sys2Proof.Machine.execNoticeRepeatExpiry s
  | .requestUnknownKind kind req => Sys2Proof.Machine.execRequestUnknownKind kind req s
  | .dispenseWater req => Sys2Proof.Machine.execDispenseWater req s
  | .dispenseStop req => Sys2Proof.Machine.execDispenseStop req s
  | .dispenseIce req => Sys2Proof.Machine.execDispenseIce req s
  | .iceStop req => Sys2Proof.Machine.execIceStop req s
  | .defrostNow req => Sys2Proof.Machine.execDefrostNow req s
  | .defrostInhibit req => Sys2Proof.Machine.execDefrostInhibit req s
  | .moldEnable req => Sys2Proof.Machine.execMoldEnable req s
  | .setMode req => Sys2Proof.Machine.execSetMode req s
  | .clearFault req => Sys2Proof.Machine.execClearFault req s
  | .clearWatch req => Sys2Proof.Machine.execClearWatch req s
  | .forceWatch req => Sys2Proof.Machine.execForceWatch req s
  | .readQuantity req => Sys2Proof.Machine.execReadQuantity req s
  | .publishNow req => Sys2Proof.Machine.execPublishNow req s
  | .forgetStation req => Sys2Proof.Machine.execForgetStation req s
  | .testOutput req => Sys2Proof.Machine.execTestOutput req s
  | .restart req => Sys2Proof.Machine.execRestart req s
  | .lineLevelChange dominant => Sys2Proof.Machine.execLineLevelChange dominant s

end Sys2Proof.Machine
end

