-- ==== Sys2Proof/Machine/Step.lean ====
section
/-! DEFINITION. The step: the command at the front of the queue, or, when none waits, what time brings (notes/assumptions/1). -/

namespace Sys2Proof.Machine

/-! ### What is due -/

/-- A moment and the command that is its event. -/
abbrev Due := Timer × Instr

/-- The line sends by itself when it is idle and a frame waits (R33). -/
def State.sendDue (s : State) : Timer := if s.line.idle && s.maySend then some s.now else none

/-- The RESTART reset is due at once (R187). -/
def State.restartDue (s : State) : Timer := if s.start.restart = .due then some s.now else none

/-- A frame that the framer has taken whole is due at once (R32, R38). -/
def State.heardDue (s : State) : Timer := if s.listening && !s.line.heard.isEmpty then some s.now else none

/-- The command that the oldest frame taken whole is (R38 to R40). -/
def State.heardCommand (s : State) : Instr := commandHeard s.image.ownAddress (s.line.heard.headD []) false

/-- The events of the line and the start-up block. -/
def State.lineDues (s : State) : List Due :=
  [ (s.heardDue, s.heardCommand),
    (s.restartDue, .restartReset s.pins.straps s.pins.sdaLowPulses),
    (s.start.listenTimer, .listenTimerExpiry),
    (s.line.txEnd, .frameSent),
    (s.line.recessive, .lineRecessive12Bits),
    (s.sendDue, .transmissionStart),
    (s.line.period, .statusPeriodExpiry),
    (s.line.stuckShort, .stuckTimer2ms),
    (s.line.stuckLong, .stuckTimer1s),
    (s.line.goodTimer, .lineGoodTimer),
    (s.line.alone, .aloneTimerExpiry),
    (s.line.returnListen, .returnListenExpiry) ]

/-- Station addresses 1 to 14. -/
def stations : List Addr := [1, 2, 3, 4, 5, 6, 7, 8, 9, 10, 11, 12, 13, 14]

/-- The pending claims of a station's record. -/
def State.claimsOf (s : State) (a : Addr) : List PendingClaim :=
  match s.record a with
  | some r => r.claims
  | none => []

/-- The events of one station's record. -/
def State.stationDues (s : State) (a : Addr) : List Due :=
  [(s.staleAt a, .ageStale a), (s.lostAt a, .ageLost a)] ++
  (s.claimsOf a).map fun p => (some p.expires, .pendingClaimExpiry a p.tag)

/-- The events of the share unit. -/
def State.shareDues (s : State) : List Due :=
  [ (s.windowEnd, .claimWindowExpiry),
    (s.share.shedDelay, .shedDelayExpiry),
    (s.share.reclaim, .reclaimTimerExpiry) ] ++
  [LoadOp.dh, .mha, .mhb, .aug].map (fun op => (s.retryTime op, .claimRetryTime op)) ++
  [LoadOp.dh, .mha, .mhb, .aug].map (fun op => (s.abandonAt op, .abandonTimerExpiry op))

/-- The events of the frost accountant and the defrost controller. -/
def State.defrostDues (s : State) : List Due :=
  [ (s.frost.secondTimer, .frostSecondExpiry),
    (s.frost.hourTimer, .hourTimerExpiry),
    (s.frost.retryTimer, .retryTimerExpiry),
    (s.defrost.answer, .answerTimerExpiry),
    (s.defrost.speed, .speedTimerExpiry),
    (s.defrost.renew, .repeatTimerExpiry),
    (s.defrost.holdRetry, .holdRetryExpiry),
    (s.defrost.inhibit, .inhibitTimerExpiry),
    (s.defrost.dwell, .dwellTimerExpiry),
    (s.defrost.heatSecond, .heatingSecondExpiry),
    (s.defrost.drip, .dripTimerExpiry),
    (s.defrost.fan, .fanTimerExpiry) ]

/-- The events of one thermistor channel; a sample reads the pin. -/
def State.channelDues (s : State) (c : Channel) : List Due :=
  [ ((s.sensors.get c).sample, .sample c (s.pins.thermistor.get c)), ((s.sensors.get c).hold, .channelHoldExpiry c) ]

/-- The events of the watch unit and the inputs. -/
def State.inputDues (s : State) : List Due :=
  watchPoints.map (fun i => (s.watch[i].delay.deadline, .watchDelayExpiry i)) ++
  channels.flatMap s.channelDues ++
  [ (s.switches.bin.timer, .binTimerExpiry),
    (s.switches.home.a.timer, .homeTimerExpiry .a),
    (s.switches.home.b.timer, .homeTimerExpiry .b),
    (s.switches.leak.timer, .leakTimerExpiry),
    (s.switches.cutout.timer, .cutoutTimerExpiry),
    (s.switches.paddle.timer, .paddleTimerExpiry) ]

/-- The events of the water path. -/
def State.waterDues (s : State) : List Due :=
  [ (s.water.fillLimit, .fillLimitExpiry),
    (s.water.dispenseLimit, .dispenseLimitExpiry),
    (s.water.settling, .settlingTimerExpiry),
    (s.water.silence, .silenceTimerExpiry),
    (s.water.estimate, .estimateTimerExpiry),
    (s.water.relaxation, .relaxationExpiry),
    (s.water.allClosed, .allClosedExpiry),
    (s.water.runawayHold, .runawayHoldExpiry) ]

/-- The events of one mold. -/
def State.moldDues (s : State) (m : Mold) : List Due :=
  [ ((s.mold m).fillRetry, .fillRetryExpiry m),
    ((s.mold m).leastFreeze, .leastFreezeExpiry m),
    ((s.mold m).timedFreeze, .timedFreezeExpiry m),
    ((s.mold m).heatSecond, .heaterSecondExpiry m),
    ((s.mold m).eject, .ejectTimerExpiry m),
    ((s.mold m).stallWait, .stallWaitExpiry m) ]

/-- The four pattern generators. -/
def generators : List (Fin 4) := [0, 1, 2, 3]

/-- Every event that time may bring, in the order in which the model takes those of one moment. -/
def State.dues (s : State) : List Due :=
  s.lineDues ++ stations.flatMap s.stationDues ++ s.shareDues ++ s.defrostDues ++ s.inputDues ++ s.waterDues ++
  s.moldDues .a ++ s.moldDues .b ++
  [(s.ice.runTimer, .augerRunExpiry)] ++
  generators.map (fun n => (s.out.gens[n].timer, .phaseTimerExpiry n)) ++
  [(s.fault.noticeTimer, .noticeRepeatExpiry)]

/-- A moment has come. -/
def isDue (now : Nat) (d : Due) : Bool :=
  match d.1 with
  | some deadline => decide (deadline ≤ now)
  | none => false

/-- The first event that is due. -/
def State.dueCommand (s : State) : Option Instr := (s.dues.find? (isDue s.now)).map Prod.snd

/-- What a step does when no command waits: the consequences left over, or a sample of the line that is due (R32), or the first event that is due, or one tick of the clock. -/
def idle (s : State) : Host.Outcome State Fault Refusal :=
  if s.agenda.isEmpty then
    if s.sampleDue then .next s.lineSample
    else match s.dueCommand with
      | some c => exec c s
      | none => .next { s with now := s.now + Config.tick }
  else s.done

/-- One step: the command at the front of the queue is taken and carried out on the rest (first in, first out). -/
def step (s : State) : Host.Outcome State Fault Refusal :=
  match s.pending with
  | c :: rest => exec c { s with pending := rest }
  | [] => idle s

/-- The command a word spells, put at the front of the queue; no row of the table has bits, so no word spells one. -/
def State.withFetchWord (s : State) (nbits w : Nat) : State :=
  match Sys2Proof.decodeTableWord nbits w with
  | some c => { s with pending := c :: s.pending }
  | none => s

end Sys2Proof.Machine
end

