-- ==== Sys2Proof/Safety.lean ====
section
/-! DEFINITION. What every run keeps: the output interlocks and the SAFETY layer, the ranges of the frost quantities, and the legal own grant list. -/

namespace Sys2Proof.Machine

/-- EF and DH are never both on (R166). -/
def State.fanInterlock (s : State) : Bool := !(s.isOn .dh && s.isOn .ef)

/-- At most one valve is open (R167). -/
def State.valveInterlock (s : State) : Bool :=
  !(s.isOn .fva && s.isOn .fvb) && !(s.isOn .fva && s.isOn .dv) && !(s.isOn .fvb && s.isOn .dv)

/-- While a class A flag is set, the eight outputs of the SAFETY layer are off (R163, R172). -/
def State.forcedOff (s : State) : Bool := !s.classA || outputs.all fun o => !o.hasSafety || !s.isOn o

/-- The outputs are as the interlocks and the SAFETY layer allow. -/
def State.outputsSafe (s : State) : Prop :=
  s.fanInterlock = true ∧ s.valveInterlock = true ∧ s.forcedOff = true

/-- F, T and the hour count lie in their ranges, and so does the initial threshold of the image in force (R82, R88). -/
def State.frostInRange (s : State) : Prop :=
  s.frost.f ≤ 65535 ∧ Config.thresholdLow ≤ s.frost.t ∧ s.frost.t ≤ Config.thresholdHigh ∧ s.frost.hours ≤ 65535 ∧
    Config.thresholdLow ≤ s.image.initialThreshold ∧ s.image.initialThreshold ≤ Config.thresholdHigh

/-- The own total lies within the budget, and so does the baseline of the image in force (R56, R66). -/
def State.withinBudget (s : State) : Prop := s.ownTotal ≤ s.image.budget ∧ s.image.baseline ≤ s.image.budget

/-- The transmit queue holds at most six frames (section 2.3). -/
def State.queueBounded (s : State) : Prop := s.line.queue.length ≤ Config.queueCapacity

/-! ### The words in which the statements speak -/

/-- A command's own effect takes `s` to `t`; the consequences inside the event follow from `t`. -/
def Does (c : Instr) (s t : State) : Prop := exec c s = .next (State.settle Config.settleBound t)

/-- The clock at an expiry. -/
def State.atMoment (s : State) (deadline : Nat) : State := { s with now := max s.now deadline }

/-- The state in which the content of a frame from a peer is taken (R40). -/
def State.hears (s : State) (src : Addr) : State := ((s.frameTaken.countFrame).refresh src).islandExitTest

/-- A source address of a peer of a listening part. -/
def State.peerHeard (s : State) (src : Addr) : Prop :=
  s.listening = true ∧ src ≠ 0 ∧ src ≠ 15 ∧ src ≠ s.image.ownAddress

/-- A REQUEST addressed to the part, heard from a peer, that passes the seven checks (R181). -/
def State.passes (s : State) (kind : Nat) (req : Request) : Prop :=
  s.peerHeard req.src ∧ req.broadcast = false ∧ (s.hears req.src).firstFailure kind req = none

/-- A request that `c` is, taken at `s`: its act leads to `u`, and the ANSWER with a result code and result bytes is offered there (R181). -/
def Answers (c : Instr) (s : State) (kind : Nat) (req : Request) (u : State) (code : Nat) (bytes : List Byte) : Prop :=
  Does c s (u.answer kind req { code := code, bytes := bytes })

/-- The transmit queue takes a frame offered now into its place (R41). -/
def State.queueOpen (s : State) : Prop := s.line.mode ≠ .stuck ∧ s.line.full = false

/-- Nothing at all is held for an operation, and no class A flag is set: an ask creates a claim entry (R59). -/
def State.asksFreely (s : State) (op : LoadOp) : Prop := s.holdsFor op = false ∧ s.classA = false

/-- The state tag of a mold holds what its record says (R141). -/
def State.tagAgrees (s : State) (m : Mold) : Prop := s.own m.tag = (s.mold m).tagValue

/-- The mode, the class A flags and the start-up state let a fill open (R121). -/
def State.mayFill (s : State) : Prop := s.running = true ∧ s.mode ≠ .showroom ∧ s.classA = false

/-- A frame in transmission in its place in the queue (R33, R34). -/
def State.sends (s : State) (before : List TxFrame) (f : TxFrame) (after : List TxFrame) : Prop :=
  s.line.queue = before ++ f :: after ∧ f.sending = true ∧ ∀ g ∈ before ++ after, g.sending = false

/-- Only the jobs' operations: no grant but the baseline, nothing queued, nothing suspended, the claim in flight gone or cancelled (R80). -/
def State.released (s : State) : Prop :=
  (∀ g ∈ s.share.grants, g.op = none) ∧ s.share.queue = [] ∧ s.share.suspended = [] ∧
    ∀ c, s.share.flight = some c → c.cancelled = true

end Sys2Proof.Machine

namespace Sys2Proof

/-! ### Groups of commands -/

/-- The commands with which a start of the part proceeds (R191 to R194). -/
def Instr.isStart : Instr → Bool
  | .supplyFall _ | .supplyGood _ _ | .imageRead _ | .clockHeldLowTimeout | .restartReset _ _ => true
  | _ => false

/-- The commands that are frames heard from a peer (R40). -/
def Instr.isFrame : Instr → Bool
  | .statusFrameReceived _ _ _ | .claimFrameReceived _ _ _ _ | .releaseFrameReceived _ _ | .noticeFrameReceived _ _ _
  | .answerFrameReceived _ _ _ _ | .unconsumedFrame _ | .requestUnknownKind _ _ | .dispenseWater _ | .dispenseStop _
  | .dispenseIce _ | .iceStop _ | .defrostNow _ | .defrostInhibit _ | .moldEnable _ | .setMode _ | .clearFault _
  | .clearWatch _ | .forceWatch _ | .readQuantity _ | .publishNow _ | .forgetStation _ | .testOutput _ | .restart _ => true
  | _ => false

/-- The commands that are ageing of the station view (R46, R49). -/
def Instr.isAgeing : Instr → Bool
  | .ageStale _ | .ageLost _ | .pendingClaimExpiry _ _ => true
  | _ => false

/-- The commands of the switch inputs (R12 to R15, R124). -/
def Instr.isSwitch : Instr → Bool
  | .binInputChange _ | .binTimerExpiry | .homeSwitchChange _ _ | .homeTimerExpiry _ | .leakInputChange _ | .leakTimerExpiry
  | .cutoutInputChange _ | .cutoutTimerExpiry | .paddleLineChange _ | .paddleTimerExpiry => true
  | _ => false

/-- The kind of a request command, and its frame (Table 10-1). -/
def Instr.request : Instr → Option (Nat × Request)
  | .requestUnknownKind kind req => some (kind.toNat, req)
  | .dispenseWater req => some (1, req)
  | .dispenseStop req => some (2, req)
  | .dispenseIce req => some (3, req)
  | .iceStop req => some (4, req)
  | .defrostNow req => some (5, req)
  | .defrostInhibit req => some (6, req)
  | .moldEnable req => some (7, req)
  | .setMode req => some (8, req)
  | .clearFault req => some (9, req)
  | .clearWatch req => some (10, req)
  | .forceWatch req => some (11, req)
  | .readQuantity req => some (12, req)
  | .publishNow req => some (13, req)
  | .forgetStation req => some (14, req)
  | .testOutput req => some (15, req)
  | .restart req => some (16, req)
  | _ => none

/-- The commands of the thermistor channels (R7, R11). -/
def Instr.isSensor : Instr → Bool
  | .sample _ _ | .channelHoldExpiry _ => true
  | _ => false

end Sys2Proof
end

