-- ==== Sys2Proof/Certificates/Slice0/Obligations.lean ====
section
/-! DEFINITION. The statements about the model. A statement whose conclusion is `Does c s t` says that the command `c` at `s` answers a next state: `t` with the consequences inside the event carried out (notes/assumptions/2). Times are microseconds. -/

open Sys2Proof Sys2Proof.Machine

/-- O1. The model's reset state (DESIGN CHOICE, log entry 7: the part before its first start) is POWER_UP without a retention mark; no frame is taken, the line driver is off, no station is known, every output is off, and the retained state holds the power-on values of section 11.1: no fault flag, no detail record, mode NORMAL, T_res 40, both molds in service, LAST_EVENT 0xFF. -/
def Obligations.ResetIsPowerUpWithPowerOnValues : Prop :=
  State.reset.start.state = .powerUp ∧ State.reset.start.mark = false ∧ State.reset.listening = false ∧
  State.reset.line.driver = false ∧ State.reset.line.queue = [] ∧ (∀ a : Addr, State.reset.record a = none) ∧
  (∀ o : Output, State.reset.isOn o = false) ∧ State.reset.fault.aFlags = 0 ∧ State.reset.fault.bFlags = 0 ∧
  State.reset.fault.record = none ∧ State.reset.mode = .normal ∧ State.reset.water.tRes = 40 ∧
  (∀ m : Mold, (State.reset.mold m).state ≠ .outOfService) ∧ State.reset.own .lastEvent = 0xFF ∧ State.reset.pending = []

/-- O2. For every command and state, the step of the state with that command at the front of its queue is the command's meaning on the state with the queue's rest. -/
def Obligations.StepRunsTheFrontCommand : Prop :=
  ∀ (c : Instr) (rest : List Instr) (s : State), step { s with pending := c :: rest } = exec c { s with pending := rest }

/-- O3. With an empty queue (DESIGN CHOICE, log entries 1, 2 and 51) a step carries out the consequences still on the agenda, if there are any; otherwise, in this order, a sample of the line that is due (R32), a frame that the framer has taken whole in a listening part (as the command that its characters are), or the first event that is due, by its command's meaning; and when none is due it moves the clock by one microsecond and changes nothing else. -/
def Obligations.StepWithoutCommandsBringsTime : Prop :=
  ∀ s : State, s.pending = [] →
    (s.agenda ≠ [] → step s = .next (State.settle Config.settleBound s)) ∧
    (s.agenda = [] → s.sampleDue = true → step s = .next s.lineSample) ∧
    (s.agenda = [] → s.sampleDue = false → s.listening = true → ∀ chars rest, s.line.heard = chars :: rest →
      step s = exec (commandHeard s.image.ownAddress chars false) s) ∧
    (s.agenda = [] → s.sampleDue = false → ∀ c, s.dueCommand = some c → step s = exec c s) ∧
    (s.agenda = [] → s.sampleDue = false → s.dueCommand = none → step s = .next { s with now := s.now + 1 })

/-- O4. Every command, in every state, answers a next state (no command of the part stops it), and the queue of waiting commands is as it was. -/
def Obligations.EveryCommandCompletesAndKeepsTheQueue : Prop :=
  ∀ (c : Instr) (s : State), ∃ t, exec c s = .next t ∧ t.pending = s.pending

/-- O5. From every state in which DH and EF are not both on, at most one of FVA, FVB and DV is open, and the eight outputs of the SAFETY layer are off while a class A flag is set, every step leads to a state in which the same holds (R166, R167, R163, R172). -/
def Obligations.OutputInterlocksAndSafetyLayerKept : Prop :=
  ∀ s t : State, s.outputsSafe → step s = .next t → t.outputsSafe

/-- O6. From every state in which F, T and the hour count lie in their ranges, and the initial threshold of the image in force lies in T's, every step leads to a state in which they do (R82, R88). The image is in the invariant because a power-on takes T from it. -/
def Obligations.FrostQuantitiesStayInRange : Prop :=
  ∀ s t : State, s.frostInRange → step s = .next t → t.frostInRange

/-- O7. From every state in which the sum of the own grants is at most the budget B of the image in force, and the image's baseline is, every step leads to a state in which both hold (R66's own conclusion; the baseline is in the invariant because the entry to LISTEN grants it). -/
def Obligations.OwnTotalStaysWithinTheBudget : Prop :=
  ∀ s t : State, s.withinBudget → step s = .next t → t.withinBudget

/-- O8. From every state whose transmit queue holds at most six frames, every step leads to a state whose transmit queue does. -/
def Obligations.TransmitQueueHoldsAtMostSixFrames : Prop :=
  ∀ s t : State, s.queueBounded → step s = .next t → t.queueBounded

/-- O9. The state after reset (the model's choice, log entry 7) meets the invariants of the outputs, of the frost quantities, of the budget and of the transmit queue. -/
def Obligations.ResetMeetsEveryInvariant : Prop :=
  State.reset.outputsSafe ∧ State.reset.frostInRange ∧ State.reset.withinBudget ∧ State.reset.queueBounded

/-- O10. For every frame that fits its kind (source 1 to 14, payload within Table 2-3), with every class, kind, target and payload that admits, the characters of the frame, check included, are read back as that frame. Given to the framer bit by bit on an idle line, least significant bit first, each character after a falling edge and with a recessive stop bit, they are taken whole; a dominant stop bit in any of them ends the framer's interest. That a NOTICE with a fault class above 7 fits is DEDUCED (log entry 16). -/
def Obligations.FramesReadBackAsTheyAreWritten : Prop :=
  ∀ f : Frame, f.fits = true →
    let levels := fun (b : Byte) (stop : Bool) => (List.range 8).map (fun k => b.getLsbD k) ++ [stop]
    let takes := fun (edge : Nat) (stop : Bool) (r : Framer) (b : Byte) => (levels b stop).foldl (fun r level => r.sample level) (r.fall edge)
    readFrame f.chars = some f ∧
    ∀ edge : Nat, f.chars.foldl (takes edge true) .start = .whole f.chars ∧
      ∀ k < f.chars.length, takes edge false ((f.chars.take k).foldl (takes edge true) .start) (f.chars.getD k 0) = .gap

/-- O11. The characters 0x36 0xFA 0x01 0x2A 0xF5 (class 3, RELEASE, from station 5 to all, tag 0x2A) are heard at station 2 as the RELEASE of tag 0x2A from station 5; with a check of 0xF4 the frame is discarded, and at station 5 itself it is a frame from the own address. -/
def Obligations.ReleaseFrameOnTheLineIsHeard : Prop :=
  commandHeard 2 [0x36, 0xFA, 0x01, 0x2A, 0xF5] false = .releaseFrameReceived 5 0x2A ∧
  commandHeard 2 [0x36, 0xFA, 0x01, 0x2A, 0xF4] false = .discardedFrame [0x36, 0xFA, 0x01, 0x2A, 0xF4] false ∧
  commandHeard 5 [0x36, 0xFA, 0x01, 0x2A, 0xF5] false = .foreignFrameOwnAddress

/-- O12. A command that is no start command leaves the parameter image, and the image bytes held, as they were; one that moreover is not SET_MODE leaves the operating mode as it was. -/
def Obligations.ImageAndModeChangeOnlyByTheirCommands : Prop :=
  ∀ (c : Instr) (s t : State), c.isStart = false → exec c s = .next t →
    t.image = s.image ∧ t.rawImage = s.rawImage ∧ ((∀ req, c ≠ .setMode req) → t.mode = s.mode)

/-- O13. A command that is no start command leaves the station view as it was unless it is a frame heard or an ageing of a record, the thermistor channels unless it is a sample or a hold expiry, and the qualified switch inputs unless it is a change or a timer of one. -/
def Obligations.ViewSensorsAndSwitchesChangeOnlyByTheirCommands : Prop :=
  ∀ (c : Instr) (s t : State), c.isStart = false → exec c s = .next t →
    (c.isFrame = false → c.isAgeing = false → t.view = s.view) ∧
    (c.isSensor = false → t.sensors = s.sensors) ∧ (c.isSwitch = false → t.switches = s.switches)

/-- O14. A set class A flag stays set through every command but CLEAR_FAULT and a SUPPLY_GOOD without the retention mark (a power-on), a brown-out and a RESTART included; and RUNAWAY stays set through CLEAR_FAULT too in every mode but SERVICE (R170, R178, R179). That a SUPPLY_FALL with the retention domain lost leaves the flags until the power-on is the model's choice (DESIGN CHOICE, log entry 18). -/
def Obligations.ClassAFlagsStayUntilClearedOrPoweredOn : Prop :=
  ∀ (c : Instr) (s t : State) (f : FaultId), f.isA = true → s.fault.isSet f = true → exec c s = .next t →
    (∀ straps n, c = .supplyGood straps n → s.start.mark = true) →
    ((∀ req, c ≠ .clearFault req) ∨ (f = .runaway ∧ s.mode ≠ .service)) → t.fault.isSet f = true

/-- O15. A command that is no start command, TEST_OUTPUT or SET_MODE leaves every output's test value as it was; TEST_OUTPUT does so too outside SERVICE (R164, Table 10-4). SET_MODE leaves them all, unless it takes the mode out of SERVICE: then every one is NONE. A start command leaves them all or sets every one to NONE; SUPPLY_FALL, and a command that enters LISTEN, sets every one to NONE. -/
def Obligations.TestValuesChangeOnlyInServiceOrAtItsExit : Prop :=
  (∀ (c : Instr) (s t : State), c.isStart = false → exec c s = .next t → (∀ req, c ≠ .setMode req) →
    ((∀ req, c ≠ .testOutput req) ∨ s.mode ≠ .service) → ∀ o : Output, (t.channel o).test = (s.channel o).test) ∧
  (∀ (req : Request) (s t : State), exec (.setMode req) s = .next t → ∀ o : Output,
    (t.channel o).test = (if s.mode = .service ∧ t.mode ≠ .service then .none else (s.channel o).test)) ∧
  (∀ (c : Instr) (s t : State), c.isStart = true → exec c s = .next t →
    ((∀ o : Output, (t.channel o).test = (s.channel o).test) ∨ ∀ o : Output, (t.channel o).test = .none) ∧
    ((∃ lost, c = .supplyFall lost) ∨ (s.start.state ≠ .listen ∧ t.start.state = .listen) →
      ∀ o : Output, (t.channel o).test = .none))

/-- O16. SUPPLY_FALL answers a next state in POWER_UP: every output is off, the line driver is off, the transmit queue, the station view and the own grants are empty; the image, its bytes as they arrived, the mode, the fault flags and the detail record, F, T, the hour count, the gap state, T_res, the defrost state and the molds' states are as they were, and so is of each watch point a LATCHED computed state and nothing else; the retention mark is too unless the retention domain was lost. That the contents themselves stay when the retention domain is lost is the model's choice (DESIGN CHOICE, log entry 18). -/
def Obligations.SupplyFallKeepsTheRetentionDomainAlone : Prop :=
  ∀ (lost : Bool) (s : State), ∃ t, exec (.supplyFall lost) s = .next t ∧
    t.start.state = .powerUp ∧ t.start.mark = (s.start.mark && !lost) ∧ (∀ o : Output, t.isOn o = false) ∧
    t.line.driver = false ∧ t.line.queue = [] ∧ (∀ a : Addr, t.record a = none) ∧ t.share.grants = [] ∧
    t.image = s.image ∧ t.mode = s.mode ∧ t.fault.aFlags = s.fault.aFlags ∧ t.fault.bFlags = s.fault.bFlags ∧
    t.fault.record = s.fault.record ∧ t.frost.f = s.frost.f ∧ t.frost.t = s.frost.t ∧ t.frost.hours = s.frost.hours ∧
    t.frost.gap = s.frost.gap ∧ t.water.tRes = s.water.tRes ∧ t.defrost.state = s.defrost.state ∧
    (∀ m : Mold, (t.mold m).state = (s.mold m).state) ∧ t.rawImage = s.rawImage ∧ t.pins = s.pins ∧
    ∀ i : Fin 16, t.watch[i].computed = (if s.watch[i].computed = .latched then .latched else .inactive) ∧
      t.watch[i].condition = .unknown ∧ t.watch[i].delay = .stopped ∧ t.watch[i].known = false ∧ t.watch[i].forced = .none

/-- O17. In POWER_UP with the retention mark, SUPPLY_GOOD enters LISTEN as a brown-out: the listen timer runs 2 s, the image and the mode are kept, one STATUS is queued, the own grants are the baseline alone, class A and class B flags, the detail record, T, the hour count and the gap state are kept, F is kept, or raised to T when the defrost state kept lies after PENDING, the defrost is IDLE, the water path is LOCKED if a class A flag is kept and IDLE otherwise, and every job command is OFF and every test value NONE. -/
def Obligations.SupplyGoodWithTheMarkIsABrownOut : Prop :=
  ∀ (straps : Straps) (n : Nat) (s : State), s.start.state = .powerUp → s.start.mark = true →
    ∃ t, Does (.supplyGood straps n) s t ∧
      t.start.state = .listen ∧ t.start.kind = .brownOut ∧ t.start.mark = true ∧
      t.start.listenTimer = some (s.now + 2000000) ∧ t.image = s.image ∧ t.mode = s.mode ∧
      t.line.queue = [statusFrame] ∧ t.line.driver = true ∧
      t.share.grants = [{ op := none, cls := 0, amps := s.image.baseline, tag := 0 }] ∧
      t.fault.aFlags = s.fault.aFlags ∧ t.fault.bFlags = s.fault.bFlags ∧ t.fault.record = s.fault.record ∧
      t.frost.t = s.frost.t ∧ t.frost.hours = s.frost.hours ∧ t.frost.gap = s.frost.gap ∧
      t.frost.f = (if s.defrost.state.pastPending then max s.frost.f s.frost.t else s.frost.f) ∧
      t.defrost.state = .idle ∧ t.water.path = (if s.fault.aFlags = 0 then .idle else .locked) ∧
      ∀ o : Output, (t.channel o).job = .off ∧ (t.channel o).test = .none

/-- O18. In POWER_UP without the retention mark, SUPPLY_GOOD begins a power-on, with no fault flag, mode NORMAL and no mark until LISTEN. With IMEN low the part enters LISTEN with the built-in set of the strapped variant, T the initial threshold, F half of it, T_res 40 and no fault; with IMEN high and the data line free after n clock pulses, n at most 9, it is in IMAGE_LOAD and reads; with the line still low after the ninth it enters LISTEN with the built-in set and IMAGE_DEFAULTED. -/
def Obligations.SupplyGoodWithoutTheMarkIsAPowerOn : Prop :=
  ∀ (straps : Straps) (n : Nat) (s : State), s.start.state = .powerUp → s.start.mark = false →
    (straps.imen = false → ∃ t, Does (.supplyGood straps n) s t ∧
      t.start.state = .listen ∧ t.start.kind = .powerOn ∧ t.start.mark = true ∧ t.image = builtinImage straps ∧
      t.fault.aFlags = 0 ∧ t.fault.bFlags = 0 ∧ t.fault.record = none ∧ t.mode = .normal ∧
      t.frost.t = (builtinImage straps).initialThreshold ∧ t.frost.f = (builtinImage straps).initialThreshold / 2 ∧
      t.frost.hours = 0 ∧ t.frost.gap = .minGap ∧ t.water.tRes = 40 ∧ t.own .lastEvent = 0xFF) ∧
    (straps.imen = true → n ≤ 9 → ∃ t, exec (.supplyGood straps n) s = .next t ∧
      t.start.state = .imageLoad ∧ t.start.kind = .powerOn ∧ t.start.mark = false ∧ t.reading = true ∧
      t.start.clearPulses = n ∧ t.fault.aFlags = 0 ∧ t.fault.bFlags = 0 ∧ t.mode = .normal) ∧
    (straps.imen = true → 9 < n → ∃ t, Does (.supplyGood straps n) s t ∧
      t.start.state = .listen ∧ t.start.kind = .powerOn ∧ t.image = builtinImage straps ∧
      t.fault.isSet .imageDefaulted = true ∧ t.start.clearPulses = 9)

/-- O19. While the image is being read: an acknowledged address byte and image bytes that arrive keep the read going, each noted on the port in its turn (start, 0x50 for writing, word address 0, repeated start, 0x50 for reading, then the bytes, acknowledged but the 256th), and the bytes are held in their places. The last bytes end it with a stop. 256 bytes whose checksum and format are right enter LISTEN with the decoded and clamped fields, and set IMAGE_DEFAULTED exactly when their conversion table does not rise strictly (the built-in table then stands in for it). 256 bytes that fail a check, a missing acknowledge to an address byte (after the three of them too: DESIGN CHOICE, log entry 48) and the clock held low (these two with a stop) enter LISTEN with the built-in set of the strapped variant and IMAGE_DEFAULTED; bytes that had arrived stay held. -/
def Obligations.ImageReadOrFallbackEntersListen : Prop :=
  ∀ s : State, s.reading = true →
    let first := s.start.arrived
    let takes := fun (n : Nat) => (List.range n).map fun k => PortSignal.take (first + k != 255)
    let address := fun (n : Nat) => match n with
      | 0 => [PortSignal.start, .device false] | 1 => [.word 0] | 2 => [.repeatedStart, .device true] | _ => []
    (∃ t, Does (.imageRead .acknowledged) s t ∧ t.reading = true ∧ t.start.acked = min 3 (s.start.acked + 1) ∧
      t.start.sent = s.start.sent ++ address s.start.acked ∧ t.rawImage = s.rawImage) ∧
    (∀ b : List Byte, ∃ t, Does (.imageRead (.arrived b)) s t ∧ t.reading = true ∧ t.start.arrived = first + b.length ∧
      t.rawImage = s.rawImage.take first ++ b ++ s.rawImage.drop (first + b.length) ∧
      (s.start.acked = 3 → t.start.sent = s.start.sent ++ takes b.length)) ∧
    (∀ b : List Byte,
      let whole := s.rawImage.take first ++ b
      (imageChecks whole = true → ∃ t, Does (.imageRead (.bytes b)) s t ∧
        t.start.state = .listen ∧ t.start.mark = true ∧ t.start.listenTimer = some (s.now + 2000000) ∧
        t.image = decodeImage whole ∧ t.rawImage.take 256 = whole ∧
        (s.start.acked = 3 → t.start.sent = s.start.sent ++ takes b.length ++ [.stop]) ∧
        (s.start.acked = 0 → t.start.sent = s.start.sent ++ address 0 ++ address 1 ++ address 2 ++ takes b.length ++ [.stop]) ∧
        (strictRise (tableAt whole) = true → t.fault.bFlags = s.fault.bFlags) ∧
        (strictRise (tableAt whole) = false → t.image.table = builtinTable ∧ t.fault.isSet .imageDefaulted = true)) ∧
      (imageChecks whole = false → whole.length = 256 → ∃ t, Does (.imageRead (.bytes b)) s t ∧
        t.start.state = .listen ∧ t.image = builtinImage s.pins.straps ∧ t.rawImage.take 256 = whole ∧
        t.fault.isSet .imageDefaulted = true)) ∧
    (∀ c : Instr, c = .imageRead .failed ∨ c = .clockHeldLowTimeout → ∃ t, Does c s t ∧
      t.start.state = .listen ∧ t.start.mark = true ∧ t.image = builtinImage s.pins.straps ∧ t.rawImage = s.rawImage ∧
      t.start.sent = s.start.sent ++ address s.start.acked ++ [.stop] ∧
      t.fault.isSet .imageDefaulted = true ∧ t.line.queue = [statusFrame])

/-- O20. At the expiry of the listen timer the part is in RUN and the time since start counts from that moment; the second count and the four accumulators of the frost minute are 0, its door marks cleared, the frost second, hour and relaxation timers run their 1 s, 3600 s and 60 s, and a mold in FREEZING that has not gone on starts its freeze timers afresh. A wet leak sensor and a tripped cutout are found afresh: LEAK and OVERTEMP are set (log entry 19 for what is tested). The station view, the sensors, the switch inputs, the mode and the image are as they were. -/
def Obligations.ListenTimerExpiryEntersRun : Prop :=
  ∀ (d : Nat) (s : State), s.start.listenTimer = some d → ∃ t, Does .listenTimerExpiry s t ∧
    t.now = max s.now d ∧ t.start.state = .run ∧ t.start.runSince = max s.now d ∧ t.start.listenTimer = none ∧
    t.secondsSinceStart = 0 ∧ t.frost.seconds = 0 ∧ t.frost.r = 0 ∧ t.frost.dz = 0 ∧ t.frost.dr = 0 ∧ t.frost.h = 0 ∧
    t.frost.freezerMark = false ∧ t.frost.fridgeMark = false ∧
    t.frost.secondTimer = some (max s.now d + 1000000) ∧ t.frost.hourTimer = some (max s.now d + 3600000000) ∧
    t.water.relaxation = some (max s.now d + 60000000) ∧
    (∀ m : Mold, (s.mold m).state = .freezing → (t.mold m).state = .freezing →
      (t.mold m).leastFreeze = some (max s.now d + if (s.mold m).short then 1800000000 else 2400000000) ∧
      (t.mold m).timedFreeze = some (max s.now d + 5400000000)) ∧
    (s.switches.leak.level = true → t.fault.isSet .leak = true) ∧ (s.switches.cutout.level = true → t.fault.isSet .overtemp = true) ∧
    t.view = s.view ∧ t.sensors = s.sensors ∧ t.switches = s.switches ∧ t.mode = s.mode ∧ t.image = s.image

/-- O21. In RUN, once the fate of a RESTART's ANSWER is known, RESTART_RESET with IMEN high and the data line free within nine pulses leads to IMAGE_LOAD, reading, with no mark: every output and the driver are off, the mode is NORMAL, the fault flags, the detail record, T, the hour count and the gap state are kept, and F is raised to T when the defrost was past PENDING. With IMEN low the part enters LISTEN with the built-in set. -/
def Obligations.RestartResetBeginsTheImageLoad : Prop :=
  ∀ (straps : Straps) (n : Nat) (s : State), s.start.restart = .due → s.start.state = .run →
    (straps.imen = true → n ≤ 9 → ∃ t, exec (.restartReset straps n) s = .next t ∧
      t.start.state = .imageLoad ∧ t.start.kind = .restart ∧ t.start.mark = false ∧ t.reading = true ∧
      (∀ o : Output, t.isOn o = false) ∧ t.line.driver = false ∧ t.mode = .normal ∧
      t.fault.aFlags = s.fault.aFlags ∧ t.fault.bFlags = s.fault.bFlags ∧ t.fault.record = s.fault.record ∧
      t.frost.t = s.frost.t ∧ t.frost.hours = s.frost.hours ∧ t.frost.gap = s.frost.gap ∧
      t.frost.f = (if s.defrost.state.pastPending then max s.frost.f s.frost.t else s.frost.f)) ∧
    (straps.imen = false → ∃ t, Does (.restartReset straps n) s t ∧
      t.start.state = .listen ∧ t.start.kind = .restart ∧ t.image = builtinImage straps ∧ t.mode = .normal ∧
      t.fault.aFlags = s.fault.aFlags ∧ t.fault.bFlags = s.fault.bFlags)

/-- O22. On an idle line, with the driver enabled, no frame in transmission and a frame at the head of the queue, TRANSMISSION_START puts that frame in transmission in its place; a STATUS carries the payload assembled from the state at that moment, any other frame its own content. Nothing but the line interface changes. That the end of an undisturbed frame is set to ten bit times a character from then, in whole microseconds, is the model's choice (DESIGN CHOICE, log entry 25). -/
def Obligations.TransmissionStartPutsTheHeadFrameOnTheLine : Prop :=
  ∀ (f : TxFrame) (rest : List TxFrame) (s : State),
    s.listening = true → s.line.idle = true → s.line.driver = true → s.line.sendingFrame = none → s.line.queue = f :: rest →
    ∃ t, Does .transmissionStart s t ∧ t = { s with line := t.line } ∧ t.line.idle = false ∧
      (f.isStatus = true → t.line.queue = { f with body := .status (some s.assembled), sending := true } :: rest ∧
        t.line.clearing = s.assembled.items.map Prod.fst) ∧
      (f.isStatus = false → t.line.queue = { f with sending := true } :: rest) ∧
      ∃ g, t.line.queue.head? = some g ∧ t.line.txEnd = some (s.now + g.duration)

/-- O23. With at most five own grants, the payload assembled for a STATUS has the own grants in order, one plus two for each grant plus three for each item is at most 16, every item is a tag of the publish set with the value the store holds, and no tag stands twice; and while fewer tags are changed than fit, every changed tag of the publish set is carried. -/
def Obligations.AssembledStatusFitsItsFrame : Prop :=
  ∀ s : State, s.share.grants.length ≤ 5 →
    s.assembled.grants = s.share.grants.map (fun g => ({ cls := g.cls, amps := g.amps } : Load)) ∧
    1 + 2 * s.assembled.grants.length + 3 * s.assembled.items.length ≤ 16 ∧
    (∀ q ∈ s.assembled.items, s.image.publish[q.1.idx] = true ∧ q.2 = s.own q.1) ∧
    (s.assembled.items.map Prod.fst).Nodup ∧
    ((s.publishTags.filter fun t => s.store.changed[t.idx]).length ≤ itemRoom s.share.grants.length →
      ∀ tag ∈ s.publishTags, s.store.changed[tag.idx] = true → tag ∈ s.assembled.items.map Prod.fst)

/-- O24. A frame in transmission that loses arbitration waits in its place with its retry count; a bit error does so with one retry more while that is below 4, and takes it out of the queue when it reaches 4. A STATUS waits without its content, and a second STATUS that waited leaves the queue, at the fourth bit error too (DEDUCED, log entry 12), where the period timer restarts; no changed mark is removed. A NOTICE that meets a second one waits in its stead, or is dropped for one of class 0 (DESIGN CHOICE, log entry 36). The CLAIM of a claim in flight that is not cancelled waits as any frame, and at the fourth bit error the claim is refused without a RELEASE; that of a cancelled claim is removed when it would wait again, and the claim ends. An ANSWER to a RESTART given up makes the RESTART reset due (DESIGN CHOICE, log entry 8). Otherwise the share unit is as it was. -/
def Obligations.FailedAttemptKeepsOrDropsTheFrame : Prop :=
  ∀ (f : TxFrame) (pre post : List TxFrame) (s : State), s.sends pre f post →
    let without := fun (p : TxFrame → Bool) (l : List TxFrame) => l.filter fun g => !p g
    let plain := f.isStatus = false ∧ f.isNotice = false ∧ (f.isClaim = true → ∀ c, s.share.flight = some c → c.cancelled = false)
    let back : TxFrame := { f with sending := false }
    let again : TxFrame := { f with retries := f.retries + 1, sending := false }
    let stands := (pre ++ post).any fun g => g.isNotice && g.cls == 0
    (plain → ∃ t, Does .lostArbitration s t ∧ t.line.queue = pre ++ back :: post ∧
      t.line.txEnd = none ∧ t.share = s.share ∧ t.store = s.store) ∧
    (plain → f.retries < 3 → ∃ t, Does .bitError s t ∧ t.line.queue = pre ++ again :: post ∧
      t.line.txEnd = none ∧ t.share = s.share ∧ t.store = s.store) ∧
    (plain → f.isClaim = false → 3 ≤ f.retries → ∃ t, Does .bitError s t ∧ t.line.queue = pre ++ post ∧
      t.line.txEnd = none ∧ t.share = s.share ∧ t.store = s.store ∧
      (∀ k q r b, f.body = .answer k q r b true → t.start.restart = .due)) ∧
    (f.isStatus = true →
      (∃ t, Does .lostArbitration s t ∧ t.share = s.share ∧ t.store = s.store ∧
        t.line.queue = without TxFrame.isStatus pre ++ { back with body := .status none } :: without TxFrame.isStatus post) ∧
      (f.retries < 3 → ∃ t, Does .bitError s t ∧ t.store = s.store ∧
        t.line.queue = without TxFrame.isStatus pre ++ { again with body := .status none } :: without TxFrame.isStatus post) ∧
      (3 ≤ f.retries → ∃ t, Does .bitError s t ∧ t.line.queue = without TxFrame.isStatus pre ++ without TxFrame.isStatus post ∧
        t.line.period = some (s.now + 1000000) ∧ t.store = s.store)) ∧
    (f.isNotice = true →
      (∃ t, Does .lostArbitration s t ∧ t.share = s.share ∧ t.store = s.store ∧ t.line.queue =
        (if stands then pre ++ post else without TxFrame.isNotice pre ++ back :: without TxFrame.isNotice post)) ∧
      (f.retries < 3 → ∃ t, Does .bitError s t ∧ t.share = s.share ∧ t.store = s.store ∧ t.line.queue =
        (if stands then pre ++ post else without TxFrame.isNotice pre ++ again :: without TxFrame.isNotice post)) ∧
      (3 ≤ f.retries → ∃ t, Does .bitError s t ∧ t.share = s.share ∧ t.line.queue = pre ++ post)) ∧
    (∀ c, f.isClaim = true → s.share.flight = some c →
      (c.cancelled = true → c.lateAsk = none →
        (∃ t, Does .lostArbitration s t ∧ t.line.queue = without TxFrame.isClaim (pre ++ post) ∧ t.share = { s.share with flight := none }) ∧
        (f.retries < 3 → ∃ t, Does .bitError s t ∧ t.line.queue = without TxFrame.isClaim (pre ++ post) ∧
          t.share = { s.share with flight := none }) ∧
        (3 ≤ f.retries → ∃ t, Does .bitError s t ∧ t.line.queue = pre ++ post ∧ t.share = { s.share with flight := none })) ∧
      (c.cancelled = false → 3 ≤ f.retries → ∃ t, Does .bitError s t ∧ t.line.queue = pre ++ post ∧ t.share.flight = none ∧
        t.share.grants = s.share.grants ∧
        (c.op = .dh → t.share.dhRefusals = min 255 (s.share.dhRefusals + 1)) ∧
        (c.op ≠ .dh → c.reclaim = false → t.share = { s.share with
          flight := none
          queue := insertEntry
            { op := c.op, cls := c.op.baseClass, amps := c.nextAsk.getD c.amps, asked := c.asked
              retryAt := some (s.now + 2000000 + 250000 * s.image.ownAddress.toNat), reclaim := false } s.share.queue }) ∧
        (c.op ≠ .dh → c.reclaim = true → t.share = { s.share with
          flight := none
          suspended := s.share.suspended.map fun r => if r.op = c.op then { r with amps := c.nextAsk.getD r.amps } else r
          reclaim := some (s.now + 5000000) })))

/-- O25. At the end of the frame in transmission the frame leaves the queue and the line order count rises by one; a STATUS restarts the period timer and removes exactly the changed marks of the tags it carried and that have not changed since; a CLAIM opens the claim in flight with the count as its stamp and the claim window of the image; the ANSWER to a RESTART makes the RESTART reset due (DESIGN CHOICE, log entry 8: the reset itself is the next command). -/
def Obligations.FrameSentTellsTheBlockThatQueuedIt : Prop :=
  ∀ (d : Nat) (f : TxFrame) (pre post : List TxFrame) (s : State), s.line.txEnd = some d → s.sends pre f post →
    ∃ t, Does .frameSent s t ∧ t.now = max s.now d ∧ t.line.queue = pre ++ post ∧ t.line.txEnd = none ∧
      t.line.orderCount = s.line.orderCount + 1 ∧
      (f.isStatus = true → t.line.period = some (max s.now d + 1000000) ∧
        ∀ tag : OwnTag, t.store.changed[tag.idx] = (s.store.changed[tag.idx] && !s.line.clearing.contains tag)) ∧
      (f.isStatus = false → t.store = s.store) ∧
      (f.isClaim = true → ∀ c, s.share.flight = some c → t.share.flight =
        some { c with phase := .opened (s.line.orderCount + 1) (max s.now d + s.image.claimWindowMs * 1000) }) ∧
      (f.isClaim = false → t.share = s.share) ∧
      (∀ k q r b, f.body = .answer k q r b true → t.start.restart = .due)

/-- O26. At the expiry of the period timer, outside STUCK: while a STATUS waits, none is added; otherwise one joins the queue in its place, or, when six frames are queued, the publish owed mark is set. In STUCK the STATUS counts as sent at once: the line order count rises and the period timer restarts. Nothing else changes outside STUCK. -/
def Obligations.StatusPeriodOffersAStatus : Prop :=
  ∀ (d : Nat) (s : State), s.line.period = some d →
    (s.line.mode ≠ .stuck → s.line.waiting TxFrame.isStatus = true →
      Does .statusPeriodExpiry s { s.atMoment d with line := { s.line with period := none } }) ∧
    (s.line.mode ≠ .stuck → s.line.waiting TxFrame.isStatus = false → s.line.queue.length < 6 →
      Does .statusPeriodExpiry s
        { s.atMoment d with line := { s.line with period := none, queue := insertFrame statusFrame s.line.queue } }) ∧
    (s.line.mode ≠ .stuck → s.line.waiting TxFrame.isStatus = false → 6 ≤ s.line.queue.length →
      Does .statusPeriodExpiry s { s.atMoment d with line := { s.line with period := none, statusOwed := true } }) ∧
    (s.line.mode = .stuck → ∃ t, Does .statusPeriodExpiry s t ∧ t.line.queue = s.line.queue ∧
      t.line.orderCount = s.line.orderCount + 1 ∧ t.line.period = some (max s.now d + 1000000))

/-- O27. In LISTEN or RUN a fall of the line starts the stuck-line timer's 2 ms and 1 s, and a rise stops them and starts the 12 bit times of recessive line. 2 ms of dominance in NORMAL with nothing in transmission switch the driver off, enter HELD_OFF and clear the line good flag. 1 s of dominance in HELD_OFF raise LINK_STUCK and lead to STUCK with the driver off, the queue emptied and the island flag set. 12 recessive bit times make the line idle, the line interface NORMAL, the driver enabled and the framer ready for a start bit, a frame short of its length being closed. At an edge the framer first takes the samples due at the old level; a falling edge then begins a frame on an idle line or the next character of a frame in progress, and nothing otherwise. Bit k of a character is sampled (2k+1)/2 bit times after its edge, in whole microseconds. A frame taken whole joins those heard unless the part sends (DESIGN CHOICE, log entry 51). -/
def Obligations.StuckLineHoldsOffThenIsolates : Prop :=
  ∀ (d : Nat) (s : State),
    let u := s.lineSamples
    let v := (s.atMoment d).lineSamples
    (s.sampleDue = false → u = s) ∧
    (s.listening = true → s.pins.line = false → Does (.lineLevelChange true) s
      { u with pins := { s.pins with line := true }, line := { u.line with
        stuckShort := some (s.now + 2000), stuckLong := some (s.now + 1000000), recessive := none, idle := false, goodTimer := none
        framer := match u.line.framer with
          | .start => .character [] s.now [] | .next chars => .character chars s.now [] | r => r } }) ∧
    (s.listening = true → s.pins.line = true → Does (.lineLevelChange false) s
      { u with pins := { s.pins with line := false }, line := { u.line with
        stuckShort := none, stuckLong := none, recessive := some (s.now + 1250), idle := false
        goodTimer := if s.line.island && !s.line.lineGood then some (s.now + 100000) else s.line.goodTimer } }) ∧
    (∀ (chars : List Byte) (edge : Nat) (levels : List Bool), s.line.framer = .character chars edge levels →
      s.line.framer.sampleAt = some (edge + (2 * levels.length + 3) * 625 / 12) ∧
      (s.pins.line = false → levels.length = 8 → Framer.after (chars ++ [charOf levels]) = .whole (chars ++ [charOf levels]) →
        s.line.sendingFrame = none → s.lineSample.line.heard = s.line.heard ++ [chars ++ [charOf levels]])) ∧
    (s.line.stuckShort = some d → s.line.mode = .normal → s.line.sendingFrame = none → Does .stuckTimer2ms s
      { s.atMoment d with line := { s.line with stuckShort := none, lineGood := false, driver := false, mode := .heldOff } }) ∧
    (s.line.stuckLong = some d → s.line.stuckShort = none → s.line.mode = .heldOff → ∃ t, Does .stuckTimer1s s t ∧
      t.fault.isSet .linkStuck = true ∧ t.line.mode = .stuck ∧ t.line.driver = false ∧ t.line.queue = [] ∧
      t.line.island = true ∧ t.line.stuckLong = none ∧ t.view = s.view ∧ t.sensors = s.sensors) ∧
    (s.line.recessive = some d → Does .lineRecessive12Bits s
      { v with line := { v.line with recessive := none, idle := true, mode := .normal, driver := true, framer := .start } })

/-- O28. The alone timer's expiry outside island operation sets the island flag, clears the line good flag and stops the return listen timer. Own grants but the baseline are shed worst first (class higher first, then later position first), one after another, for as long as the own claimable total is above the island allowance and no longer: the grants of the operations shed leave the list, the others stay in order, and the own claimable total is then at most the island allowance. In island operation the expiry only stops the timer. 100 ms of recessive line set the line good flag, and the return listen timer only stops. -/
def Obligations.IslandOperationBeginsAndTheLineRecovers : Prop :=
  ∀ (d : Nat) (s : State),
    let order := worstGrants s.share.grants
    let kept := fun (n : Nat) => s.share.grants.filter fun g => !(g.op.any fun op => ((order.filterMap Grant.op).take n).contains op)
    order.Pairwise (fun a b => b.cls ≤ a.cls) ∧
    (∀ cls : Nat, (order.filter fun g => g.cls == cls) = (s.share.grants.filter fun g => g.cls == cls).reverse) ∧
    (s.line.alone = some d → s.line.island = false → ∃ t n, Does .aloneTimerExpiry s t ∧ t.line.island = true ∧
      t.line.lineGood = false ∧ t.line.returnListen = none ∧ t.line.alone = none ∧ t.view = s.view ∧ t.fault = s.fault ∧
      t.share.grants = kept n ∧ t.ownClaimable ≤ s.image.islandAllowance ∧
      ∀ k < n, s.image.islandAllowance < sumAmps (((kept k).filter fun g => g.op.isSome).map Grant.amps)) ∧
    (s.line.alone = some d → s.line.island = true → Does .aloneTimerExpiry s { s.atMoment d with line := { s.line with alone := none } }) ∧
    (s.line.goodTimer = some d → Does .lineGoodTimer s { s.atMoment d with line := { s.line with goodTimer := none, lineGood := true } }) ∧
    (s.line.returnListen = some d → Does .returnListenExpiry s { s.atMoment d with line := { s.line with returnListen := none } })

/-- O29. A valid frame from a peer of a listening part sets its sender's record FRESH, heard now, with what the record held, or creates an empty one; it counts one more frame in line order outside STUCK and stops the alone timer; in island operation with the line good flag it ends island operation and starts the 2 s return listen timer. No other station's record changes. UNCONSUMED_FRAME does that and nothing more. A frame taken from the levels that waited is no longer kept (DESIGN CHOICE, log entry 51). -/
def Obligations.ValidPeerFrameRefreshesItsSender : Prop :=
  ∀ (src : Addr) (s : State), s.peerHeard src →
    Does (.unconsumedFrame src) s (s.hears src) ∧
    (∀ r, s.record src = some r → (s.hears src).record src = some { r with freshness := .fresh, heard := s.now }) ∧
    (s.record src = none → (s.hears src).record src =
      some { freshness := .fresh, heard := s.now, grants := none, claims := [], quantities := [], notice := none }) ∧
    (∀ a : Addr, a ≠ src → (s.hears src).record a = s.record a) ∧
    (s.line.mode ≠ .stuck → (s.hears src).line.orderCount = s.line.orderCount + 1) ∧
    (s.hears src).line.alone = none ∧ (s.hears src).line.heard = s.line.heard.tail ∧
    (s.line.island = true → s.line.lineGood = true →
      (s.hears src).line.island = false ∧ (s.hears src).line.returnListen = some (s.now + 2000000) ∧
      (s.hears src).store.changed = s.image.publish) ∧
    (s.line.island = false → (s.hears src).line.island = false)

/-- O30. In a listening part a discarded frame changes nothing but the line interface, whose queue, line order count and island flag stay as they were; a frame from the own address sets ADDRESS_CLASH and changes no station record and no grant. Before LISTEN neither is heard. The oldest frame taken from the levels that waited is no longer kept (DESIGN CHOICE, log entry 51). -/
def Obligations.DiscardedAndClashingFramesTouchNoRecord : Prop :=
  ∀ (chars : List Byte) (framing : Bool) (s : State),
    (s.listening = true → ∃ t, Does (.discardedFrame chars framing) s t ∧ t = { s with line := t.line } ∧
      t.line.queue = s.line.queue ∧ t.line.orderCount = s.line.orderCount ∧ t.line.island = s.line.island ∧
      t.line.alone = s.line.alone ∧ t.line.heard = s.line.heard.tail) ∧
    (s.listening = true → ∃ t, Does .foreignFrameOwnAddress s t ∧ t.fault.isSet .addressClash = true ∧
      t.view = s.view ∧ t.share = s.share ∧ t.line.orderCount = s.line.orderCount ∧ t.line.queue = s.line.queue) ∧
    (s.listening = false →
      exec (.discardedFrame chars framing) s = .next s ∧ exec .foreignFrameOwnAddress s = .next s)

/-- O31. A STATUS from a peer of a listening part replaces the sender's grant list by the frame's entries in order and removes its pending claims; no other station's record changes. When no tag stands twice among its quantity items, each item whose tag is of interest for the station gives the record that item's value, read in the type of its tag, and every other tag keeps the value it had. -/
def Obligations.StatusReplacesGrantsAndClaims : Prop :=
  ∀ (src : Addr) (grants : List GrantItem) (items : List QuantityItem) (s : State), s.peerHeard src →
    ∃ t r, Does (.statusFrameReceived src grants items) s t ∧ t.record src = some r ∧ r.freshness = .fresh ∧ r.heard = s.now ∧
      r.grants = some (grants.map fun g => { cls := g.cls.toNat, amps := g.amps.toNat }) ∧ r.claims = [] ∧
      (∀ a : Addr, a ≠ src → t.record a = s.record a) ∧ t.sensors = s.sensors ∧ t.switches = s.switches ∧ t.mode = s.mode ∧
      ((items.map QuantityItem.tag).Nodup →
        (∀ q ∈ items, s.ofInterest src q.tag = true →
          t.peer src q.tag = some (if tagSigned q.tag then q.value.toInt else (q.value.toNat : Int))) ∧
        (∀ tag : Byte, (∀ q ∈ items, q.tag = tag → s.ofInterest src tag = false) → t.peer src tag = s.peer src tag))

/-- O32. A CLAIM from a peer enters its record's pending claims with the line order count of the frame and a 1 s expiry: alone when none was pending, in the place of one with its tag, and in the place of the older of two others. A RELEASE, and a pending claim's expiry, take out the claims of that tag and leave the others. Apart from the pending claims, the state is that in which the frame was heard. -/
def Obligations.ClaimsArePendingUntilReleasedOrExpired : Prop :=
  ∀ (src : Addr) (tag : Byte) (cls : BitVec 3) (amps : Byte) (s : State),
    (s.peerHeard src → ∃ r, (s.hears src).record src = some r ∧
      (let p : PendingClaim :=
        { tag := tag, cls := cls.toNat, amps := amps.toNat, stamp := (s.hears src).line.orderCount, expires := s.now + 1000000 }
       let after := fun l => (s.hears src).setRecord src (some { r with claims := l })
       (r.claims = [] → Does (.claimFrameReceived src tag cls amps) s (after [p])) ∧
       (∀ q, r.claims = [q] → q.tag = tag → Does (.claimFrameReceived src tag cls amps) s (after [p])) ∧
       (∀ q, r.claims = [q] → q.tag ≠ tag → Does (.claimFrameReceived src tag cls amps) s (after [q, p])) ∧
       (∀ q1 q2, r.claims = [q1, q2] → q1.tag ≠ tag → q2.tag ≠ tag →
         Does (.claimFrameReceived src tag cls amps) s (after (if (q1.stamp - q2.stamp).msb then [p, q2] else [q1, p]))) ∧
       Does (.releaseFrameReceived src tag) s (after (r.claims.filter fun q => q.tag != tag)))) ∧
    (∀ r q, s.record src = some r → r.claims.find? (fun p => p.tag == tag) = some q →
      Does (.pendingClaimExpiry src tag) s
        ((s.atMoment q.expires).setRecord src (some { r with claims := r.claims.filter fun p => p.tag != tag })))

/-- O33. A NOTICE from a peer becomes its record's last notice and changes nothing else of the state in which it was heard. An ANSWER that is not the compressor station's to the outstanding HOLD_COMPRESSOR changes nothing of that state. One that is stops the answer timer and removes the outstanding hold; in HOLD_WAIT outside island operation a DONE with the speed a valid 0 enters PUMP_DOWN with the hold HELD and the 60 s dwell timer, a DONE without it sets the hold answered mark and stays, and another result fails the attempt: with fewer than three attempts the defrost is in PENDING with the 600 s hold retry timer, with the third, or a later one (DESIGN CHOICE, log entry 41), HOLD_REFUSED is set and the defrost is in PUMP_DOWN, REFUSED. Island operation that the frame ends is over before its content is taken (DESIGN CHOICE, log entry 40). -/
def Obligations.NoticesAreKeptAndHoldAnswersTaken : Prop :=
  ∀ (src : Addr) (kind seq result code cls : Byte) (s : State), s.peerHeard src →
    let u := s.hears src
    let hold := src = u.image.compressor ∧ kind = 32 ∧ u.defrost.outstanding = some seq
    (∃ r, u.record src = some r ∧
      Does (.noticeFrameReceived src code cls) s (u.setRecord src (some { r with notice := some (code, cls) }))) ∧
    (¬ hold → Does (.answerFrameReceived src kind seq result) s u) ∧
    (hold → u.defrost.state ≠ .holdWait →
      Does (.answerFrameReceived src kind seq result) s { u with defrost := { u.defrost with answer := none, outstanding := none } }) ∧
    (hold → u.defrost.state = .holdWait → u.line.island = false →
      (result = 0 → u.compressorSpeed ≠ some 0 → Does (.answerFrameReceived src kind seq result) s
        { u with defrost := { u.defrost with answer := none, outstanding := none, answered := true } }) ∧
      (result = 0 → u.compressorSpeed = some 0 → ∃ t, Does (.answerFrameReceived src kind seq result) s t ∧
        t.defrost.state = .pumpDown ∧ t.defrost.hold = .held ∧ t.defrost.dwell = some (s.now + 60000000) ∧
        t.defrost.speed = none ∧ t.defrost.answer = none ∧ t.defrost.outstanding = none) ∧
      (result ≠ 0 → u.defrost.attempts < 2 → ∃ t, Does (.answerFrameReceived src kind seq result) s t ∧
        t.defrost.state = .pending ∧ t.defrost.attempts = u.defrost.attempts + 1 ∧ t.defrost.hold = .none ∧
        t.defrost.holdRetry = some (s.now + 600000000) ∧ t.defrost.renew = none ∧ t.defrost.speed = none) ∧
      (result ≠ 0 → 2 ≤ u.defrost.attempts → ∃ t, Does (.answerFrameReceived src kind seq result) s t ∧
        t.fault.isSet .holdRefused = true ∧ t.defrost.state = .pumpDown ∧ t.defrost.hold = .refused ∧
        t.defrost.dwell = some (s.now + 60000000) ∧ t.defrost.renew = none))

/-- O34. A FRESH record becomes STALE 3 s after its last frame with every field kept. A FRESH or STALE record becomes LOST 10 s after it: its grant list and last notice become absent, its pending claims go, and none of its quantities is valid any more. Other stations' records, the sensors and the switch inputs stay as they were. -/
def Obligations.RecordsAgeToStaleAndLost : Prop :=
  ∀ (a : Addr) (r : StationRecord) (s : State), s.record a = some r →
    (r.freshness = .fresh → ∃ t, Does (.ageStale a) s t ∧ t.now = max s.now (r.heard + 3000000) ∧
      t.record a = some { r with freshness := .stale } ∧ (∀ b : Addr, b ≠ a → t.record b = s.record b) ∧
      t.sensors = s.sensors ∧ t.switches = s.switches) ∧
    (r.freshness ≠ .lost → ∃ t, Does (.ageLost a) s t ∧ t.now = max s.now (r.heard + 10000000) ∧
      t.record a = some { freshness := .lost, heard := r.heard, grants := none, claims := [], quantities := [], notice := none } ∧
      (∀ tag : Byte, t.peer a tag = none) ∧ (∀ b : Addr, b ≠ a → t.record b = s.record b) ∧
      t.sensors = s.sensors ∧ t.switches = s.switches)

/-- O35. When the window of a claim that is not cancelled expires and the committed current plus its current is at most B, and in island operation the own claimable total plus its current is at most the island allowance, the claim in flight ends. The grant joins the end of the own grant list for AUG and the molds; an auger in CLAIMING runs with AUG commanded on and its 60 s timer, a mold in HARVEST_CLAIM has its heater commanded on and is in HARVEST_HEAT or, its heat end test met at once, in EJECT; a defrost in HEAT_CLAIM is in HEATING, or in DRIP when an end of heating is met at once. A DH grant sets the refusal count to 0. -/
def Obligations.ClaimIsGrantedWithinTheBudget : Prop :=
  ∀ (d : Nat) (c : Claim) (stamp : Stamp) (s : State), s.share.flight = some c → c.phase = .opened stamp d → c.cancelled = false →
    s.committed c.cls stamp + c.amps ≤ s.image.budget →
    (s.line.island = true → s.ownClaimable + c.amps ≤ s.image.islandAllowance) →
    ∃ t, Does .claimWindowExpiry s t ∧ t.now = max s.now d ∧ t.share.flight = none ∧ t.view = s.view ∧
      (c.op ≠ .dh → t.share.grants = s.share.grants ++ [{ op := some c.op, cls := c.cls, amps := c.amps, tag := c.tag }]) ∧
      (c.op = .dh → t.share.dhRefusals = 0) ∧
      (c.op = .aug → s.ice.auger = .claiming →
        t.ice.auger = .running ∧ t.ice.runTimer = some (max s.now d + 60000000) ∧ (t.channel .aug).job = .on) ∧
      (∀ m : Mold, c.op = m.op → (s.mold m).state = .harvestClaim → (s.mold m).suspended = false →
        (t.channel m.heater).job = .on ∧
        ((t.mold m).state = .harvestHeat ∧ (t.mold m).heatSecond = some (max s.now d + 1000000) ∨ (t.mold m).state = .eject)) ∧
      (c.op = .dh → s.defrost.state = .heatClaim →
        t.defrost.state = .heating ∧ t.defrost.heatSecond = some (max s.now d + 1000000) ∧
          t.defrost.duty = (if c.amps = s.image.dhAmps then .full else .half) ∧
          (t.channel .dh).job = (if c.amps = s.image.dhAmps then .on else .pattern 1) ∨
        t.defrost.state = .drip)

/-- O36. When the window of a claim expires and the committed current plus its current is above B, or in island operation the own claimable total plus its current is above the island allowance, the claim in flight ends, the own grants stay as they were, and a RELEASE of its tag and class is offered: queued where the queue has room, dropped where it is full. An ordinary claim of a mold or of AUG is back in the claim queue with its time asked, its next ask or else its current, and a retry time 2 s and 0.25 s for each unit of the own address later; a re-claim of a mold is not: its record keeps the next ask, or else what it had, and the 5 s re-claim timer runs. A refusal of DH adds 1 to the refusal count, up to 255. A cancelled claim ends with the RELEASE and grants nothing, whatever its sum; an ask that came while it was cancelled becomes a claim entry with the time of that ask and no retry time. -/
def Obligations.ClaimBeyondTheBudgetIsRefused : Prop :=
  ∀ (d : Nat) (c : Claim) (stamp : Stamp) (s : State), s.share.flight = some c → c.phase = .opened stamp d → s.line.mode ≠ .stuck →
    let release := newFrame 15 c.cls (.release c.tag)
    let u := { s.atMoment d with
      line := { s.line with queue := if s.line.queue.length < 6 then insertFrame release s.line.queue else s.line.queue } }
    (c.cancelled = true → c.lateAsk = none → Does .claimWindowExpiry s { u with share := { s.share with flight := none } }) ∧
    (∀ amps asked, c.cancelled = true → c.lateAsk = some (amps, asked) → Does .claimWindowExpiry s { u with
      share := { s.share with
        flight := none
        queue := insertEntry
          { op := c.op, cls := if c.op = .dh then s.share.dhClass else c.op.baseClass, amps := amps, asked := asked
            retryAt := none, reclaim := false } s.share.queue } }) ∧
    (c.cancelled = false → s.image.budget < s.committed c.cls stamp + c.amps ∨
        (s.line.island = true ∧ s.image.islandAllowance < s.ownClaimable + c.amps) →
      (c.op ≠ .dh → c.reclaim = false → Does .claimWindowExpiry s { u with
        share := { s.share with
          flight := none
          queue := insertEntry
            { op := c.op, cls := c.op.baseClass, amps := c.nextAsk.getD c.amps, asked := c.asked
              retryAt := some (max s.now d + 2000000 + 250000 * s.image.ownAddress.toNat), reclaim := false } s.share.queue } }) ∧
      (c.op ≠ .dh → c.reclaim = true → Does .claimWindowExpiry s { u with
        share := { s.share with
          flight := none
          suspended := s.share.suspended.map fun r => if r.op = c.op then { r with amps := c.nextAsk.getD r.amps } else r
          reclaim := some (max s.now d + 5000000) } }) ∧
      (c.op = .dh → ∃ t, Does .claimWindowExpiry s t ∧ t.share.flight = none ∧ t.share.grants = s.share.grants ∧
        t.share.dhRefusals = min 255 (s.share.dhRefusals + 1) ∧ t.line = u.line ∧ t.view = s.view))

/-- O37. For every excess above 0 and every list of known grants, the shed prefix is a head of the list; its sum is at or above the excess unless it is the whole list; and without its last grant it would be below the excess. -/
def Obligations.ShedPrefixJustCoversTheExcess : Prop :=
  ∀ (excess : Nat) (l : List KnownGrant), 0 < excess →
    shedPrefix excess l <+: l ∧
    (excess ≤ sumAmps ((shedPrefix excess l).map KnownGrant.amps) ∨ shedPrefix excess l = l) ∧
    (shedPrefix excess l ≠ [] → sumAmps ((shedPrefix excess l).dropLast.map KnownGrant.amps) < excess)

/-- O38. At the expiry of the shed delay with the sum of the budget figures and the own total at most B, only the timer stops. Above B, the own grants whose operations stand in the shed prefix leave the list and the others stay in order; for DH and the molds a suspension record with its 1800 s or 1200 s abandon timer is formed and the re-claim timer runs 5 s; AUG shed in RUNNING is IDLE with AUG commanded off. The station view is as it was. -/
def Obligations.ShedDelayShedsTheOwnGrantsOfThePrefix : Prop :=
  ∀ (d : Nat) (s : State), s.share.shedDelay = some d →
    (s.peerTotal + s.ownTotal ≤ s.image.budget →
      Does .shedDelayExpiry s { s.atMoment d with share := { s.share with shedDelay := none } }) ∧
    (s.image.budget < s.peerTotal + s.ownTotal → ∃ t, Does .shedDelayExpiry s t ∧ t.now = max s.now d ∧ t.view = s.view ∧
      t.share.grants = s.share.grants.filter (fun g => !(g.op.any fun op => s.shedOps.contains op)) ∧
      (∀ op ∈ s.shedOps, op ≠ .aug → (∃ r ∈ t.share.suspended, r.op = op ∧
          r.abandon = max s.now d + (if op = .dh then 1800000000 else 1200000000)) ∧
        t.share.reclaim = some (max s.now d + 5000000)) ∧
      (LoadOp.aug ∈ s.shedOps → s.ice.auger = .running → t.ice.auger = .idle ∧ (t.channel .aug).job = .off))

/-- O39. At the expiry of the re-claim timer the head of the suspension list, a mold with nothing queued or in flight, gets a claim entry with its class and current, marked re-claim, asked now and without a retry time; a head that has its entry, or an empty list, gets none. A retry time that passes leaves its entry without one. At an abandon timer's expiry the operation has no suspension record; a DH abandoned in PAUSED outside SHOWROOM is in DRIP for 300 s with DR commanded on and the gap state RETRY_WAIT for 3600 s; a suspended mold abandoned there under a harvest hold is in HARVEST_PENDING, not suspended, with 0 heater seconds. -/
def Obligations.SuspendedOperationsAreReclaimedOrAbandoned : Prop :=
  ∀ (d : Nat) (r : Suspension) (rest : List Suspension) (op : LoadOp) (s : State),
    (s.share.reclaim = some d → s.share.suspended = r :: rest → r.op ≠ .dh → s.entryOf r.op = none → s.flightOf r.op = none →
      Does .reclaimTimerExpiry s { s.atMoment d with
        share := { s.share with
          reclaim := none
          queue := insertEntry { op := r.op, cls := r.cls, amps := r.amps, asked := max s.now d, retryAt := none, reclaim := true } s.share.queue } }) ∧
    (s.share.reclaim = some d → (s.share.suspended = [] ∨
        (s.share.suspended = r :: rest ∧ ((s.entryOf r.op).isSome ∨ (s.flightOf r.op).isSome))) →
      Does .reclaimTimerExpiry s { s.atMoment d with share := { s.share with reclaim := none } }) ∧
    (∀ e, s.entryOf op = some e → e.retryAt = some d → Does (.claimRetryTime op) s { s.atMoment d with
      share := { s.share with queue := s.share.queue.map fun x => if x.op = op then { x with retryAt := none } else x } }) ∧
    (s.suspensionOf op = some r → ∃ t, Does (.abandonTimerExpiry op) s t ∧ t.now = max s.now r.abandon ∧ t.suspensionOf op = none ∧
      (op = .dh → s.defrost.state = .paused → s.mode ≠ .showroom →
        t.defrost.state = .drip ∧ t.defrost.drip = some (max s.now r.abandon + 300000000) ∧ (t.channel .dr).job = .on ∧
        t.frost.gap = .retryWait ∧ t.frost.retryTimer = some (max s.now r.abandon + 3600000000) ∧
        t.frost.f = s.frost.f ∧ t.frost.t = s.frost.t ∧ t.frost.hours = s.frost.hours) ∧
      (∀ m : Mold, op = m.op → (s.mold m).suspended = true → s.mode ≠ .showroom → s.switches.bin.level = true →
        (t.mold m).state = .harvestPending ∧ (t.mold m).suspended = false ∧ (t.mold m).heatSeconds = 0))

/-- O40. At a frost second the timer restarts with 1 s and r rises by 1 unless the compressor speed is a valid 0; each door's count rises by 1 at a valid value other than 0, an invalid value sets its mark. Before the sixtieth second nothing else changes. At the sixtieth, the second count, the accumulators and the marks are cleared; F is unchanged when the mode is SHOWROOM or the defrost is past PENDING, and otherwise F rises by floor(r/15) + 2 M dz + floor(M dr/2) + 8 h, at most to 65535, with M = floor(RH (Ta + 100)/4000), doors at least at their allowances 4 and 8 when marked, and door terms 0 in SABBATH. -/
def Obligations.FrostSecondSamplesAndMinuteEnds : Prop :=
  ∀ (d : Nat) (s : State), s.frost.secondTimer = some d →
    let r := if s.compressorSpeed = some 0 then s.frost.r else s.frost.r + 1
    let dz := match s.door tagDoorFreezer with | some v => if v = 0 then s.frost.dz else s.frost.dz + 1 | none => s.frost.dz
    let dr := match s.door tagDoorFridge with | some v => if v = 0 then s.frost.dr else s.frost.dr + 1 | none => s.frost.dr
    let mz := (s.door tagDoorFreezer).isNone || s.frost.freezerMark
    let mr := (s.door tagDoorFridge).isNone || s.frost.fridgeMark
    (s.frost.seconds + 1 ≠ 60 → Does .frostSecondExpiry s { s.atMoment d with
      frost := { s.frost with
        secondTimer := some (max s.now d + 1000000), seconds := s.frost.seconds + 1
        r := r, dz := dz, dr := dr, freezerMark := mz, fridgeMark := mr } }) ∧
    (s.frost.seconds + 1 = 60 → ∃ t, Does .frostSecondExpiry s t ∧
      t.frost.secondTimer = some (max s.now d + 1000000) ∧ t.frost.seconds = 0 ∧ t.frost.r = 0 ∧ t.frost.dz = 0 ∧
      t.frost.dr = 0 ∧ t.frost.h = 0 ∧ t.frost.freezerMark = false ∧ t.frost.fridgeMark = false ∧
      t.frost.t = s.frost.t ∧ t.frost.hours = s.frost.hours ∧
      (s.mode = .showroom ∨ (s.defrost.state ≠ .idle ∧ s.defrost.state ≠ .pending) → t.frost.f = s.frost.f) ∧
      (s.mode ≠ .showroom → s.defrost.state = .idle ∨ s.defrost.state = .pending → ∀ m : Nat,
        (m : Int) = s.ambientRh * (s.ambientTemp + 100) / 4000 →
        t.frost.f = min 65535 (s.frost.f + (r / 15 +
          (if s.mode = .sabbath then 0 else 2 * m * (if mz then max dz 4 else dz) + m * (if mr then max dr 8 else dr) / 2) +
          8 * s.frost.h))))

/-- O41. An hour expiry restarts the timer with 3600 s and raises the hour count by 1, up to 65535; an IDLE defrost leaves IDLE when the count has reached 72, or F is at or above T and the gap state is RETRY_OPEN or MIN_GAP with the count at 6 or more, and stays IDLE with the record as it was otherwise. The retry timer's expiry makes the gap state RETRY_OPEN; an IDLE defrost leaves IDLE when F is at or above T, and the rest is as it was otherwise. While the inhibit timer runs a demand taken is held in PENDING. -/
def Obligations.HoursAndRetryGapRaiseDemands : Prop :=
  ∀ (d : Nat) (s : State),
    (s.frost.hourTimer = some d → ∃ t, Does .hourTimerExpiry s t ∧ t.frost.hours = min 65535 (s.frost.hours + 1) ∧
      t.frost.hourTimer = some (max s.now d + 3600000000) ∧ t.frost.f = s.frost.f ∧ t.frost.t = s.frost.t ∧ t.frost.gap = s.frost.gap ∧
      (s.defrost.state = .idle →
        (let due := 72 ≤ min 65535 (s.frost.hours + 1) ∨ (s.frost.t ≤ s.frost.f ∧
          (s.frost.gap = .retryOpen ∨ (s.frost.gap = .minGap ∧ 6 ≤ min 65535 (s.frost.hours + 1))))
         (due → t.defrost.state ≠ .idle ∧ (s.defrost.inhibit ≠ none → t.defrost.state = .pending)) ∧
         (¬ due → t.defrost = s.defrost)))) ∧
    (s.frost.retryTimer = some d →
      (s.defrost.state = .idle → s.frost.t ≤ s.frost.f → ∃ t, Does .retryTimerExpiry s t ∧ t.frost.gap = .retryOpen ∧
        t.frost.retryTimer = none ∧ t.defrost.state ≠ .idle ∧ (s.defrost.inhibit ≠ none → t.defrost.state = .pending)) ∧
      (s.frost.f < s.frost.t ∨ s.defrost.state ≠ .idle →
        Does .retryTimerExpiry s { s.atMoment d with frost := { s.frost with gap := .retryOpen, retryTimer := none } }))

/-- O42. At a COMPLETE report T becomes floor(T 1800 / max(t_eq2, 120)), limited to floor(3T/4) to floor(5T/4) and then clamped to 1200 to 12000; 900 equivalent seconds leave a T in that range as it was, fewer do not lower it and more do not raise it. A TIMED report leaves such a T as it was, an OVERTIME report makes it the greater of 1200 and floor(3T/4) and sets DEFROST_OVERTIME. Each of them sets F and the hour count to 0, restarts the hour timer with 3600 s, makes the gap state MIN_GAP and stops the retry timer. An ABANDONED or ABORTED report makes the gap state RETRY_WAIT, starts the retry timer with 3600 s, and changes nothing else. A WRITE_FROST_INDEX taken before a completion leaves F at 0, one taken after it leaves F at the value written. -/
def Obligations.CompletedDefrostAdaptsTheThreshold : Prop :=
  (∀ (rep : EndReport) (tEq2 : Nat) (s : State),
    let t := s.frostCompleted rep tEq2
    t.frost.f = 0 ∧ t.frost.hours = 0 ∧ t.frost.hourTimer = some (s.now + 3600000000) ∧ t.frost.gap = .minGap ∧
    t.frost.retryTimer = none ∧
    (rep = .complete → t.frost.t =
      max 1200 (min 12000 (max (3 * s.frost.t / 4) (min (5 * s.frost.t / 4) (s.frost.t * 1800 / max tEq2 120)))) ∧
      (1200 ≤ s.frost.t → s.frost.t ≤ 12000 →
        (tEq2 = 1800 → t.frost.t = s.frost.t) ∧ (tEq2 ≤ 1800 → s.frost.t ≤ t.frost.t) ∧ (1800 ≤ tEq2 → t.frost.t ≤ s.frost.t))) ∧
    (1200 ≤ s.frost.t → s.frost.t ≤ 12000 →
      (rep = .timed → t.frost.t = s.frost.t) ∧ (rep = .overtime → t.frost.t = max 1200 (3 * s.frost.t / 4))) ∧
    (rep = .overtime → t.fault.isSet .defrostOvertime = true) ∧
    ∀ v : Nat, v ≤ 65535 →
      ((s.writeFrostIndex v).frostCompleted rep tEq2).frost.f = 0 ∧ (t.writeFrostIndex v).frost.f = v) ∧
  (∀ s : State, s.frostNotCompleted =
    { s with frost := { s.frost with gap := .retryWait, retryTimer := some (s.now + 3600000000) } })

/-- O43. In HOLD_WAIT outside island operation the answer or the speed timer's expiry fails the attempt: a first or second failure leads to PENDING with the hold state NONE, the 600 s hold retry timer and, with room in the queue, RELEASE_COMPRESSOR queued with the next sequence tag, a third, or a later one (DESIGN CHOICE, log entry 41), sets HOLD_REFUSED and leads to PUMP_DOWN, REFUSED. In island operation the answer timer's expiry only stops it and the speed timer's leads to PUMP_DOWN, UNCONFIRMED. A repeat of a hold that is ASKED, HELD or UNCONFIRMED advances the sequence counter, restarts the 60 s timer and, with room in the queue, queues HOLD_COMPRESSOR for 600 s. The hold retry and inhibit timers' expiry starts a hold attempt outside island operation when nothing else holds the demand in PENDING, and else only stops the timer. -/
def Obligations.HoldTimersFailRenewAndRetryTheHold : Prop :=
  ∀ (d : Nat) (s : State),
    (∀ c : Instr, (c = .answerTimerExpiry ∧ s.defrost.answer = some d) ∨ (c = .speedTimerExpiry ∧ s.defrost.speed = some d) →
      s.defrost.state = .holdWait → s.line.island = false → ∃ t, Does c s t ∧
        (s.defrost.attempts < 2 → t.defrost.state = .pending ∧ t.defrost.attempts = s.defrost.attempts + 1 ∧ t.defrost.hold = .none ∧
          t.defrost.holdRetry = some (max s.now d + 600000000) ∧ t.defrost.answer = none ∧ t.defrost.speed = none ∧ t.defrost.renew = none ∧
          t.defrost.seqCounter = s.defrost.seqCounter + 1 ∧ (s.queueOpen → t.line.queue =
            insertFrame (newFrame s.image.compressor 2 (.request 33 0 s.defrost.seqCounter [])) s.line.queue)) ∧
        (2 ≤ s.defrost.attempts → t.fault.isSet .holdRefused = true ∧ t.defrost.state = .pumpDown ∧ t.defrost.hold = .refused ∧
          t.defrost.dwell = some (max s.now d + 60000000) ∧ t.defrost.renew = none)) ∧
    (s.defrost.answer = some d → s.line.island = true ∨ s.defrost.state ≠ .holdWait →
      Does .answerTimerExpiry s { s.atMoment d with defrost := { s.defrost with answer := none } }) ∧
    (s.defrost.speed = some d → s.defrost.state = .holdWait → s.line.island = true → ∃ t, Does .speedTimerExpiry s t ∧
      t.defrost.state = .pumpDown ∧ t.defrost.hold = .unconfirmed ∧ t.defrost.attempts = s.defrost.attempts ∧
      t.defrost.dwell = some (max s.now d + 60000000) ∧ t.fault = s.fault) ∧
    (s.defrost.renew = some d → s.defrost.hold = .asked ∨ s.defrost.hold = .held ∨ s.defrost.hold = .unconfirmed → s.queueOpen →
      let again := newFrame s.image.compressor 2 (.request 32 0 s.defrost.seqCounter [0x58, 0x02])
      Does .repeatTimerExpiry s { s.atMoment d with
        line := { s.line with queue := insertFrame again s.line.queue }
        defrost := { s.defrost with seqCounter := s.defrost.seqCounter + 1, renew := some (max s.now d + 60000000) } }) ∧
    (∀ c : Instr, (c = .holdRetryExpiry ∧ s.defrost.holdRetry = some d ∧ s.defrost.inhibit = none) ∨
        (c = .inhibitTimerExpiry ∧ s.defrost.inhibit = some d ∧ s.defrost.holdRetry = none) →
      s.defrost.state = .pending → s.mode ≠ .showroom → s.classA = false → s.line.island = false → ∃ t, Does c s t ∧
        t.defrost.state = .holdWait ∧ t.defrost.hold = .asked ∧ t.defrost.answered = false ∧
        t.defrost.outstanding = some s.defrost.seqCounter ∧ t.defrost.seqCounter = s.defrost.seqCounter + 1 ∧
        t.defrost.answer = some (max s.now d + 2000000) ∧ t.defrost.speed = some (max s.now d + 180000000) ∧
        t.defrost.renew = some (max s.now d + 60000000)) ∧
    (s.defrost.holdRetry = some d → s.defrost.state ≠ .pending ∨ s.mode = .showroom ∨ s.classA = true ∨ s.defrost.inhibit ≠ none →
      Does .holdRetryExpiry s { s.atMoment d with defrost := { s.defrost with holdRetry := none } }) ∧
    (s.defrost.inhibit = some d → s.defrost.state ≠ .pending ∨ s.mode = .showroom ∨ s.classA = true ∨ s.defrost.holdRetry ≠ none →
      Does .inhibitTimerExpiry s { s.atMoment d with defrost := { s.defrost with inhibit := none } })

/-- O44. At the end of the dwell the defrost is in HEAT_CLAIM with t_eq2 and the heating seconds 0 and the duty FULL, and with nothing held for DH and no class A flag the claim queue has an entry for DH at the full DH current, asked then, without a retry time. At the end of the drip DR is commanded off, the hold state is NONE, the repeat timer stopped, and the defrost is in RECOVERY with the 300 s fan timer, or in IDLE if W6 ended it at once. At the fan timer's end it is IDLE, with the DH class 3 and no refusals counted. At the end of the drip, at a first or second failed hold attempt, at the abort by a class A raise from HOLD_WAIT to DRIP, and at SHOWROOM from HOLD_WAIT to HEAT_CLAIM, the sequence counter advances and RELEASE_COMPRESSOR with its old value is queued where there is room and nothing is held for DH. -/
def Obligations.DwellDripAndFanTimersMoveTheDefrostOn : Prop :=
  ∀ (d : Nat) (s : State),
    let releaseFrame := newFrame s.image.compressor 2 (.request 33 0 s.defrost.seqCounter [])
    (s.defrost.dwell = some d → s.asksFreely .dh → ∃ t e, Does .dwellTimerExpiry s t ∧ t.defrost.state = .heatClaim ∧
      t.defrost.tEq2 = 0 ∧ t.defrost.heatSeconds = 0 ∧ t.defrost.duty = .full ∧ t.defrost.dwell = none ∧
      t.entryOf .dh = some e ∧ e.amps = s.image.dhAmps ∧ e.asked = max s.now d ∧ e.retryAt = none ∧ e.reclaim = false ∧
      t.share.grants = s.share.grants ∧ (t.channel .ef).job = .off) ∧
    (s.defrost.drip = some d → ∃ t, Does .dripTimerExpiry s t ∧ t.defrost.drip = none ∧ (t.channel .dr).job = .off ∧
      t.defrost.hold = .none ∧ t.defrost.renew = none ∧ t.frost = s.frost ∧
      t.defrost.seqCounter = s.defrost.seqCounter + 1 ∧ (s.queueOpen → t.line.queue = insertFrame releaseFrame s.line.queue) ∧
      (t.defrost.state = .recovery ∧ t.defrost.fan = some (max s.now d + 300000000) ∧ (t.channel .ef).job = .off ∨
        t.defrost.state = .idle ∧ t.defrost.fan = none)) ∧
    (s.holdsFor .dh = false → s.queueOpen → ∀ t : State,
      (t = s.failHold ∧ s.defrost.attempts < 2) ∨ (t = s.abortDefrost ∧ s.defrost.state ≠ .idle ∧ s.defrost.state ≠ .pending ∧ s.defrost.state ≠ .recovery) ∨
        (t = s.showroomDefrost ∧ (s.defrost.state = .holdWait ∨ s.defrost.state = .pumpDown ∨ s.defrost.state = .heatClaim)) →
      t.defrost.hold = .none ∧ t.defrost.renew = none ∧ t.defrost.seqCounter = s.defrost.seqCounter + 1 ∧
        t.line.queue = insertFrame releaseFrame s.line.queue) ∧
    (s.defrost.fan = some d → ∃ t, Does .fanTimerExpiry s t ∧ t.defrost.state = .idle ∧ t.defrost.fan = none ∧
      t.share.dhClass = 3 ∧ t.share.dhRefusals = 0 ∧ t.frost = s.frost)

/-- O45. In HEATING a heating second adds 1 to the heating seconds and 2 or 1 to t_eq2 by the duty. Below the limits nothing else changes but the restarted timer. With t_eq2 at 4800 or the heating seconds at 3600, heating ends: DH commanded off and released, F and the hours 0, T the greater of 1200 and three quarters, DEFROST_OVERTIME set, DRIP for 300 s with DR commanded on. Below those, with EVAP substituted and t_eq2 at 2400, it ends in the same way with T as it was. Where both limits are met at one expiry the OVERTIME effect is given; that order is the model's choice (DESIGN CHOICE, log entry 5). -/
def Obligations.HeatingSecondCountsAndEndsHeating : Prop :=
  ∀ (d : Nat) (s : State), s.defrost.heatSecond = some d → s.defrost.state = .heating → 1200 ≤ s.frost.t → s.frost.t ≤ 12000 →
    let q := s.defrost.tEq2 + (match s.defrost.duty with | .full => 2 | .half => 1)
    let n := s.defrost.heatSeconds + 1
    let overtime := 4800 ≤ q ∨ 3600 ≤ n
    let timed := s.substituted .evap = true ∧ 2400 ≤ q
    (¬ overtime → ¬ timed → Does .heatingSecondExpiry s { s.atMoment d with
      defrost := { s.defrost with heatSecond := some (max s.now d + 1000000), heatSeconds := n, tEq2 := q } }) ∧
    (overtime ∨ timed → ∃ t, Does .heatingSecondExpiry s t ∧ t.defrost.state = .drip ∧ t.defrost.heatSecond = none ∧
      t.defrost.drip = some (max s.now d + 300000000) ∧ (t.channel .dh).job = .off ∧ (t.channel .dr).job = .on ∧
      (∀ g ∈ t.share.grants, g.op ≠ some .dh) ∧ t.frost.f = 0 ∧ t.frost.hours = 0 ∧ t.frost.gap = .minGap ∧
      t.frost.hourTimer = some (max s.now d + 3600000000) ∧
      (overtime → t.frost.t = max 1200 (3 * s.frost.t / 4) ∧ t.fault.isSet .defrostOvertime = true) ∧
      (¬ overtime → t.frost.t = s.frost.t))

/-- O46. A good sample of a channel in NORMAL writes the converted temperature to its tag and clears the count. A bad sample leaves the tag's value and adds 1 to the count, up to 3; the third takes NORMAL to HOLDING for 60 s and STARTING to SUBSTITUTED, and sets the channel's fault. Every sample timer restarts with 1 s, and no other channel changes. With the sample timer stopped, a SAMPLE only sets the reading at the pin, for the first sample at the entry to LISTEN (DESIGN CHOICE, log entry 38). The hold's expiry takes HOLDING to SUBSTITUTED and, with no job acting on the channel, writes the substitute to its tag. -/
def Obligations.SamplesAndTheHoldMoveTheirChannel : Prop :=
  ∀ (c : Channel) (raw : BitVec 12) (d : Nat) (s : State),
    let r := s.sensors.get c
    let next := some (max s.now d + 1000000)
    (r.sample = some d → goodSample s.image.table raw.toNat = true → r.state = .normal → ∃ t, Does (.sample c raw) s t ∧
      t.sensors = s.sensors.set c { state := .normal, badCount := 0, hold := none, sample := next } ∧
      t.own c.tag = convert s.image.table raw.toNat ∧ t.fault = s.fault) ∧
    (r.sample = some d → goodSample s.image.table raw.toNat = true → ∃ t, Does (.sample c raw) s t ∧
      t.sensors = s.sensors.set c { state := .normal, badCount := 0, hold := none, sample := next }) ∧
    (r.sample = some d → goodSample s.image.table raw.toNat = false →
      (r.badCount + 1 < 3 ∨ r.state = .holding ∨ r.state = .substituted → ∃ t, Does (.sample c raw) s t ∧
        t.sensors = s.sensors.set c { r with badCount := min 3 (r.badCount + 1), sample := next } ∧ t.store = s.store ∧ t.fault = s.fault) ∧
      (3 ≤ r.badCount + 1 → r.state = .normal → ∃ t, Does (.sample c raw) s t ∧
        t.sensors = s.sensors.set c { state := .holding, badCount := 3, hold := some (max s.now d + 60000000), sample := next } ∧
        t.own c.tag = s.own c.tag ∧ t.fault.isSet c.fault = true) ∧
      (3 ≤ r.badCount + 1 → r.state = .starting → ∃ t, Does (.sample c raw) s t ∧
        t.sensors = s.sensors.set c { r with state := .substituted, badCount := 3, sample := next } ∧
        t.own c.tag = s.own c.tag ∧ t.fault.isSet c.fault = true)) ∧
    (r.hold = some d → r.state = .holding → ∃ t, Does (.channelHoldExpiry c) s t ∧
      t.sensors = s.sensors.set c { r with state := .substituted, hold := none } ∧
      (s.defrost.state ≠ .heating → (∀ m : Mold, (s.mold m).state ≠ .freezing ∧ (s.mold m).state ≠ .harvestHeat) →
        t.own c.tag = s.image.substitutes.get c ∧ t.fault = s.fault)) ∧
    (r.sample = none → Does (.sample c raw) s { s with pins := { s.pins with thermistor := s.pins.thermistor.set c raw } })

/-- O47. For every conversion table whose raw values rise strictly and whose temperatures lie in -500 to 900, a reading equal to a breakpoint's raw value converts to that breakpoint's temperature; and the conversion of every reading by every table lies in -500 to 900. -/
def Obligations.ReadingAtABreakpointIsItsTemperature : Prop :=
  (∀ (table : List (Nat × Int)) (p : Nat × Int), strictRise table = true → (∀ q ∈ table, -500 ≤ q.2 ∧ q.2 ≤ 900) → p ∈ table →
    convert table p.1 = p.2) ∧
  (∀ (table : List (Nat × Int)) (x : Nat), -500 ≤ convert table x ∧ convert table x ≤ 900)

/-- O48. In LISTEN or RUN a new raw level of a switch input starts that input's timer (bin 2 s, home and paddle 20 ms, leak 5 s, cutout 200 ms) when it differs from the qualified level, and stops it when it is the qualified level again; nothing else changes but the pin. Before LISTEN the pin alone changes. -/
def Obligations.SwitchChangesStartAndStopTheirTimers : Prop :=
  ∀ (b : Bool) (m : Mold) (s : State),
    let wait := fun (q : Qualified) (time : Nat) => ({ q with timer := if b = q.level then none else some (s.now + time) } : Qualified)
    (s.listening = true →
      (s.pins.bin ≠ b → Does (.binInputChange b) s
        { s with pins := { s.pins with bin := b }, switches := { s.switches with bin := wait s.switches.bin 2000000 } }) ∧
      (s.pins.home.get m ≠ b → Does (.homeSwitchChange m b) s
        { s with
          pins := { s.pins with home := s.pins.home.set m b }
          switches := { s.switches with home := s.switches.home.set m (wait (s.switches.home.get m) 20000) } }) ∧
      (s.pins.leak ≠ b → Does (.leakInputChange b) s
        { s with pins := { s.pins with leak := b }, switches := { s.switches with leak := wait s.switches.leak 5000000 } }) ∧
      (s.pins.cutout ≠ b → Does (.cutoutInputChange b) s
        { s with pins := { s.pins with cutout := b }, switches := { s.switches with cutout := wait s.switches.cutout 200000 } }) ∧
      (s.pins.paddle ≠ b → Does (.paddleLineChange b) s
        { s with pins := { s.pins with paddle := b }, switches := { s.switches with paddle := wait s.switches.paddle 20000 } })) ∧
    (s.listening = false →
      exec (.binInputChange b) s = .next { s with pins := { s.pins with bin := b } } ∧
      exec (.homeSwitchChange m b) s = .next { s with pins := { s.pins with home := s.pins.home.set m b } } ∧
      exec (.leakInputChange b) s = .next { s with pins := { s.pins with leak := b } } ∧
      exec (.cutoutInputChange b) s = .next { s with pins := { s.pins with cutout := b } } ∧
      exec (.paddleLineChange b) s = .next { s with pins := { s.pins with paddle := b } })

/-- O49. At a switch timer's expiry the qualified level is the raw level, the timer stopped; no other switch changes. A wet leak sensor sets LEAK, a cutout OVERTEMP. A home switch of a mold in EJECT, not suspended: a leave sets leave seen; a return with leave seen completes the harvest: heater and ejector off, stall count and heater seconds 0, not short, the fill target owed, attempt 1, one more harvest counted, at most 2. A NOT_FULL bin takes a mold in HARVEST_PENDING with no other hold out of it, Mold A before Mold B (log entry 46); a FULL bin leaves it there. A paddle line sets the line hold to its level under LEVEL_LOW and toggles it at a falling or a rising edge under FALLING or RISING. Where it becomes present under source select LINE or EITHER, with the path IDLE, SETTLING or FILLING in RUN outside SHOWROOM, a dispense of the line's starts: 2000 mL, or 300 under the cap, DV commanded through P0, 120 s, a current fill held; LOCKED, SHOWROOM or before RUN it starts none, and FALLING and RISING set it absent again. Where it becomes absent, a dispense with no hold left stops into SETTLING. What follows the switch in the layers is resolved first (DESIGN CHOICE, log entry 42). -/
def Obligations.SwitchTimersSetTheQualifiedLevel : Prop :=
  ∀ (d : Nat) (m : Mold) (s : State),
    (s.switches.bin.timer = some d → ∃ t, Does .binTimerExpiry s t ∧
      t.switches = { s.switches with bin := { level := s.pins.bin, timer := none } } ∧
      ((s.mold m).state = .harvestPending → s.pins.bin = true → (t.mold m).state = .harvestPending) ∧
      (let u := State.resolve (State.reportConditions
         { s.atMoment d with switches := { s.switches with bin := { level := s.pins.bin, timer := none } } })
       (s.mold m).state = .harvestPending → u.harvestHeld = false → (m = .b → (u.holdTestMold .a).harvestHeld = false) →
         (t.mold m).state ≠ .harvestPending)) ∧
    ((s.switches.home.get m).timer = some d → ∃ t, Does (.homeTimerExpiry m) s t ∧
      t.switches = { s.switches with home := s.switches.home.set m { level := s.pins.home.get m, timer := none } } ∧
      ((s.mold m).state = .eject → (s.mold m).suspended = false →
        (s.pins.home.get m = false → (t.mold m).leaveSeen = true ∧ (t.mold m).state = .eject) ∧
        (s.pins.home.get m = true → (s.mold m).leaveSeen = true →
          ((t.mold m).state = .fillWait ∨ (t.mold m).state = .filling) ∧ (t.mold m).stalls = 0 ∧ (t.mold m).heatSeconds = 0 ∧
          (t.mold m).short = false ∧ (t.mold m).owed = s.image.fillTargetMl * 256 ∧ (t.mold m).attempt = 1 ∧ (t.mold m).eject = none ∧
          (t.channel m.heater).job = .off ∧ (t.channel m.ejector).job = .off ∧ t.frost.h = min 2 (s.frost.h + 1)))) ∧
    (s.switches.leak.timer = some d → ∃ t, Does .leakTimerExpiry s t ∧
      t.switches = { s.switches with leak := { level := s.pins.leak, timer := none } } ∧
      (s.pins.leak = true → t.fault.isSet .leak = true)) ∧
    (s.switches.cutout.timer = some d → ∃ t, Does .cutoutTimerExpiry s t ∧
      t.switches = { s.switches with cutout := { level := s.pins.cutout, timer := none } } ∧
      (s.pins.cutout = true → t.fault.isSet .overtemp = true)) ∧
    (s.switches.paddle.timer = some d → ∃ t, Does .paddleTimerExpiry s t ∧
      t.switches = { s.switches with paddle := { level := s.pins.paddle, timer := none } } ∧
      (s.image.edge = .levelLow → s.image.source = .panel → t.water.lineHold = s.pins.paddle) ∧
      (let low := s.pins.paddle
       let u := State.resolve { s.atMoment d with switches := { s.switches with paddle := { level := low, timer := none } } }
       let hold := fun (b : Bool) => ({ u with water := { u.water with lineHold := b } } : State)
       let level := s.image.edge = .levelLow
       let toggles := (s.image.edge = .falling ∧ low = true) ∨ (s.image.edge = .rising ∧ low = false)
       let begins := (level ∧ low = true) ∨ (toggles ∧ u.water.lineHold = false)
       let ends := (level ∧ low = false) ∨ (toggles ∧ u.water.lineHold = true)
       let lineStarts := s.image.source = .line ∨ s.image.source = .either
       let starts := u.running = true ∧ u.mode ≠ .showroom ∧ u.water.path ≠ .dispensing ∧ u.water.path ≠ .locked
       (¬ begins → ¬ ends → t = u) ∧
       (begins → ¬ lineStarts ∨ u.water.path = .dispensing → t = hold true) ∧
       (begins → lineStarts → u.water.path ≠ .dispensing → ¬ starts → t = hold (s.image.edge == .levelLow)) ∧
       (begins → lineStarts → starts → t.water.path = .dispensing ∧ t.water.lineHold = true ∧ t.water.settling = none ∧
         t.water.dispenseLimit = some (t.now + 120000000) ∧ (t.channel .dv).job = .pattern 0 ∧ t.own .dispensedVolume = 0 ∧
         (∃ p, t.water.dispense = some p ∧ p.owner = .line ∧ p.counted = 0 ∧ p.panelHold = false ∧
           p.limit = (if p.capped then 76800 else 512000) ∧
           (u.water.path ≠ .filling → p.capped = u.whileApplies .limitDispense)) ∧
         ∀ f, u.water.path = .filling → u.water.current = some f → t.water.current = none ∧
           t.water.held = some { f with openMs := u.fillOpenMs } ∧ (t.channel f.mold.valve).job = .off) ∧
       (ends → ∀ p, u.water.dispense = some p →
         let remains := p.panelHold = true ∧ (s.image.source = .panel ∨ s.image.source = .either)
         (u.water.path ≠ .dispensing ∨ remains → t = hold false) ∧
         (u.water.path = .dispensing → ¬ remains → t.water.path = .settling ∧ t.water.dispense = none ∧
           t.water.lineHold = false ∧ t.water.settling = some (t.now + 3000000) ∧ (t.channel .dv).job = .off ∧
           t.own .dispensedVolume = min 2000 (p.counted / 256 : Nat))) ∧
       (ends → u.water.dispense = none → t = hold false)))

/-- O50. At the expiry of its delay timer a point in MAKING is ACTIVE, one in BREAKING is INACTIVE, the timer stopped. Unforced, the entry to ACTIVE then stands on the agenda as what follows (DESIGN CHOICE, log entry 2); forced, or at an end of BREAKING, nothing follows. A point that hears a change of its source while it holds (source invalid or threshold unknown) keeps condition and state and pauses a running timer with its remaining time. Otherwise it resumes a paused timer and sets the condition by R18, with the break level the hysteresis inside the threshold; a condition that stays leaves the state; one that becomes TRUE takes INACTIVE to MAKING for the make delay, or to ACTIVE for a delay of 0, and BREAKING to ACTIVE; one that becomes FALSE takes MAKING and INHIBITED to INACTIVE, and ACTIVE to LATCHED with latch, else to BREAKING for the break delay, or to INACTIVE for 0. A change of a valid reference makes the threshold known: reference plus offset, within the range of the source's type; an invalid one leaves it. Nothing else changes but the agenda. -/
def Obligations.WatchDelayMovesItsPoint : Prop :=
  ∀ (i : Fin 16) (d : Nat) (s : State),
    let w := s.watch[i]
    let cfg := s.image.watch[i]
    (let after := fun (c : Computed) (g : List Signal) =>
       { s.atMoment d with watch := s.watch.set i { w with computed := c, delay := .stopped }, agenda := s.agenda ++ g }
     w.delay = .running d →
      (w.computed = .making → w.forced = .none → Does (.watchDelayExpiry i) s (after .active [.watchEntered i])) ∧
      (w.computed = .making → w.forced ≠ .none → Does (.watchDelayExpiry i) s (after .active [])) ∧
      (w.computed = .breaking → Does (.watchDelayExpiry i) s (after .inactive []))) ∧
    (∀ src : Source, cfg.source = some src → cfg.reference ≠ some src →
      let t := s.hear src i
      let paused : DelayTimer := match w.delay with | .running e => .paused (e - s.now) | delay => delay
      let resumed : DelayTimer := match w.delay with | .paused r => .running (s.now + r) | delay => delay
      (s.sourceValue src = none ∨ (cfg.tracking ≠ none ∧ w.known = false) →
        t = { s with watch := s.watch.set i { w with delay := paused } }) ∧
      (∀ v : Int, s.sourceValue src = some v → cfg.tracking = none ∨ w.known = true →
        let level := if cfg.tracking = none then cfg.threshold else w.threshold
        let trips := match cfg.sense with | .above => level < v | .below => v < level
        let breaks := match cfg.sense with | .above => v ≤ level - cfg.hysteresis | .below => level + cfg.hysteresis ≤ v
        let makes := w.condition ≠ .isTrue ∧ trips
        let ends := (w.condition = .isTrue ∧ breaks) ∨ (w.condition = .unknown ∧ ¬ trips)
        t = { s with watch := t.watch, agenda := t.agenda } ∧ (∀ k : Fin 16, k ≠ i → t.watch[k] = s.watch[k]) ∧
        (¬ makes → ¬ ends → t.watch[i] = { w with delay := resumed }) ∧
        (makes → t.watch[i].condition = .isTrue ∧
          (w.computed = .inactive → cfg.makeDelay = 0 → t.watch[i].computed = .active) ∧
          (w.computed = .inactive → cfg.makeDelay ≠ 0 →
            t.watch[i].computed = .making ∧ t.watch[i].delay = .running (s.now + cfg.makeDelay * 1000000)) ∧
          (w.computed = .breaking → t.watch[i].computed = .active ∧ t.watch[i].delay = .stopped) ∧
          (w.computed ≠ .inactive → w.computed ≠ .breaking → t.watch[i] = { w with condition := .isTrue, delay := resumed })) ∧
        (ends → t.watch[i].condition = .isFalse ∧
          (w.computed = .making → t.watch[i].computed = .inactive ∧ t.watch[i].delay = .stopped) ∧
          (w.computed = .inhibited → t.watch[i].computed = .inactive) ∧
          (w.computed = .active → cfg.latch = true → t.watch[i].computed = .latched) ∧
          (w.computed = .active → cfg.latch = false → cfg.breakDelay = 0 → t.watch[i].computed = .inactive) ∧
          (w.computed = .active → cfg.latch = false → cfg.breakDelay ≠ 0 →
            t.watch[i].computed = .breaking ∧ t.watch[i].delay = .running (s.now + cfg.breakDelay * 1000000)) ∧
          (w.computed ≠ .making → w.computed ≠ .inhibited → w.computed ≠ .active →
            t.watch[i] = { w with condition := .isFalse, delay := resumed })))) ∧
    (∀ (src q : Source) (tr : Tracking), cfg.tracking = some tr → tr.reference = some src → cfg.source = some q →
      let t := s.hear src i
      (∀ v : Int, s.sourceValue src = some v → t.watch[i].known = true ∧ t.watch[i].threshold =
        (if q.signed then max (-32768) (min 32767 (v + tr.offset)) else max 0 (min 65535 (v + tr.offset)))) ∧
      (s.sourceValue src = none → t.watch[i].known = w.known ∧ t.watch[i].threshold = w.threshold))

/-- O51. A pulse in RUN with a valve open is a metering step of K, an expiry of the estimate timer one of R. With DV open in DISPENSING it adds to the counted volume and DISPENSED_VOLUME follows; at the effective limit the dispense stops into SETTLING. With the current fill's valve open in FILLING it lowers the owed volume; at 0 the fill ends FULL. The draw counter takes it modulo 10 mL while the delivery goes on, each full 10 mL mixed into T_res, and the rest of it when the delivery ends. A pulse with the commanded valve open joins the pulse history of the last 2 s, sets R to a twentieth of their volume once the opening has lasted 2 s, leaves it before, and restarts the 3 s silence timer. A pulse with every valve closed counts nothing while the watch is not armed; while it is, it adds K to the closed volume and restarts the 2 s hold; at 5120 RUNAWAY is set and the volume is 0. Before RUN a pulse does nothing. The silence timer sets FLOW_SILENT and ESTIMATED, the all-closed timer arms the watch, the hold timer only stops. -/
def Obligations.MeteringStepsCountTheWater : Prop :=
  ∀ (d : Nat) (s : State),
    (∀ (c : Instr) (v : Nat), (c = .meterPulse ∧ s.running = true ∧ s.anyValveOpen = true ∧ v = s.image.meterK) ∨
        (c = .estimateTimerExpiry ∧ s.water.estimate = some d ∧ v = s.water.rate) →
      let mix := fun (temp : Int) (volume : Nat) => temp + roundHalfUp ((s.image.tIn - temp) * volume) (256 * s.image.vRes)
      let mixed := (List.range ((s.water.draw + v) / 2560)).foldl (fun temp _ => mix temp 2560) s.water.tRes
      let metered := fun (t : State) => c = .meterPulse → s.meteredValve ≠ none →
        t.water.pulses = s.now :: s.water.pulses.filter (fun x => decide (s.now < x + 2000000)) ∧
        t.water.rate = (if s.water.openedAt + 2000000 ≤ s.now then t.water.pulses.length * s.image.meterK / 20 else s.water.rate) ∧
        t.water.silence = some (s.now + 3000000) ∧ t.water.estimated = false
      (∀ p, s.water.path = .dispensing → s.water.dispense = some p → s.isOn .dv = true →
        (p.counted + v < p.limit → ∃ t, Does c s t ∧ t.water.path = .dispensing ∧
          t.water.dispense = some { p with counted := p.counted + v } ∧ t.own .dispensedVolume = min 2000 ((p.counted + v) / 256 : Nat) ∧
          t.water.draw = (s.water.draw + v) % 2560 ∧ t.water.tRes = mixed ∧ metered t ∧ t.out = s.out ∧ t.ice = s.ice) ∧
        (p.limit ≤ p.counted + v → ∃ t, Does c s t ∧ t.water.path = .settling ∧ t.water.dispense = none ∧
          t.own .dispensedVolume = min 2000 ((p.counted + v) / 256 : Nat) ∧ t.water.draw = 0 ∧
          t.water.tRes = mix mixed ((s.water.draw + v) % 2560) ∧ (t.channel .dv).job = .off ∧ t.water.dispenseLimit = none)) ∧
      (∀ f, s.water.path = .filling → s.water.current = some f → s.isOn f.mold.valve = true →
        (v < f.owed → ∃ t, Does c s t ∧ t.water.path = .filling ∧ t.water.current = some { f with owed := f.owed - v } ∧
          t.water.draw = (s.water.draw + v) % 2560 ∧ t.water.tRes = mixed ∧ metered t ∧ t.out = s.out ∧ t.ice = s.ice) ∧
        (f.owed ≤ v → s.water.held = none → s.water.queue = [] → ∃ t, Does c s t ∧ t.water.path = .idle ∧ t.water.current = none ∧
          t.water.draw = 0 ∧ (t.channel f.mold.valve).job = .off ∧ (t.mold f.mold).short = false ∧
          (t.mold f.mold).state = .freezing))) ∧
    (s.running = true → s.anyValveOpen = false →
      let u := { s with water := { s.water with estimated := false, estimate := if s.water.estimated then none else s.water.estimate } }
      let held := { u with water := { u.water with closedVolume := s.water.closedVolume + s.image.meterK, runawayHold := some (s.now + 2000000) } }
      (s.water.armed = false → Does .meterPulse s u) ∧
      (s.water.armed = true → s.water.closedVolume + s.image.meterK < 5120 → Does .meterPulse s held) ∧
      (s.water.armed = true → 5120 ≤ s.water.closedVolume + s.image.meterK → s.fault.isSet .runaway = false → ∃ t,
        Does .meterPulse s t ∧ t.fault.isSet .runaway = true ∧ t.water.closedVolume = 0 ∧
        t.water.runawayHold = some (s.now + 2000000) ∧ t.water.path = .locked)) ∧
    (s.running = false → Does .meterPulse s s) ∧
    (s.water.silence = some d → ∃ t, Does .silenceTimerExpiry s t ∧ t.fault.isSet .flowSilent = true ∧ t.water.estimated = true ∧
      t.water.silence = none ∧ t.water.estimate = (if s.meteredValve.isSome then some (max s.now d + 100000) else none) ∧
      t.water.dispense = s.water.dispense ∧ t.water.current = s.water.current ∧ t.out = s.out) ∧
    (s.water.allClosed = some d → Does .allClosedExpiry s
      { s.atMoment d with water := { s.water with allClosed := none, closedVolume := 0, armed := true } }) ∧
    (s.water.runawayHold = some d → Does .runawayHoldExpiry s { s.atMoment d with water := { s.water with runawayHold := none } })

/-- O52. At the fill limit the current fill ends: nothing owed or at least a quarter of the target delivered puts its mold in FREEZING, with the short flag clear or set; less, at the first attempt, in FILL_WAIT with attempt 2, the owed volume and the 60 s fill retry timer; less, at the second, OUT_OF_SERVICE with NO_WATER. With no fill held or queued the path is IDLE, its valve off; with none held the head of the queue opens at once where fills are allowed. At the dispense limit the dispense stops: DV off, DISPENSED_VOLUME written, the draw counter 0, SETTLING for 3 s. At the end of SETTLING the held fill, else the head of the queue, opens where fills are allowed; otherwise the path is IDLE. -/
def Obligations.LimitsAndSettlingEndDeliveries : Prop :=
  ∀ (d : Nat) (f g : Fill) (rest : List Fill) (p : Dispense) (s : State),
    (s.water.fillLimit = some d → s.water.current = some f →
      let target := s.image.fillTargetMl * 256
      ∃ t, Does .fillLimitExpiry s t ∧
        (s.water.held = none → s.water.queue = [] → t.water.path = .idle ∧ t.water.current = none ∧ t.water.fillLimit = none ∧
          t.water.draw = 0 ∧ (t.channel f.mold.valve).job = .off ∧
          (f.owed = 0 → (t.mold f.mold).state = .freezing ∧ (t.mold f.mold).short = false) ∧
          (0 < f.owed → target ≤ 4 * (target - f.owed) → (t.mold f.mold).state = .freezing ∧ (t.mold f.mold).short = true) ∧
          (0 < f.owed → 4 * (target - f.owed) < target → f.attempt = 1 → (t.mold f.mold).state = .fillWait ∧
            (t.mold f.mold).owed = f.owed ∧ (t.mold f.mold).attempt = 2 ∧
            (t.mold f.mold).fillRetry = some (max s.now d + 60000000)) ∧
          (0 < f.owed → 4 * (target - f.owed) < target → f.attempt ≠ 1 → (t.mold f.mold).state = .outOfService ∧
            t.fault.isSet .noWater = true)) ∧
        (s.mayFill → s.water.held = none → s.water.queue = { g with openMs := 0 } :: rest → t.water.path = .filling ∧
          t.water.current = some { g with openMs := 0 } ∧ t.water.queue = rest ∧ (t.channel g.mold.valve).job = .pattern 0)) ∧
    (s.water.dispenseLimit = some d → s.water.dispense = some p → ∃ t, Does .dispenseLimitExpiry s t ∧ t.water.path = .settling ∧
      t.water.settling = some (max s.now d + 3000000) ∧ t.water.dispense = none ∧ t.water.dispenseLimit = none ∧
      t.water.draw = 0 ∧ (t.channel .dv).job = .off ∧ t.own .dispensedVolume = min 2000 (p.counted / 256 : Nat) ∧
      t.water.queue = s.water.queue ∧ t.water.held = s.water.held ∧
      (s.image.edge ≠ .levelLow → t.water.lineHold = false)) ∧
    (s.water.settling = some d →
      (s.mayFill → s.water.held = some f → ∃ t, Does .settlingTimerExpiry s t ∧ t.water.path = .filling ∧ t.water.settling = none ∧
        t.water.held = none ∧ t.water.current = some f ∧ t.water.queue = s.water.queue ∧
        t.water.fillLimit = some (max s.now d + (15000 - f.openMs) * 1000) ∧ (t.channel f.mold.valve).job = .pattern 0) ∧
      (s.mayFill → s.water.held = none → s.water.queue = g :: rest → ∃ t, Does .settlingTimerExpiry s t ∧ t.water.path = .filling ∧
        t.water.current = some { g with openMs := 0 } ∧ t.water.queue = rest ∧
        t.water.fillLimit = some (max s.now d + 15000000) ∧ (t.channel g.mold.valve).job = .pattern 0) ∧
      (¬ s.mayFill ∨ (s.water.held = none ∧ s.water.queue = []) → ∃ t, Does .settlingTimerExpiry s t ∧ t.water.path = .idle ∧
        t.water.settling = none ∧ t.water.queue = s.water.queue ∧ t.water.held = s.water.held))

/-- O53. At each expiry of the relaxation timer, in every path state and mode, the timer restarts with 60 s and T_res, within 0 to T_in with T_in at least 150, changes by trunc((T_fr − T_res)/32), or by 1 towards T_fr when that is 0 and they differ, T_fr being the door reporter's FRIDGE_AIR_TEMP clamped to 0 to 150, or 40 when invalid. It does not pass T_fr and stays within 0 to T_in. RESERVOIR_EST is written, and nothing else changes but what the watch unit makes of that write. The step acts on the T_res it finds, so a mixing step in the same event may stand on either side of it. -/
def Obligations.RelaxationMovesTheReservoirTowardsTheFridge : Prop :=
  ∀ (d : Nat) (s : State), s.water.relaxation = some d → 0 ≤ s.water.tRes → s.water.tRes ≤ s.image.tIn → 150 ≤ s.image.tIn →
    let tFr : Int := match s.peer s.image.doorReporter 0x06 with | some v => max 0 (min 150 v) | none => 40
    let change := (tFr - s.water.tRes).tdiv 32
    let next := if change ≠ 0 then s.water.tRes + change
      else if s.water.tRes < tFr then s.water.tRes + 1 else if tFr < s.water.tRes then s.water.tRes - 1 else s.water.tRes
    Does .relaxationExpiry s
      (State.write
        { s.atMoment d with water := { s.water with relaxation := some (max s.now d + 60000000), tRes := next } }
        .reservoirEst next) ∧
    (s.water.tRes ≤ tFr → s.water.tRes ≤ next ∧ next ≤ tFr) ∧ (tFr ≤ s.water.tRes → tFr ≤ next ∧ next ≤ s.water.tRes) ∧
    0 ≤ next ∧ next ≤ s.image.tIn

/-- O54. For a mold whose state tag agrees with its record: the fill retry timer puts its fill, unknown before, at the end of the fill queue; the freeze timer that counts, with the freeze point active while the channel is good, ends FREEZING with both timers stopped, in HARVEST_PENDING under a full bin, and any other freeze timer only stops; a heater second in HARVEST_HEAT adds 1 and restarts, and enters EJECT (leave seen unless HOME, heater on, ejector by pattern 2, 30 s) when the release point is active, the seconds reach 180, or 150 while substituted, or the harvest resumes from EJECT; the eject timer stalls the mold: heater, ejector and grant off, STALL_WAIT for 120 s, or from the second stall OUT_OF_SERVICE with EJECTOR_STALL; the stall wait timer asks anew in HARVEST_CLAIM. The auger's run timer ends RUNNING: AUG off and released, IDLE. -/
def Obligations.MoldAndAugerTimersMoveTheirUnit : Prop :=
  ∀ (d : Nat) (m : Mold) (s : State), s.tagAgrees m →
    let r := s.mold m
    let only := fun (r' : MoldRecord) => { s.atMoment d with ice := { s.ice with molds := s.ice.molds.set m r' } }
    (r.fillRetry = some d → s.fillKnown m = false → s.water.path ≠ .idle → ∃ t, Does (.fillRetryExpiry m) s t ∧
      t.water.queue = s.water.queue ++ [{ mold := m, owed := r.owed, attempt := r.attempt, openMs := 0 }] ∧
      t.mold m = { r with fillRetry := none } ∧ t.water.path = s.water.path ∧ t.out = s.out) ∧
    (r.fillRetry = some d → s.fillKnown m = true → Does (.fillRetryExpiry m) s (only { r with fillRetry := none })) ∧
    (r.fillRetry = some d → s.mayFill → s.water.path = .idle → s.water.held = none → s.water.queue = [] → s.water.current = none →
      ∃ t, Does (.fillRetryExpiry m) s t ∧ t.water.path = .filling ∧
        t.water.current = some { mold := m, owed := r.owed, attempt := r.attempt, openMs := 0 } ∧
        (t.channel m.valve).job = .pattern 0 ∧ (r.state = .fillWait → (t.mold m).state = .filling)) ∧
    (∀ c : Instr, (c = .leastFreezeExpiry m ∧ r.leastFreeze = some d ∧ s.substituted m.channel = false ∧ s.watchActive m.freezePoint = true) ∨
        (c = .timedFreezeExpiry m ∧ r.timedFreeze = some d ∧ s.substituted m.channel = true) →
      s.running = true → r.state = .freezing → ∃ t, Does c s t ∧ (t.mold m).state ≠ .freezing ∧ (t.mold m).leastFreeze = none ∧
        (t.mold m).timedFreeze = none ∧ (s.switches.bin.level = true → (t.mold m).state = .harvestPending)) ∧
    (r.leastFreeze = some d → s.running = false ∨ r.state ≠ .freezing ∨
        (s.substituted m.channel = false ∧ s.watchActive m.freezePoint = false) ∨
        (s.substituted m.channel = true ∧ r.timedFreeze ≠ none) →
      Does (.leastFreezeExpiry m) s (only { r with leastFreeze := none })) ∧
    (r.timedFreeze = some d → s.running = false ∨ r.state ≠ .freezing ∨
        (s.substituted m.channel = false ∧ (r.leastFreeze ≠ none ∨ s.watchActive m.freezePoint = false)) →
      Does (.timedFreezeExpiry m) s (only { r with timedFreeze := none })) ∧
    (r.heatSecond = some d → r.state = .harvestHeat → r.suspended = false →
      let n := r.heatSeconds + 1
      let ends := (if s.substituted m.channel then 150 ≤ n else s.watchActive m.releasePoint = true ∨ 180 ≤ n) ∨ r.resumeEject = true
      (¬ ends → Does (.heaterSecondExpiry m) s (only { r with heatSecond := some (max s.now d + 1000000), heatSeconds := n })) ∧
      (ends → ∃ t, Does (.heaterSecondExpiry m) s t ∧ (t.mold m).state = .eject ∧ (t.mold m).heatSeconds = n ∧
        (t.mold m).leaveSeen = !(s.switches.home.get m).level ∧ (t.mold m).eject = some (max s.now d + 30000000) ∧
        (t.mold m).heatSecond = none ∧ (t.channel m.heater).job = .on ∧ (t.channel m.ejector).job = .pattern 2)) ∧
    (r.eject = some d → ∃ t, Does (.ejectTimerExpiry m) s t ∧ (t.channel m.heater).job = .off ∧ (t.channel m.ejector).job = .off ∧
      (∀ g ∈ t.share.grants, g.op ≠ some m.op) ∧ (t.mold m).heatSeconds = 0 ∧ (t.mold m).eject = none ∧
      (t.mold m).stalls = r.stalls + 1 ∧
      (r.stalls = 0 → (t.mold m).state = .stallWait ∧ (t.mold m).stallWait = some (max s.now d + 120000000)) ∧
      (r.stalls ≠ 0 → (t.mold m).state = .outOfService ∧ t.fault.isSet .ejectorStall = true)) ∧
    (r.stallWait = some d → s.asksFreely m.op → ∃ t e, Does (.stallWaitExpiry m) s t ∧ (t.mold m).state = .harvestClaim ∧
      (t.mold m).stallWait = none ∧ t.entryOf m.op = some e ∧ e.amps = s.image.ampsOf m.op ∧ e.asked = max s.now d ∧
      e.cls = 2 ∧ e.retryAt = none ∧ e.reclaim = false ∧ t.share.grants = s.share.grants ∧ t.out = s.out) ∧
    (s.ice.runTimer = some d → s.ice.auger = .running → ∃ t, Does .augerRunExpiry s t ∧ t.ice.auger = .idle ∧ t.ice.runTimer = none ∧
      (t.channel .aug).job = .off ∧ (∀ g ∈ t.share.grants, g.op ≠ some .aug) ∧ t.ice.molds = s.ice.molds)

/-- O55. At a phase timer's expiry the generator passes from PULL_IN or an off phase to an on phase of floor(period on-time/100) ms, and from an on phase to an off phase of the rest of the period; a phase of 0 ms is passed over. Nothing else changes. At the expiry of the notice repeat timer with a class A flag set and room in the queue, a NOTICE of frame class 0 with the code of the highest-priority class A flag and fault class 1 is queued, in the place of a waiting NOTICE if there is one, and the timer restarts with 10 s; with none set it only stops. -/
def Obligations.PhaseTimersAndNoticeRepeats : Prop :=
  ∀ (d : Nat) (n : Fin 4) (s : State),
    (s.out.gens[n].timer = some d → s.out.gens[n].phase ≠ .idle →
      let p := s.image.gens[n]
      let on := p.period * p.onTime / 100
      let now := max s.now d
      let gen : Generator :=
        if s.out.gens[n].phase = .onPhase ∧ p.period - on ≠ 0 ∨ on = 0 ∧ p.period ≠ 0
        then { phase := .offPhase, timer := some (now + (p.period - on) * 1000) }
        else { phase := .onPhase, timer := some (now + on * 1000) }
      Does (.phaseTimerExpiry n) s { s.atMoment d with out := { s.out with gens := s.out.gens.set n gen } }) ∧
    (s.fault.noticeTimer = some d → s.classA = true → s.queueOpen →
      ∀ f : FaultId, f.isA = true → s.fault.isSet f = true → (∀ g : FaultId, g.isA = true → g.code < f.code → s.fault.isSet g = false) →
      let others := s.line.queue.filter fun g => !(g.isNotice && !g.sending)
      let again := newFrame 15 0 (.notice (BitVec.ofNat 8 f.code) 1)
      Does .noticeRepeatExpiry s { s.atMoment d with
        line := { s.line with queue := insertFrame again others }
        fault := { s.fault with noticeTimer := some (max s.now d + 10000000) } }) ∧
    (s.fault.noticeTimer = some d → (∀ f : FaultId, f.isA = true → s.fault.isSet f = false) →
      Does .noticeRepeatExpiry s { s.atMoment d with fault := { s.fault with noticeTimer := none } })

/-- O56. A new raise of a class A fault, in every state: its flag is set, no load has a claim, a grant or a suspension left and a claim in flight is cancelled, the water path is LOCKED, the auger IDLE, no mold is in a harvest, the defrost is in IDLE, PENDING or RECOVERY, the eight outputs of the SAFETY layer are off, LAST_EVENT is 0x80 plus the fault's code and the 10 s notice repeat timer runs. The detail record captures the fault and the circumstances as they stood before the raise when it was absent, held a class B fault or one of class A of lower priority, and stays as it was otherwise. A new raise of a class B fault sets its flag, writes LAST_EVENT and captures only into an absent record. A raise of a class A fault already set writes LAST_EVENT alone. A leak sensor that becomes wet at its timer's expiry makes a raise of LEAK, an open cutout one of OVERTEMP, before the outputs are resolved for what follows the sensor (DESIGN CHOICE, log entry 34). -/
def Obligations.ClassARaiseReleasesLocksAndSwitchesOff : Prop :=
  ∀ (f : FaultId) (d : Nat) (s : State),
    let captured : Detail :=
      { fault := f, seconds := s.secondsSinceStart, defrost := s.own .defrostState, moldA := s.own .moldAState
        moldB := s.own .moldBState, path := s.own .waterPathState, f := s.frost.f, lastEvent := s.own .lastEvent }
    (f.isA = true → s.fault.isSet f = false →
      let t := s.raiseA f
      t.fault.record = (match s.fault.record with
        | none => some captured
        | some r => if r.fault.isA = false ∨ f.code < r.fault.code then some captured else some r) ∧
      t.fault.isSet f = true ∧ t.released ∧ t.water.path = .locked ∧ t.ice.auger = .idle ∧
      (∀ m : Mold, (t.mold m).state.inHarvest = false) ∧
      (t.defrost.state = .idle ∨ t.defrost.state = .pending ∨ t.defrost.state = .recovery) ∧
      (∀ o : Output, o.hasSafety = true → t.isOn o = false) ∧ t.own .lastEvent = 0x80 + f.code ∧
      t.fault.noticeTimer = some (s.now + 10000000) ∧ t.frost.t = s.frost.t ∧ t.view = s.view ∧ t.mode = s.mode) ∧
    (f.isA = false → s.fault.isSet f = false →
      let t := s.raiseB f
      t.fault.isSet f = true ∧ t.own .lastEvent = 0x80 + f.code ∧ t.out = s.out ∧ t.share = s.share ∧
      t.fault.record = (match s.fault.record with | none => some captured | some r => some r)) ∧
    (f.isA = true → s.fault.isSet f = true → s.raiseA f = s.write .lastEvent (0x80 + f.code)) ∧
    (s.switches.leak.timer = some d → s.pins.leak = true → Does .leakTimerExpiry s (State.resolve (State.raiseA
      { s.atMoment d with switches := { s.switches with leak := { level := true, timer := none } } } .leak))) ∧
    (s.switches.cutout.timer = some d → s.pins.cutout = true → Does .cutoutTimerExpiry s (State.resolve (State.raiseA
      { s.atMoment d with switches := { s.switches with cutout := { level := true, timer := none } } } .overtemp)))

/-- O57. The first failing check decides: NOT_READY before RUN; BAD_KIND outside kinds 1 to 16; BAD_ARGUMENT for a wrong number of argument bytes or a condition code above 14; NOT_PERMITTED for a kind of the panel alone from another station; REFUSED_MODE by Table 10-4; CONDITION_FALSE. A request turned away is answered with that code, CLEAR_FAULT with its four flag bytes too, and has no other effect than that of a frame heard; this is all a request of an unknown kind does. A broadcast of a kind other than SET_MODE and PUBLISH_NOW, or one that fails a check, is only heard. -/
def Obligations.RequestsPassTheirChecksInOrder : Prop :=
  (∀ (kind : Nat) (req : Request) (s : State),
    let args := req.args.length = argCount kind
    let kindOk := kind ≠ 0 ∧ kind ≤ 16
    let condOk := req.cond.toNat ≤ 14
    let allowed := panelOnly kind = true → req.src = s.image.panel
    (s.running = false → s.firstFailure kind req = some 10) ∧
    (s.running = true → ¬ kindOk → s.firstFailure kind req = some 8) ∧
    (s.running = true → kindOk → ¬ (args ∧ condOk) → s.firstFailure kind req = some 7) ∧
    (s.running = true → kindOk → args → condOk → ¬ allowed → s.firstFailure kind req = some 9) ∧
    (s.running = true → kindOk → args → condOk → allowed → refusedIn s.mode kind = true → s.firstFailure kind req = some 4) ∧
    (s.running = true → kindOk → args → condOk → allowed → refusedIn s.mode kind = false →
      s.firstFailure kind req = if s.condition req.cond.toNat then none else some 3)) ∧
  (∀ (c : Instr) (kind : Nat) (req : Request) (s : State), c.request = some (kind, req) → s.peerHeard req.src →
    let u := s.hears req.src
    (∀ code, req.broadcast = false → u.firstFailure kind req = some code →
      Answers c s kind req u code (if kind = 9 then u.flagBytes else [])) ∧
    (req.broadcast = true → (kind ≠ 8 ∧ kind ≠ 13) ∨ u.firstFailure kind req ≠ none → Does c s u)) ∧
  (∀ (kind : Byte) (req : Request) (s : State), s.peerHeard req.src → req.broadcast = false → kind = 0 ∨ 16 < kind.toNat →
    Answers (.requestUnknownKind kind req) s kind.toNat req (s.hears req.src) (if (s.hears req.src).running then 8 else 10) [])

/-- O58. Of requests that pass the checks. DISPENSE_WATER up to 2000 mL with the holds present starts a panel dispense, DV commanded through P0, for 120 s, with the limit asked for or capped at 300 mL, a fill under way being held; DONE, or LIMITED when capped; without holds NOT_READY, LOCKED REFUSED_FAULT, source LINE NOT_PERMITTED, above 2000 BAD_ARGUMENT. In DISPENSING a line's dispense answers BUSY without effect; a panel's takes the new limit, under the cap it began with and not below the volume counted, sets the panel hold if it could be set, and stops at once when the new limit is already counted; DONE where that is the volume asked for, LIMITED otherwise. DISPENSE_STOP stops a dispense into SETTLING: DONE. DISPENSE_ICE claims AUG: ACCEPTED; BUSY in CLAIMING, DONE in RUNNING. ICE_STOP ends either: DONE. DEFROST_NOW: ACCEPTED out of IDLE or in PENDING, BUSY later. DEFROST_INHIBIT runs, restarts or stops the inhibit timer. MOLD_ENABLE takes a mold out of service, its fill, claim and grant with it, or puts it into FREEZING; another mold or value byte is BAD_ARGUMENT. -/
def Obligations.WaterIceAndDefrostRequestsAct : Prop :=
  ∀ (req : Request) (s : State),
    let u := s.hears req.src
    let ml := arg16 req.args 0
    let asked := (if ml = 0 then 2000 else ml) * 256
    (s.passes 1 req →
      (2000 < ml → Answers (.dispenseWater req) s 1 req u 7 []) ∧
      (ml ≤ 2000 → u.image.source = .line → Answers (.dispenseWater req) s 1 req u 9 []) ∧
      (ml ≤ 2000 → u.image.source ≠ .line → u.water.path = .locked → Answers (.dispenseWater req) s 1 req u 5 []) ∧
      (ml ≤ 2000 → u.image.source ≠ .line → u.water.path ≠ .locked → u.water.path ≠ .dispensing → u.sourceReady = false →
        Answers (.dispenseWater req) s 1 req u 10 []) ∧
      (ml ≤ 2000 → u.image.source ≠ .line → u.water.path ≠ .locked → u.water.path ≠ .dispensing → u.sourceReady = true →
        ∃ t p, Answers (.dispenseWater req) s 1 req t (if p.limit < asked then 2 else 0) [] ∧ t.water.path = .dispensing ∧
          t.water.dispense = some p ∧ p.owner = .panel ∧ p.counted = 0 ∧ p.panelHold = true ∧
          p.limit = (if p.capped then min asked 76800 else asked) ∧
          (u.water.path ≠ .filling → p.capped = u.whileApplies .limitDispense) ∧
          t.water.dispenseLimit = some (s.now + 120000000) ∧ t.water.settling = none ∧ (t.channel .dv).job = .pattern 0 ∧
          t.own .dispensedVolume = 0 ∧
          (∀ f, u.water.path = .filling → u.water.current = some f → t.water.current = none ∧
            t.water.held = some { f with openMs := u.fillOpenMs } ∧ (t.channel f.mold.valve).job = .off)) ∧
      (ml ≤ 2000 → u.image.source ≠ .line → u.water.path = .dispensing → ∀ p, u.water.dispense = some p →
        let limit := if p.capped then min asked 76800 else asked
        let code := if max limit p.counted = asked then 0 else 2
        let next : Dispense := { p with limit := max limit p.counted, panelHold := p.panelHold || u.panelReady }
        (p.owner = .line → Answers (.dispenseWater req) s 1 req u 6 []) ∧
        (p.owner = .panel → p.counted < limit →
          Answers (.dispenseWater req) s 1 req { u with water := { u.water with dispense := some next } } code []) ∧
        (p.owner = .panel → limit ≤ p.counted → ∃ t, Answers (.dispenseWater req) s 1 req t code [] ∧ t.water.path = .settling ∧
          t.water.dispense = none ∧ t.water.settling = some (s.now + 3000000) ∧ (t.channel .dv).job = .off))) ∧
    (s.passes 2 req →
      (u.water.dispense = none → Answers (.dispenseStop req) s 2 req u 0 []) ∧
      (∀ p, u.water.dispense = some p → ∃ t, Answers (.dispenseStop req) s 2 req t 0 [] ∧ t.water.path = .settling ∧
        t.water.dispense = none ∧ t.water.settling = some (s.now + 3000000) ∧ (t.channel .dv).job = .off ∧
        t.own .dispensedVolume = min 2000 (p.counted / 256 : Nat))) ∧
    (s.passes 3 req →
      (u.ice.auger = .idle → u.paddleTest = true → u.asksFreely .aug → ∃ t e, Answers (.dispenseIce req) s 3 req t 1 [] ∧
        t.ice.auger = .claiming ∧ t.entryOf .aug = some e ∧ e.amps = u.image.augAmps ∧ e.cls = 1 ∧ e.retryAt = none) ∧
      (u.ice.auger = .idle → u.classA = true → Answers (.dispenseIce req) s 3 req u 5 []) ∧
      (u.ice.auger = .idle → u.classA = false → u.paddleTest = false → Answers (.dispenseIce req) s 3 req u 10 []) ∧
      (u.ice.auger = .claiming → Answers (.dispenseIce req) s 3 req u 6 []) ∧
      (u.ice.auger = .running → Answers (.dispenseIce req) s 3 req u 0 [])) ∧
    (s.passes 4 req →
      (u.ice.auger = .idle → Answers (.iceStop req) s 4 req u 0 []) ∧
      (u.ice.auger ≠ .idle → ∃ t, Answers (.iceStop req) s 4 req t 0 [] ∧ t.ice.auger = .idle ∧ t.ice.runTimer = none ∧
        (t.channel .aug).job = .off ∧ (∀ g ∈ t.share.grants, g.op ≠ some .aug) ∧ (u.ice.auger = .claiming → t.entryOf .aug = none))) ∧
    (s.passes 5 req →
      (u.defrost.state = .idle → ∃ t, Answers (.defrostNow req) s 5 req t 1 [] ∧ t.defrost.state ≠ .idle ∧
        (u.defrost.inhibit ≠ none → t.defrost.state = .pending)) ∧
      (u.defrost.state = .pending → Answers (.defrostNow req) s 5 req u 1 []) ∧
      (u.defrost.state ≠ .idle → u.defrost.state ≠ .pending → Answers (.defrostNow req) s 5 req u 6 [])) ∧
    (s.passes 6 req →
      (480 < ml → Answers (.defrostInhibit req) s 6 req u 7 []) ∧
      (ml ≤ 480 → ml ≠ 0 → Answers (.defrostInhibit req) s 6 req
        { u with defrost := { u.defrost with inhibit := some (s.now + ml * 60000000) } } 0 []) ∧
      (ml = 0 → ∃ t, Answers (.defrostInhibit req) s 6 req t 0 [] ∧ t.defrost.inhibit = none ∧
        (u.defrost.state ≠ .pending → t = { u with defrost := { u.defrost with inhibit := none } }) ∧
        (u.defrost.inhibit ≠ none → u.defrost.state = .pending → u.mode ≠ .showroom → u.classA = false → u.defrost.holdRetry = none →
          t.defrost.state = .holdWait ∨ t.defrost.state = .pumpDown))) ∧
    (s.passes 7 req → 1 < argAt req.args 0 → Answers (.moldEnable req) s 7 req u 7 []) ∧
    (s.passes 7 req → ∀ m : Mold, argAt req.args 0 = (match m with | .a => 0 | .b => 1) →
      (argAt req.args 1 = 0 → (u.mold m).state ≠ .outOfService → ∃ t, Answers (.moldEnable req) s 7 req t 0 [] ∧
        (t.mold m).state = .outOfService ∧ (t.mold m).suspended = false ∧ t.fillKnown m = false ∧
        (t.channel m.heater).job = .off ∧ (t.channel m.ejector).job = .off ∧ t.grantOf m.op = none ∧ t.entryOf m.op = none ∧
        t.suspensionOf m.op = none) ∧
      (argAt req.args 1 = 1 → (u.mold m).state = .outOfService → ∃ t, Answers (.moldEnable req) s 7 req t 0 [] ∧
        (t.mold m).state = .freezing ∧ (t.mold m).stalls = 0 ∧ (t.mold m).heatSeconds = 0 ∧ (t.mold m).attempt = 1 ∧
        (t.mold m).owed = u.image.fillTargetMl * 256 ∧ (t.mold m).short = false ∧
        (t.mold m).leastFreeze = some (s.now + 2400000000) ∧ (t.mold m).timedFreeze = some (s.now + 5400000000)) ∧
      (1 < argAt req.args 1 → Answers (.moldEnable req) s 7 req u 7 []))

/-- O59. Of requests that pass the checks. SET_MODE with a code above 3 is BAD_ARGUMENT, with the mode in force DONE without effect, with another DONE, with the mode and MODE set, every test value NONE after SERVICE, and at SHOWROOM everything released, no dispense, the auger IDLE and no mold in a harvest. CLEAR_FAULT answers with the flags after it: DONE for a clear flag without effect; RUNAWAY outside SERVICE REFUSED_MODE; a flag whose condition holds stays, STILL_PRESENT; another is cleared, every other as it was, DONE; 0xFF takes every set flag so, RUNAWAY outside SERVICE passed over; STILL_PRESENT if one stays for its condition, else REFUSED_MODE if RUNAWAY was passed over, else DONE. CLEAR_WATCH writes no own tag but WATCH_STATES and CONDITION_FLAGS; where no point listens to these two, it moves a LATCHED point to INACTIVE and from there as a condition-true event does, the delay paused while the point holds, moves no other point, and leaves both words as the points then stand. FORCE_WATCH sets the forced state. -/
def Obligations.ModeFaultAndWatchRequestsAct : Prop :=
  ∀ (req : Request) (s : State),
    let u := s.hears req.src
    let n := argAt req.args 0
    (s.passes 8 req →
      (3 < n → Answers (.setMode req) s 8 req u 7 []) ∧
      (n = u.mode.code → Answers (.setMode req) s 8 req u 0 []) ∧
      (∀ mode : OpMode, n = mode.code → mode ≠ u.mode → ∃ t, Answers (.setMode req) s 8 req t 0 [] ∧ t.mode = mode ∧
        t.own .mode = (n : Int) ∧ t.fault.aFlags = u.fault.aFlags ∧
        (u.mode = .service → ∀ o : Output, (t.channel o).test = .none) ∧
        (mode = .showroom → t.released ∧ t.water.dispense = none ∧ t.ice.auger = .idle ∧
          (∀ m : Mold, (t.mold m).state.inHarvest = false) ∧
          (t.defrost.state = .idle ∨ t.defrost.state = .pending ∨ t.defrost.state = .drip ∨ t.defrost.state = .recovery)))) ∧
    (s.passes 9 req →
      (n ≠ 255 → faultOf n = none → Answers (.clearFault req) s 9 req u 7 u.flagBytes) ∧
      (∀ f : FaultId, n = f.code →
        (u.fault.isSet f = false → Answers (.clearFault req) s 9 req u 0 u.flagBytes) ∧
        (u.fault.isSet f = true → f = .runaway → u.mode ≠ .service → Answers (.clearFault req) s 9 req u 4 u.flagBytes) ∧
        (u.fault.isSet f = true → (f = .runaway → u.mode = .service) → u.conditionHolds f = true → ∃ t,
          Answers (.clearFault req) s 9 req t 11 t.flagBytes ∧ t.fault.aFlags = u.fault.aFlags ∧ t.fault.bFlags = u.fault.bFlags) ∧
        (u.fault.isSet f = true → (f = .runaway → u.mode = .service) → u.conditionHolds f = false → ∃ t,
          Answers (.clearFault req) s 9 req t 0 t.flagBytes ∧ t.fault.isSet f = false ∧
          (∀ g : FaultId, g ≠ f → t.fault.isSet g = u.fault.isSet g) ∧
          (f.isA = true → (∀ g : FaultId, g.isA = true → g ≠ f → u.fault.isSet g = false) → u.fault.aFlags.toNat < 8 →
            t.water.path ≠ .locked ∧ t.fault.noticeTimer = none))) ∧
      (n = 255 →
        let passed := fun (g : FaultId) => g == .runaway && u.mode != .service
        let still := ∃ g : FaultId, u.fault.isSet g = true ∧ passed g = false ∧ u.conditionHolds g = true
        ∃ t code, Answers (.clearFault req) s 9 req t code t.flagBytes ∧ (still → code = 11) ∧
        (¬ still → u.fault.isSet .runaway = true → u.mode ≠ .service → code = 4) ∧
        (¬ still → u.fault.isSet .runaway = false ∨ u.mode = .service → code = 0) ∧
        ∀ g : FaultId, t.fault.isSet g =
          (u.fault.isSet g && (u.conditionHolds g || (g == .runaway && u.mode != .service))))) ∧
    (s.passes 10 req →
      (16 ≤ n → n ≠ 255 → Answers (.clearWatch req) s 10 req u 7 []) ∧
      (n < 16 ∨ n = 255 → ∃ t, Answers (.clearWatch req) s 10 req t 0 [] ∧
        t = { u with
          watch := t.watch, agenda := t.agenda, store := t.store, line := { u.line with clearing := t.line.clearing } } ∧
        (∀ tag : OwnTag, tag ≠ .watchStates → tag ≠ .conditionFlags → t.own tag = u.own tag) ∧
        ((∀ k : Fin 16, ∀ word : OwnTag, word = .watchStates ∨ word = .conditionFlags →
            u.image.watch[k].source ≠ some (.own word) ∧ u.image.watch[k].reference ≠ some (.own word)) →
          (∀ i : Fin 16, n = 255 ∨ n = i.val → u.watch[i].computed = .latched →
            t.own .conditionFlags = t.conditionWord ∧ t.own .watchStates = t.watchWord) ∧
          ∀ i : Fin 16,
            let w := u.watch[i]
            ((n ≠ 255 ∧ n ≠ i.val) ∨ w.computed ≠ .latched → t.watch[i] = w) ∧
            (n = 255 ∨ n = i.val → w.computed = .latched →
              (w.condition ≠ .isTrue → t.watch[i] = { w with computed := .inactive }) ∧
              (w.condition = .isTrue → u.image.watch[i].makeDelay = 0 → t.watch[i] = { w with computed := .active }) ∧
              (w.condition = .isTrue → u.image.watch[i].makeDelay ≠ 0 → t.watch[i] =
                { w with computed := .making, delay := if u.pointHolds i then .paused (u.image.watch[i].makeDelay * 1000000)
                    else .running (s.now + u.image.watch[i].makeDelay * 1000000) }))))) ∧
    (s.passes 11 req →
      (16 ≤ n ∨ 2 < argAt req.args 1 → Answers (.forceWatch req) s 11 req u 7 []) ∧
      (∀ (i : Fin 16) (forced : Forced), n = i.val → argAt req.args 1 = (match forced with | .none => 0 | .active => 1 | .inactive => 2) →
        ∃ t, Answers (.forceWatch req) s 11 req t 0 [] ∧ t = { u with watch := t.watch, agenda := t.agenda } ∧
          t.watch = u.watch.set i { u.watch[i] with forced := forced } ∧
          (forced = .active → u.watch[i].effective ≠ .active → Signal.watchEntered i ∈ t.agenda)))

/-- O60. Of requests that pass the checks. READ_QUANTITY answers an own tag's value, low byte first, with 0, or 2 while substituted; the detail record in three parts; a peer's tag with 0 FRESH or 1 STALE, or 0, 0, 3 when invalid; freshness; the last notice; an unknown station or item is BAD_ARGUMENT. PUBLISH_NOW queues a STATUS unless one waits. FORGET_STATION makes the station ABSENT and touches no other record; 0, 15 and above, and the own address, are BAD_ARGUMENT. TEST_OUTPUT sets one output's test value and answers its state after it: 1 on; else 2 where SAFETY has an opinion (DESIGN CHOICE, log entry 35, where the layers below leave it off too), 4 held off by the job gate, 3 by an interlock, 0 by its layers; one that fails the valve test is INTERLOCK, a wrong index or value BAD_ARGUMENT. RESTART queues the ANSWER DONE whose fate starts the reset, which is due at once if the queue is full (due, not begun: DESIGN CHOICE, log entry 8). -/
def Obligations.ReadingPublishingAndServiceRequestsAct : Prop :=
  ∀ (req : Request) (s : State),
    let u := s.hears req.src
    let n := argAt req.args 0
    let item := argAt req.args 1
    let bytes := fun (v : Int) (mark : Byte) =>
      [BitVec.ofNat 8 (BitVec.ofInt 16 v).toNat, BitVec.ofNat 8 ((BitVec.ofInt 16 v).toNat / 256), mark]
    (s.passes 12 req →
      (n = 0 ∨ n = u.image.ownAddress.toNat →
        (∀ tag : OwnTag, item = tag.code → Answers (.readQuantity req) s 12 req u 0 (bytes (u.own tag) (if u.ownValid tag then 0 else 2))) ∧
        (∀ k : Fin 3, item = 0xD0 + k.val →
          Answers (.readQuantity req) s 12 req u 0 (((detailBytes u.fault.record).drop (4 * k.val)).take 4)) ∧
        (ownTagOf item = none → item < 0xD0 ∨ 0xD2 < item → Answers (.readQuantity req) s 12 req u 7 [])) ∧
      (∀ a : Addr, a ≠ 0 → a ≠ 15 → a ≠ u.image.ownAddress → n = a.toNat →
        (∀ v, isKnownTag (BitVec.ofNat 8 item) = true → u.peer a (BitVec.ofNat 8 item) = some v →
          Answers (.readQuantity req) s 12 req u 0 (bytes v (if u.isFresh a then 0 else 1))) ∧
        (isKnownTag (BitVec.ofNat 8 item) = true → u.peer a (BitVec.ofNat 8 item) = none →
          Answers (.readQuantity req) s 12 req u 0 [0, 0, 3]) ∧
        (item = 0xFF → Answers (.readQuantity req) s 12 req u 0 [match u.record a with
          | none => 0
          | some r => match r.freshness with | .fresh => 1 | .stale => 2 | .lost => 3]) ∧
        (∀ r code cls, item = 0xFE → u.record a = some r → r.notice = some (code, cls) →
          Answers (.readQuantity req) s 12 req u 0 [code, cls, 1]) ∧
        (∀ r, item = 0xFE → u.record a = some r → r.notice = none → Answers (.readQuantity req) s 12 req u 0 [0, 0, 0]) ∧
        (isKnownTag (BitVec.ofNat 8 item) = false → item < 0xFE → Answers (.readQuantity req) s 12 req u 7 [])) ∧
      (15 ≤ n → n ≠ u.image.ownAddress.toNat → Answers (.readQuantity req) s 12 req u 7 [])) ∧
    (s.passes 13 req → u.line.mode ≠ .stuck →
      (u.line.waiting TxFrame.isStatus = true → Answers (.publishNow req) s 13 req u 0 []) ∧
      (u.line.waiting TxFrame.isStatus = false → u.line.full = false → Answers (.publishNow req) s 13 req
        { u with line := { u.line with queue := insertFrame statusFrame u.line.queue } } 0 []) ∧
      (u.line.waiting TxFrame.isStatus = false → u.line.full = true → Answers (.publishNow req) s 13 req
        { u with line := { u.line with statusOwed := true } } 0 [])) ∧
    (s.passes 14 req →
      (n = 0 ∨ 15 ≤ n ∨ n = u.image.ownAddress.toNat → Answers (.forgetStation req) s 14 req u 7 []) ∧
      (∀ a : Addr, a ≠ 0 → a ≠ 15 → a ≠ u.image.ownAddress → n = a.toNat → ∃ t, Answers (.forgetStation req) s 14 req t 0 [] ∧
        t.record a = none ∧ ∀ b : Addr, b ≠ a → t.record b = u.record b)) ∧
    (s.passes 15 req →
      (12 ≤ n ∨ testValueOf item (argAt req.args 2) = none → Answers (.testOutput req) s 15 req u 7 []) ∧
      (∀ (o : Output) (v : TestValue), n = o.idx.val → testValueOf item (argAt req.args 2) = some v →
        (u.valveTestFails o v = true → Answers (.testOutput req) s 15 req u 12 []) ∧
        (u.valveTestFails o v = false → ∃ t, Answers (.testOutput req) s 15 req t 0 [BitVec.ofNat 8 (t.outputState o)] ∧
          (t.channel o).test = v ∧ (∀ x : Output, (t.channel x).job = (u.channel x).job ∧ (x ≠ o → (t.channel x).test = (u.channel x).test)) ∧
          t.share = u.share ∧ t.fault = u.fault ∧ t.mode = u.mode ∧
          (let below : Drive := match v with
             | .none => (t.followOpinion o).getD (t.channel o).job
             | .off => .off
             | .on => .on
             | .pattern k => .pattern k
             | .follow i => if t.followOn i then .on else .off
           let safety := o.hasSafety = true ∧ t.classA = true
           let gate := o.claimable = true ∧ v ≠ .none ∧ (t.channel o).job = .off ∧ below ≠ .off
           let interlock := below ≠ .off ∨ (o = .ef ∧ t.isOn .dh = true)
           (t.isOn o = true → t.outputState o = 1) ∧
           (t.isOn o = false → safety → t.outputState o = 2) ∧
           (t.isOn o = false → ¬ safety → gate → t.outputState o = 4) ∧
           (t.isOn o = false → ¬ safety → ¬ gate → interlock → t.outputState o = 3) ∧
           (t.isOn o = false → ¬ safety → ¬ gate → ¬ interlock → t.outputState o = 0))))) ∧
    (s.passes 16 req → u.start.restart ≠ .due → u.line.mode ≠ .stuck →
      (u.line.full = false →
        let done := newFrame req.src 2 (.answer 16 req.seq 0 [] true)
        Does (.restart req) s { u with
          start := { u.start with restart := .answering }, line := { u.line with queue := insertFrame done u.line.queue } }) ∧
      (u.line.full = true → Does (.restart req) s { u with start := { u.start with restart := .due } }))
end

