-- ==== Sys2Proof/Laws/State.lean ====
section
/-! SUPPORT. What each plain update of State leaves as it was: one lemma per field, so that no proof unfolds a record update. -/

namespace Sys2Proof.Machine

variable (s : State)

/-! ### `State.putWatch`: a watch point's record (R25) -/

@[simp] theorem State.putWatch_now (i : Fin 16) (w : WatchPoint) : (s.putWatch i w).now = s.now := rfl
@[simp] theorem State.putWatch_pins (i : Fin 16) (w : WatchPoint) : (s.putWatch i w).pins = s.pins := rfl
@[simp] theorem State.putWatch_start (i : Fin 16) (w : WatchPoint) : (s.putWatch i w).start = s.start := rfl
@[simp] theorem State.putWatch_image (i : Fin 16) (w : WatchPoint) : (s.putWatch i w).image = s.image := rfl
@[simp] theorem State.putWatch_rawImage (i : Fin 16) (w : WatchPoint) : (s.putWatch i w).rawImage = s.rawImage := rfl
@[simp] theorem State.putWatch_line (i : Fin 16) (w : WatchPoint) : (s.putWatch i w).line = s.line := rfl
@[simp] theorem State.putWatch_view (i : Fin 16) (w : WatchPoint) : (s.putWatch i w).view = s.view := rfl
@[simp] theorem State.putWatch_share (i : Fin 16) (w : WatchPoint) : (s.putWatch i w).share = s.share := rfl
@[simp] theorem State.putWatch_store (i : Fin 16) (w : WatchPoint) : (s.putWatch i w).store = s.store := rfl
@[simp] theorem State.putWatch_sensors (i : Fin 16) (w : WatchPoint) : (s.putWatch i w).sensors = s.sensors := rfl
@[simp] theorem State.putWatch_switches (i : Fin 16) (w : WatchPoint) : (s.putWatch i w).switches = s.switches := rfl
@[simp] theorem State.putWatch_frost (i : Fin 16) (w : WatchPoint) : (s.putWatch i w).frost = s.frost := rfl
@[simp] theorem State.putWatch_defrost (i : Fin 16) (w : WatchPoint) : (s.putWatch i w).defrost = s.defrost := rfl
@[simp] theorem State.putWatch_water (i : Fin 16) (w : WatchPoint) : (s.putWatch i w).water = s.water := rfl
@[simp] theorem State.putWatch_ice (i : Fin 16) (w : WatchPoint) : (s.putWatch i w).ice = s.ice := rfl
@[simp] theorem State.putWatch_out (i : Fin 16) (w : WatchPoint) : (s.putWatch i w).out = s.out := rfl
@[simp] theorem State.putWatch_fault (i : Fin 16) (w : WatchPoint) : (s.putWatch i w).fault = s.fault := rfl
@[simp] theorem State.putWatch_mode (i : Fin 16) (w : WatchPoint) : (s.putWatch i w).mode = s.mode := rfl
@[simp] theorem State.putWatch_pending (i : Fin 16) (w : WatchPoint) : (s.putWatch i w).pending = s.pending := rfl

/-! ### `State.countFrame`: the line order count (R39) -/

@[simp] theorem State.countFrame_now : (s.countFrame).now = s.now := rfl
@[simp] theorem State.countFrame_pins : (s.countFrame).pins = s.pins := rfl
@[simp] theorem State.countFrame_start : (s.countFrame).start = s.start := rfl
@[simp] theorem State.countFrame_image : (s.countFrame).image = s.image := rfl
@[simp] theorem State.countFrame_rawImage : (s.countFrame).rawImage = s.rawImage := rfl
@[simp] theorem State.countFrame_view : (s.countFrame).view = s.view := rfl
@[simp] theorem State.countFrame_share : (s.countFrame).share = s.share := rfl
@[simp] theorem State.countFrame_store : (s.countFrame).store = s.store := rfl
@[simp] theorem State.countFrame_sensors : (s.countFrame).sensors = s.sensors := rfl
@[simp] theorem State.countFrame_switches : (s.countFrame).switches = s.switches := rfl
@[simp] theorem State.countFrame_watch : (s.countFrame).watch = s.watch := rfl
@[simp] theorem State.countFrame_frost : (s.countFrame).frost = s.frost := rfl
@[simp] theorem State.countFrame_defrost : (s.countFrame).defrost = s.defrost := rfl
@[simp] theorem State.countFrame_water : (s.countFrame).water = s.water := rfl
@[simp] theorem State.countFrame_ice : (s.countFrame).ice = s.ice := rfl
@[simp] theorem State.countFrame_out : (s.countFrame).out = s.out := rfl
@[simp] theorem State.countFrame_fault : (s.countFrame).fault = s.fault := rfl
@[simp] theorem State.countFrame_mode : (s.countFrame).mode = s.mode := rfl
@[simp] theorem State.countFrame_agenda : (s.countFrame).agenda = s.agenda := rfl
@[simp] theorem State.countFrame_pending : (s.countFrame).pending = s.pending := rfl

/-! ### `State.enqueue`: the transmit queue (R41) -/

@[simp] theorem State.enqueue_now (f : TxFrame) : (s.enqueue f).now = s.now := rfl
@[simp] theorem State.enqueue_pins (f : TxFrame) : (s.enqueue f).pins = s.pins := rfl
@[simp] theorem State.enqueue_start (f : TxFrame) : (s.enqueue f).start = s.start := rfl
@[simp] theorem State.enqueue_image (f : TxFrame) : (s.enqueue f).image = s.image := rfl
@[simp] theorem State.enqueue_rawImage (f : TxFrame) : (s.enqueue f).rawImage = s.rawImage := rfl
@[simp] theorem State.enqueue_view (f : TxFrame) : (s.enqueue f).view = s.view := rfl
@[simp] theorem State.enqueue_share (f : TxFrame) : (s.enqueue f).share = s.share := rfl
@[simp] theorem State.enqueue_store (f : TxFrame) : (s.enqueue f).store = s.store := rfl
@[simp] theorem State.enqueue_sensors (f : TxFrame) : (s.enqueue f).sensors = s.sensors := rfl
@[simp] theorem State.enqueue_switches (f : TxFrame) : (s.enqueue f).switches = s.switches := rfl
@[simp] theorem State.enqueue_watch (f : TxFrame) : (s.enqueue f).watch = s.watch := rfl
@[simp] theorem State.enqueue_frost (f : TxFrame) : (s.enqueue f).frost = s.frost := rfl
@[simp] theorem State.enqueue_defrost (f : TxFrame) : (s.enqueue f).defrost = s.defrost := rfl
@[simp] theorem State.enqueue_water (f : TxFrame) : (s.enqueue f).water = s.water := rfl
@[simp] theorem State.enqueue_ice (f : TxFrame) : (s.enqueue f).ice = s.ice := rfl
@[simp] theorem State.enqueue_out (f : TxFrame) : (s.enqueue f).out = s.out := rfl
@[simp] theorem State.enqueue_fault (f : TxFrame) : (s.enqueue f).fault = s.fault := rfl
@[simp] theorem State.enqueue_mode (f : TxFrame) : (s.enqueue f).mode = s.mode := rfl
@[simp] theorem State.enqueue_agenda (f : TxFrame) : (s.enqueue f).agenda = s.agenda := rfl
@[simp] theorem State.enqueue_pending (f : TxFrame) : (s.enqueue f).pending = s.pending := rfl

/-! ### `State.assemble`: a STATUS assembly (R44) -/

@[simp] theorem State.assemble_now : (s.assemble).now = s.now := rfl
@[simp] theorem State.assemble_pins : (s.assemble).pins = s.pins := rfl
@[simp] theorem State.assemble_start : (s.assemble).start = s.start := rfl
@[simp] theorem State.assemble_image : (s.assemble).image = s.image := rfl
@[simp] theorem State.assemble_rawImage : (s.assemble).rawImage = s.rawImage := rfl
@[simp] theorem State.assemble_view : (s.assemble).view = s.view := rfl
@[simp] theorem State.assemble_share : (s.assemble).share = s.share := rfl
@[simp] theorem State.assemble_store : (s.assemble).store = s.store := rfl
@[simp] theorem State.assemble_sensors : (s.assemble).sensors = s.sensors := rfl
@[simp] theorem State.assemble_switches : (s.assemble).switches = s.switches := rfl
@[simp] theorem State.assemble_watch : (s.assemble).watch = s.watch := rfl
@[simp] theorem State.assemble_frost : (s.assemble).frost = s.frost := rfl
@[simp] theorem State.assemble_defrost : (s.assemble).defrost = s.defrost := rfl
@[simp] theorem State.assemble_water : (s.assemble).water = s.water := rfl
@[simp] theorem State.assemble_ice : (s.assemble).ice = s.ice := rfl
@[simp] theorem State.assemble_out : (s.assemble).out = s.out := rfl
@[simp] theorem State.assemble_fault : (s.assemble).fault = s.fault := rfl
@[simp] theorem State.assemble_mode : (s.assemble).mode = s.mode := rfl
@[simp] theorem State.assemble_agenda : (s.assemble).agenda = s.agenda := rfl
@[simp] theorem State.assemble_pending : (s.assemble).pending = s.pending := rfl

/-! ### `State.clearMarks`: the changed marks of a STATUS sent (R44) -/

@[simp] theorem State.clearMarks_now : (s.clearMarks).now = s.now := rfl
@[simp] theorem State.clearMarks_pins : (s.clearMarks).pins = s.pins := rfl
@[simp] theorem State.clearMarks_start : (s.clearMarks).start = s.start := rfl
@[simp] theorem State.clearMarks_image : (s.clearMarks).image = s.image := rfl
@[simp] theorem State.clearMarks_rawImage : (s.clearMarks).rawImage = s.rawImage := rfl
@[simp] theorem State.clearMarks_view : (s.clearMarks).view = s.view := rfl
@[simp] theorem State.clearMarks_share : (s.clearMarks).share = s.share := rfl
@[simp] theorem State.clearMarks_sensors : (s.clearMarks).sensors = s.sensors := rfl
@[simp] theorem State.clearMarks_switches : (s.clearMarks).switches = s.switches := rfl
@[simp] theorem State.clearMarks_watch : (s.clearMarks).watch = s.watch := rfl
@[simp] theorem State.clearMarks_frost : (s.clearMarks).frost = s.frost := rfl
@[simp] theorem State.clearMarks_defrost : (s.clearMarks).defrost = s.defrost := rfl
@[simp] theorem State.clearMarks_water : (s.clearMarks).water = s.water := rfl
@[simp] theorem State.clearMarks_ice : (s.clearMarks).ice = s.ice := rfl
@[simp] theorem State.clearMarks_out : (s.clearMarks).out = s.out := rfl
@[simp] theorem State.clearMarks_fault : (s.clearMarks).fault = s.fault := rfl
@[simp] theorem State.clearMarks_mode : (s.clearMarks).mode = s.mode := rfl
@[simp] theorem State.clearMarks_agenda : (s.clearMarks).agenda = s.agenda := rfl
@[simp] theorem State.clearMarks_pending : (s.clearMarks).pending = s.pending := rfl

/-! ### `State.endAttempt`: the end of an attempt (R34, R35) -/

@[simp] theorem State.endAttempt_now (new : Option TxFrame) : (s.endAttempt new).now = s.now := rfl
@[simp] theorem State.endAttempt_pins (new : Option TxFrame) : (s.endAttempt new).pins = s.pins := rfl
@[simp] theorem State.endAttempt_start (new : Option TxFrame) : (s.endAttempt new).start = s.start := rfl
@[simp] theorem State.endAttempt_image (new : Option TxFrame) : (s.endAttempt new).image = s.image := rfl
@[simp] theorem State.endAttempt_rawImage (new : Option TxFrame) : (s.endAttempt new).rawImage = s.rawImage := rfl
@[simp] theorem State.endAttempt_view (new : Option TxFrame) : (s.endAttempt new).view = s.view := rfl
@[simp] theorem State.endAttempt_share (new : Option TxFrame) : (s.endAttempt new).share = s.share := rfl
@[simp] theorem State.endAttempt_store (new : Option TxFrame) : (s.endAttempt new).store = s.store := rfl
@[simp] theorem State.endAttempt_sensors (new : Option TxFrame) : (s.endAttempt new).sensors = s.sensors := rfl
@[simp] theorem State.endAttempt_switches (new : Option TxFrame) : (s.endAttempt new).switches = s.switches := rfl
@[simp] theorem State.endAttempt_watch (new : Option TxFrame) : (s.endAttempt new).watch = s.watch := rfl
@[simp] theorem State.endAttempt_frost (new : Option TxFrame) : (s.endAttempt new).frost = s.frost := rfl
@[simp] theorem State.endAttempt_defrost (new : Option TxFrame) : (s.endAttempt new).defrost = s.defrost := rfl
@[simp] theorem State.endAttempt_water (new : Option TxFrame) : (s.endAttempt new).water = s.water := rfl
@[simp] theorem State.endAttempt_ice (new : Option TxFrame) : (s.endAttempt new).ice = s.ice := rfl
@[simp] theorem State.endAttempt_out (new : Option TxFrame) : (s.endAttempt new).out = s.out := rfl
@[simp] theorem State.endAttempt_fault (new : Option TxFrame) : (s.endAttempt new).fault = s.fault := rfl
@[simp] theorem State.endAttempt_mode (new : Option TxFrame) : (s.endAttempt new).mode = s.mode := rfl
@[simp] theorem State.endAttempt_agenda (new : Option TxFrame) : (s.endAttempt new).agenda = s.agenda := rfl
@[simp] theorem State.endAttempt_pending (new : Option TxFrame) : (s.endAttempt new).pending = s.pending := rfl

/-! ### `State.setRecord`: a station record (R45) -/

@[simp] theorem State.setRecord_now (a : Addr) (r : Option StationRecord) : (s.setRecord a r).now = s.now := rfl
@[simp] theorem State.setRecord_pins (a : Addr) (r : Option StationRecord) : (s.setRecord a r).pins = s.pins := rfl
@[simp] theorem State.setRecord_start (a : Addr) (r : Option StationRecord) : (s.setRecord a r).start = s.start := rfl
@[simp] theorem State.setRecord_image (a : Addr) (r : Option StationRecord) : (s.setRecord a r).image = s.image := rfl
@[simp] theorem State.setRecord_rawImage (a : Addr) (r : Option StationRecord) : (s.setRecord a r).rawImage = s.rawImage := rfl
@[simp] theorem State.setRecord_line (a : Addr) (r : Option StationRecord) : (s.setRecord a r).line = s.line := rfl
@[simp] theorem State.setRecord_share (a : Addr) (r : Option StationRecord) : (s.setRecord a r).share = s.share := rfl
@[simp] theorem State.setRecord_store (a : Addr) (r : Option StationRecord) : (s.setRecord a r).store = s.store := rfl
@[simp] theorem State.setRecord_sensors (a : Addr) (r : Option StationRecord) : (s.setRecord a r).sensors = s.sensors := rfl
@[simp] theorem State.setRecord_switches (a : Addr) (r : Option StationRecord) : (s.setRecord a r).switches = s.switches := rfl
@[simp] theorem State.setRecord_watch (a : Addr) (r : Option StationRecord) : (s.setRecord a r).watch = s.watch := rfl
@[simp] theorem State.setRecord_frost (a : Addr) (r : Option StationRecord) : (s.setRecord a r).frost = s.frost := rfl
@[simp] theorem State.setRecord_defrost (a : Addr) (r : Option StationRecord) : (s.setRecord a r).defrost = s.defrost := rfl
@[simp] theorem State.setRecord_water (a : Addr) (r : Option StationRecord) : (s.setRecord a r).water = s.water := rfl
@[simp] theorem State.setRecord_ice (a : Addr) (r : Option StationRecord) : (s.setRecord a r).ice = s.ice := rfl
@[simp] theorem State.setRecord_out (a : Addr) (r : Option StationRecord) : (s.setRecord a r).out = s.out := rfl
@[simp] theorem State.setRecord_fault (a : Addr) (r : Option StationRecord) : (s.setRecord a r).fault = s.fault := rfl
@[simp] theorem State.setRecord_mode (a : Addr) (r : Option StationRecord) : (s.setRecord a r).mode = s.mode := rfl
@[simp] theorem State.setRecord_agenda (a : Addr) (r : Option StationRecord) : (s.setRecord a r).agenda = s.agenda := rfl
@[simp] theorem State.setRecord_pending (a : Addr) (r : Option StationRecord) : (s.setRecord a r).pending = s.pending := rfl

/-! ### `State.enqueueClaim`: a claim entry (R62) -/

@[simp] theorem State.enqueueClaim_now (e : ClaimEntry) : (s.enqueueClaim e).now = s.now := rfl
@[simp] theorem State.enqueueClaim_pins (e : ClaimEntry) : (s.enqueueClaim e).pins = s.pins := rfl
@[simp] theorem State.enqueueClaim_start (e : ClaimEntry) : (s.enqueueClaim e).start = s.start := rfl
@[simp] theorem State.enqueueClaim_image (e : ClaimEntry) : (s.enqueueClaim e).image = s.image := rfl
@[simp] theorem State.enqueueClaim_rawImage (e : ClaimEntry) : (s.enqueueClaim e).rawImage = s.rawImage := rfl
@[simp] theorem State.enqueueClaim_line (e : ClaimEntry) : (s.enqueueClaim e).line = s.line := rfl
@[simp] theorem State.enqueueClaim_view (e : ClaimEntry) : (s.enqueueClaim e).view = s.view := rfl
@[simp] theorem State.enqueueClaim_store (e : ClaimEntry) : (s.enqueueClaim e).store = s.store := rfl
@[simp] theorem State.enqueueClaim_sensors (e : ClaimEntry) : (s.enqueueClaim e).sensors = s.sensors := rfl
@[simp] theorem State.enqueueClaim_switches (e : ClaimEntry) : (s.enqueueClaim e).switches = s.switches := rfl
@[simp] theorem State.enqueueClaim_watch (e : ClaimEntry) : (s.enqueueClaim e).watch = s.watch := rfl
@[simp] theorem State.enqueueClaim_frost (e : ClaimEntry) : (s.enqueueClaim e).frost = s.frost := rfl
@[simp] theorem State.enqueueClaim_defrost (e : ClaimEntry) : (s.enqueueClaim e).defrost = s.defrost := rfl
@[simp] theorem State.enqueueClaim_water (e : ClaimEntry) : (s.enqueueClaim e).water = s.water := rfl
@[simp] theorem State.enqueueClaim_ice (e : ClaimEntry) : (s.enqueueClaim e).ice = s.ice := rfl
@[simp] theorem State.enqueueClaim_out (e : ClaimEntry) : (s.enqueueClaim e).out = s.out := rfl
@[simp] theorem State.enqueueClaim_fault (e : ClaimEntry) : (s.enqueueClaim e).fault = s.fault := rfl
@[simp] theorem State.enqueueClaim_mode (e : ClaimEntry) : (s.enqueueClaim e).mode = s.mode := rfl
@[simp] theorem State.enqueueClaim_agenda (e : ClaimEntry) : (s.enqueueClaim e).agenda = s.agenda := rfl
@[simp] theorem State.enqueueClaim_pending (e : ClaimEntry) : (s.enqueueClaim e).pending = s.pending := rfl

/-! ### `State.dropEntry`: a claim entry removed (R61) -/

@[simp] theorem State.dropEntry_now (op : LoadOp) : (s.dropEntry op).now = s.now := rfl
@[simp] theorem State.dropEntry_pins (op : LoadOp) : (s.dropEntry op).pins = s.pins := rfl
@[simp] theorem State.dropEntry_start (op : LoadOp) : (s.dropEntry op).start = s.start := rfl
@[simp] theorem State.dropEntry_image (op : LoadOp) : (s.dropEntry op).image = s.image := rfl
@[simp] theorem State.dropEntry_rawImage (op : LoadOp) : (s.dropEntry op).rawImage = s.rawImage := rfl
@[simp] theorem State.dropEntry_line (op : LoadOp) : (s.dropEntry op).line = s.line := rfl
@[simp] theorem State.dropEntry_view (op : LoadOp) : (s.dropEntry op).view = s.view := rfl
@[simp] theorem State.dropEntry_store (op : LoadOp) : (s.dropEntry op).store = s.store := rfl
@[simp] theorem State.dropEntry_sensors (op : LoadOp) : (s.dropEntry op).sensors = s.sensors := rfl
@[simp] theorem State.dropEntry_switches (op : LoadOp) : (s.dropEntry op).switches = s.switches := rfl
@[simp] theorem State.dropEntry_watch (op : LoadOp) : (s.dropEntry op).watch = s.watch := rfl
@[simp] theorem State.dropEntry_frost (op : LoadOp) : (s.dropEntry op).frost = s.frost := rfl
@[simp] theorem State.dropEntry_defrost (op : LoadOp) : (s.dropEntry op).defrost = s.defrost := rfl
@[simp] theorem State.dropEntry_water (op : LoadOp) : (s.dropEntry op).water = s.water := rfl
@[simp] theorem State.dropEntry_ice (op : LoadOp) : (s.dropEntry op).ice = s.ice := rfl
@[simp] theorem State.dropEntry_out (op : LoadOp) : (s.dropEntry op).out = s.out := rfl
@[simp] theorem State.dropEntry_fault (op : LoadOp) : (s.dropEntry op).fault = s.fault := rfl
@[simp] theorem State.dropEntry_mode (op : LoadOp) : (s.dropEntry op).mode = s.mode := rfl
@[simp] theorem State.dropEntry_agenda (op : LoadOp) : (s.dropEntry op).agenda = s.agenda := rfl
@[simp] theorem State.dropEntry_pending (op : LoadOp) : (s.dropEntry op).pending = s.pending := rfl

/-! ### `State.startReclaim`: the re-claim timer (R77) -/

@[simp] theorem State.startReclaim_now : (s.startReclaim).now = s.now := rfl
@[simp] theorem State.startReclaim_pins : (s.startReclaim).pins = s.pins := rfl
@[simp] theorem State.startReclaim_start : (s.startReclaim).start = s.start := rfl
@[simp] theorem State.startReclaim_image : (s.startReclaim).image = s.image := rfl
@[simp] theorem State.startReclaim_rawImage : (s.startReclaim).rawImage = s.rawImage := rfl
@[simp] theorem State.startReclaim_line : (s.startReclaim).line = s.line := rfl
@[simp] theorem State.startReclaim_view : (s.startReclaim).view = s.view := rfl
@[simp] theorem State.startReclaim_store : (s.startReclaim).store = s.store := rfl
@[simp] theorem State.startReclaim_sensors : (s.startReclaim).sensors = s.sensors := rfl
@[simp] theorem State.startReclaim_switches : (s.startReclaim).switches = s.switches := rfl
@[simp] theorem State.startReclaim_watch : (s.startReclaim).watch = s.watch := rfl
@[simp] theorem State.startReclaim_frost : (s.startReclaim).frost = s.frost := rfl
@[simp] theorem State.startReclaim_defrost : (s.startReclaim).defrost = s.defrost := rfl
@[simp] theorem State.startReclaim_water : (s.startReclaim).water = s.water := rfl
@[simp] theorem State.startReclaim_ice : (s.startReclaim).ice = s.ice := rfl
@[simp] theorem State.startReclaim_out : (s.startReclaim).out = s.out := rfl
@[simp] theorem State.startReclaim_fault : (s.startReclaim).fault = s.fault := rfl
@[simp] theorem State.startReclaim_mode : (s.startReclaim).mode = s.mode := rfl
@[simp] theorem State.startReclaim_agenda : (s.startReclaim).agenda = s.agenda := rfl
@[simp] theorem State.startReclaim_pending : (s.startReclaim).pending = s.pending := rfl

/-! ### `State.clearMinute`: the minute's accumulators (R87) -/

@[simp] theorem State.clearMinute_now : (s.clearMinute).now = s.now := rfl
@[simp] theorem State.clearMinute_pins : (s.clearMinute).pins = s.pins := rfl
@[simp] theorem State.clearMinute_start : (s.clearMinute).start = s.start := rfl
@[simp] theorem State.clearMinute_image : (s.clearMinute).image = s.image := rfl
@[simp] theorem State.clearMinute_rawImage : (s.clearMinute).rawImage = s.rawImage := rfl
@[simp] theorem State.clearMinute_line : (s.clearMinute).line = s.line := rfl
@[simp] theorem State.clearMinute_view : (s.clearMinute).view = s.view := rfl
@[simp] theorem State.clearMinute_share : (s.clearMinute).share = s.share := rfl
@[simp] theorem State.clearMinute_store : (s.clearMinute).store = s.store := rfl
@[simp] theorem State.clearMinute_sensors : (s.clearMinute).sensors = s.sensors := rfl
@[simp] theorem State.clearMinute_switches : (s.clearMinute).switches = s.switches := rfl
@[simp] theorem State.clearMinute_watch : (s.clearMinute).watch = s.watch := rfl
@[simp] theorem State.clearMinute_defrost : (s.clearMinute).defrost = s.defrost := rfl
@[simp] theorem State.clearMinute_water : (s.clearMinute).water = s.water := rfl
@[simp] theorem State.clearMinute_ice : (s.clearMinute).ice = s.ice := rfl
@[simp] theorem State.clearMinute_out : (s.clearMinute).out = s.out := rfl
@[simp] theorem State.clearMinute_fault : (s.clearMinute).fault = s.fault := rfl
@[simp] theorem State.clearMinute_mode : (s.clearMinute).mode = s.mode := rfl
@[simp] theorem State.clearMinute_agenda : (s.clearMinute).agenda = s.agenda := rfl
@[simp] theorem State.clearMinute_pending : (s.clearMinute).pending = s.pending := rfl

/-! ### `State.reportHarvest`: a harvest report (R86) -/

@[simp] theorem State.reportHarvest_now : (s.reportHarvest).now = s.now := rfl
@[simp] theorem State.reportHarvest_pins : (s.reportHarvest).pins = s.pins := rfl
@[simp] theorem State.reportHarvest_start : (s.reportHarvest).start = s.start := rfl
@[simp] theorem State.reportHarvest_image : (s.reportHarvest).image = s.image := rfl
@[simp] theorem State.reportHarvest_rawImage : (s.reportHarvest).rawImage = s.rawImage := rfl
@[simp] theorem State.reportHarvest_line : (s.reportHarvest).line = s.line := rfl
@[simp] theorem State.reportHarvest_view : (s.reportHarvest).view = s.view := rfl
@[simp] theorem State.reportHarvest_share : (s.reportHarvest).share = s.share := rfl
@[simp] theorem State.reportHarvest_store : (s.reportHarvest).store = s.store := rfl
@[simp] theorem State.reportHarvest_sensors : (s.reportHarvest).sensors = s.sensors := rfl
@[simp] theorem State.reportHarvest_switches : (s.reportHarvest).switches = s.switches := rfl
@[simp] theorem State.reportHarvest_watch : (s.reportHarvest).watch = s.watch := rfl
@[simp] theorem State.reportHarvest_defrost : (s.reportHarvest).defrost = s.defrost := rfl
@[simp] theorem State.reportHarvest_water : (s.reportHarvest).water = s.water := rfl
@[simp] theorem State.reportHarvest_ice : (s.reportHarvest).ice = s.ice := rfl
@[simp] theorem State.reportHarvest_out : (s.reportHarvest).out = s.out := rfl
@[simp] theorem State.reportHarvest_fault : (s.reportHarvest).fault = s.fault := rfl
@[simp] theorem State.reportHarvest_mode : (s.reportHarvest).mode = s.mode := rfl
@[simp] theorem State.reportHarvest_agenda : (s.reportHarvest).agenda = s.agenda := rfl
@[simp] theorem State.reportHarvest_pending : (s.reportHarvest).pending = s.pending := rfl

/-! ### `State.frostSamples`: a frost second's samples (R84) -/

@[simp] theorem State.frostSamples_now : (s.frostSamples).now = s.now := rfl
@[simp] theorem State.frostSamples_pins : (s.frostSamples).pins = s.pins := rfl
@[simp] theorem State.frostSamples_start : (s.frostSamples).start = s.start := rfl
@[simp] theorem State.frostSamples_image : (s.frostSamples).image = s.image := rfl
@[simp] theorem State.frostSamples_rawImage : (s.frostSamples).rawImage = s.rawImage := rfl
@[simp] theorem State.frostSamples_line : (s.frostSamples).line = s.line := rfl
@[simp] theorem State.frostSamples_view : (s.frostSamples).view = s.view := rfl
@[simp] theorem State.frostSamples_share : (s.frostSamples).share = s.share := rfl
@[simp] theorem State.frostSamples_store : (s.frostSamples).store = s.store := rfl
@[simp] theorem State.frostSamples_sensors : (s.frostSamples).sensors = s.sensors := rfl
@[simp] theorem State.frostSamples_switches : (s.frostSamples).switches = s.switches := rfl
@[simp] theorem State.frostSamples_watch : (s.frostSamples).watch = s.watch := rfl
@[simp] theorem State.frostSamples_defrost : (s.frostSamples).defrost = s.defrost := rfl
@[simp] theorem State.frostSamples_water : (s.frostSamples).water = s.water := rfl
@[simp] theorem State.frostSamples_ice : (s.frostSamples).ice = s.ice := rfl
@[simp] theorem State.frostSamples_out : (s.frostSamples).out = s.out := rfl
@[simp] theorem State.frostSamples_fault : (s.frostSamples).fault = s.fault := rfl
@[simp] theorem State.frostSamples_mode : (s.frostSamples).mode = s.mode := rfl
@[simp] theorem State.frostSamples_agenda : (s.frostSamples).agenda = s.agenda := rfl
@[simp] theorem State.frostSamples_pending : (s.frostSamples).pending = s.pending := rfl

/-! ### `State.frostNotCompleted`: a defrost that did not complete (R93) -/

@[simp] theorem State.frostNotCompleted_now : (s.frostNotCompleted).now = s.now := rfl
@[simp] theorem State.frostNotCompleted_pins : (s.frostNotCompleted).pins = s.pins := rfl
@[simp] theorem State.frostNotCompleted_start : (s.frostNotCompleted).start = s.start := rfl
@[simp] theorem State.frostNotCompleted_image : (s.frostNotCompleted).image = s.image := rfl
@[simp] theorem State.frostNotCompleted_rawImage : (s.frostNotCompleted).rawImage = s.rawImage := rfl
@[simp] theorem State.frostNotCompleted_line : (s.frostNotCompleted).line = s.line := rfl
@[simp] theorem State.frostNotCompleted_view : (s.frostNotCompleted).view = s.view := rfl
@[simp] theorem State.frostNotCompleted_share : (s.frostNotCompleted).share = s.share := rfl
@[simp] theorem State.frostNotCompleted_store : (s.frostNotCompleted).store = s.store := rfl
@[simp] theorem State.frostNotCompleted_sensors : (s.frostNotCompleted).sensors = s.sensors := rfl
@[simp] theorem State.frostNotCompleted_switches : (s.frostNotCompleted).switches = s.switches := rfl
@[simp] theorem State.frostNotCompleted_watch : (s.frostNotCompleted).watch = s.watch := rfl
@[simp] theorem State.frostNotCompleted_defrost : (s.frostNotCompleted).defrost = s.defrost := rfl
@[simp] theorem State.frostNotCompleted_water : (s.frostNotCompleted).water = s.water := rfl
@[simp] theorem State.frostNotCompleted_ice : (s.frostNotCompleted).ice = s.ice := rfl
@[simp] theorem State.frostNotCompleted_out : (s.frostNotCompleted).out = s.out := rfl
@[simp] theorem State.frostNotCompleted_fault : (s.frostNotCompleted).fault = s.fault := rfl
@[simp] theorem State.frostNotCompleted_mode : (s.frostNotCompleted).mode = s.mode := rfl
@[simp] theorem State.frostNotCompleted_agenda : (s.frostNotCompleted).agenda = s.agenda := rfl
@[simp] theorem State.frostNotCompleted_pending : (s.frostNotCompleted).pending = s.pending := rfl

/-! ### `State.meterOpening`: an opening of the meter (R132) -/

@[simp] theorem State.meterOpening_now : (s.meterOpening).now = s.now := rfl
@[simp] theorem State.meterOpening_pins : (s.meterOpening).pins = s.pins := rfl
@[simp] theorem State.meterOpening_start : (s.meterOpening).start = s.start := rfl
@[simp] theorem State.meterOpening_image : (s.meterOpening).image = s.image := rfl
@[simp] theorem State.meterOpening_rawImage : (s.meterOpening).rawImage = s.rawImage := rfl
@[simp] theorem State.meterOpening_line : (s.meterOpening).line = s.line := rfl
@[simp] theorem State.meterOpening_view : (s.meterOpening).view = s.view := rfl
@[simp] theorem State.meterOpening_share : (s.meterOpening).share = s.share := rfl
@[simp] theorem State.meterOpening_store : (s.meterOpening).store = s.store := rfl
@[simp] theorem State.meterOpening_sensors : (s.meterOpening).sensors = s.sensors := rfl
@[simp] theorem State.meterOpening_switches : (s.meterOpening).switches = s.switches := rfl
@[simp] theorem State.meterOpening_watch : (s.meterOpening).watch = s.watch := rfl
@[simp] theorem State.meterOpening_frost : (s.meterOpening).frost = s.frost := rfl
@[simp] theorem State.meterOpening_defrost : (s.meterOpening).defrost = s.defrost := rfl
@[simp] theorem State.meterOpening_ice : (s.meterOpening).ice = s.ice := rfl
@[simp] theorem State.meterOpening_out : (s.meterOpening).out = s.out := rfl
@[simp] theorem State.meterOpening_fault : (s.meterOpening).fault = s.fault := rfl
@[simp] theorem State.meterOpening_mode : (s.meterOpening).mode = s.mode := rfl
@[simp] theorem State.meterOpening_agenda : (s.meterOpening).agenda = s.agenda := rfl
@[simp] theorem State.meterOpening_pending : (s.meterOpening).pending = s.pending := rfl

/-! ### `State.toCounted`: the meter's return to COUNTED (R131) -/

@[simp] theorem State.toCounted_now : (s.toCounted).now = s.now := rfl
@[simp] theorem State.toCounted_pins : (s.toCounted).pins = s.pins := rfl
@[simp] theorem State.toCounted_start : (s.toCounted).start = s.start := rfl
@[simp] theorem State.toCounted_image : (s.toCounted).image = s.image := rfl
@[simp] theorem State.toCounted_rawImage : (s.toCounted).rawImage = s.rawImage := rfl
@[simp] theorem State.toCounted_line : (s.toCounted).line = s.line := rfl
@[simp] theorem State.toCounted_view : (s.toCounted).view = s.view := rfl
@[simp] theorem State.toCounted_share : (s.toCounted).share = s.share := rfl
@[simp] theorem State.toCounted_store : (s.toCounted).store = s.store := rfl
@[simp] theorem State.toCounted_sensors : (s.toCounted).sensors = s.sensors := rfl
@[simp] theorem State.toCounted_switches : (s.toCounted).switches = s.switches := rfl
@[simp] theorem State.toCounted_watch : (s.toCounted).watch = s.watch := rfl
@[simp] theorem State.toCounted_frost : (s.toCounted).frost = s.frost := rfl
@[simp] theorem State.toCounted_defrost : (s.toCounted).defrost = s.defrost := rfl
@[simp] theorem State.toCounted_ice : (s.toCounted).ice = s.ice := rfl
@[simp] theorem State.toCounted_out : (s.toCounted).out = s.out := rfl
@[simp] theorem State.toCounted_fault : (s.toCounted).fault = s.fault := rfl
@[simp] theorem State.toCounted_mode : (s.toCounted).mode = s.mode := rfl
@[simp] theorem State.toCounted_agenda : (s.toCounted).agenda = s.agenda := rfl
@[simp] theorem State.toCounted_pending : (s.toCounted).pending = s.pending := rfl

/-! ### `State.startWater`: the water path at the entry to RUN (R119) -/

@[simp] theorem State.startWater_now : (s.startWater).now = s.now := rfl
@[simp] theorem State.startWater_pins : (s.startWater).pins = s.pins := rfl
@[simp] theorem State.startWater_start : (s.startWater).start = s.start := rfl
@[simp] theorem State.startWater_image : (s.startWater).image = s.image := rfl
@[simp] theorem State.startWater_rawImage : (s.startWater).rawImage = s.rawImage := rfl
@[simp] theorem State.startWater_line : (s.startWater).line = s.line := rfl
@[simp] theorem State.startWater_view : (s.startWater).view = s.view := rfl
@[simp] theorem State.startWater_share : (s.startWater).share = s.share := rfl
@[simp] theorem State.startWater_store : (s.startWater).store = s.store := rfl
@[simp] theorem State.startWater_sensors : (s.startWater).sensors = s.sensors := rfl
@[simp] theorem State.startWater_switches : (s.startWater).switches = s.switches := rfl
@[simp] theorem State.startWater_watch : (s.startWater).watch = s.watch := rfl
@[simp] theorem State.startWater_frost : (s.startWater).frost = s.frost := rfl
@[simp] theorem State.startWater_defrost : (s.startWater).defrost = s.defrost := rfl
@[simp] theorem State.startWater_ice : (s.startWater).ice = s.ice := rfl
@[simp] theorem State.startWater_out : (s.startWater).out = s.out := rfl
@[simp] theorem State.startWater_fault : (s.startWater).fault = s.fault := rfl
@[simp] theorem State.startWater_mode : (s.startWater).mode = s.mode := rfl
@[simp] theorem State.startWater_agenda : (s.startWater).agenda = s.agenda := rfl
@[simp] theorem State.startWater_pending : (s.startWater).pending = s.pending := rfl

/-! ### `State.dropWaitingNotice`: a NOTICE that waits leaves the queue (R42) -/

@[simp] theorem State.dropWaitingNotice_now : (s.dropWaitingNotice).now = s.now := rfl
@[simp] theorem State.dropWaitingNotice_pins : (s.dropWaitingNotice).pins = s.pins := rfl
@[simp] theorem State.dropWaitingNotice_start : (s.dropWaitingNotice).start = s.start := rfl
@[simp] theorem State.dropWaitingNotice_image : (s.dropWaitingNotice).image = s.image := rfl
@[simp] theorem State.dropWaitingNotice_rawImage : (s.dropWaitingNotice).rawImage = s.rawImage := rfl
@[simp] theorem State.dropWaitingNotice_view : (s.dropWaitingNotice).view = s.view := rfl
@[simp] theorem State.dropWaitingNotice_share : (s.dropWaitingNotice).share = s.share := rfl
@[simp] theorem State.dropWaitingNotice_store : (s.dropWaitingNotice).store = s.store := rfl
@[simp] theorem State.dropWaitingNotice_sensors : (s.dropWaitingNotice).sensors = s.sensors := rfl
@[simp] theorem State.dropWaitingNotice_switches : (s.dropWaitingNotice).switches = s.switches := rfl
@[simp] theorem State.dropWaitingNotice_watch : (s.dropWaitingNotice).watch = s.watch := rfl
@[simp] theorem State.dropWaitingNotice_frost : (s.dropWaitingNotice).frost = s.frost := rfl
@[simp] theorem State.dropWaitingNotice_defrost : (s.dropWaitingNotice).defrost = s.defrost := rfl
@[simp] theorem State.dropWaitingNotice_water : (s.dropWaitingNotice).water = s.water := rfl
@[simp] theorem State.dropWaitingNotice_ice : (s.dropWaitingNotice).ice = s.ice := rfl
@[simp] theorem State.dropWaitingNotice_out : (s.dropWaitingNotice).out = s.out := rfl
@[simp] theorem State.dropWaitingNotice_fault : (s.dropWaitingNotice).fault = s.fault := rfl
@[simp] theorem State.dropWaitingNotice_mode : (s.dropWaitingNotice).mode = s.mode := rfl
@[simp] theorem State.dropWaitingNotice_agenda : (s.dropWaitingNotice).agenda = s.agenda := rfl
@[simp] theorem State.dropWaitingNotice_pending : (s.dropWaitingNotice).pending = s.pending := rfl

/-! ### `State.drive`: signals on the two-wire port (R193) -/

@[simp] theorem State.drive_now (l : List PortSignal) : (s.drive l).now = s.now := rfl
@[simp] theorem State.drive_pins (l : List PortSignal) : (s.drive l).pins = s.pins := rfl
@[simp] theorem State.drive_image (l : List PortSignal) : (s.drive l).image = s.image := rfl
@[simp] theorem State.drive_rawImage (l : List PortSignal) : (s.drive l).rawImage = s.rawImage := rfl
@[simp] theorem State.drive_line (l : List PortSignal) : (s.drive l).line = s.line := rfl
@[simp] theorem State.drive_view (l : List PortSignal) : (s.drive l).view = s.view := rfl
@[simp] theorem State.drive_share (l : List PortSignal) : (s.drive l).share = s.share := rfl
@[simp] theorem State.drive_store (l : List PortSignal) : (s.drive l).store = s.store := rfl
@[simp] theorem State.drive_sensors (l : List PortSignal) : (s.drive l).sensors = s.sensors := rfl
@[simp] theorem State.drive_switches (l : List PortSignal) : (s.drive l).switches = s.switches := rfl
@[simp] theorem State.drive_watch (l : List PortSignal) : (s.drive l).watch = s.watch := rfl
@[simp] theorem State.drive_frost (l : List PortSignal) : (s.drive l).frost = s.frost := rfl
@[simp] theorem State.drive_defrost (l : List PortSignal) : (s.drive l).defrost = s.defrost := rfl
@[simp] theorem State.drive_water (l : List PortSignal) : (s.drive l).water = s.water := rfl
@[simp] theorem State.drive_ice (l : List PortSignal) : (s.drive l).ice = s.ice := rfl
@[simp] theorem State.drive_out (l : List PortSignal) : (s.drive l).out = s.out := rfl
@[simp] theorem State.drive_fault (l : List PortSignal) : (s.drive l).fault = s.fault := rfl
@[simp] theorem State.drive_mode (l : List PortSignal) : (s.drive l).mode = s.mode := rfl
@[simp] theorem State.drive_agenda (l : List PortSignal) : (s.drive l).agenda = s.agenda := rfl
@[simp] theorem State.drive_pending (l : List PortSignal) : (s.drive l).pending = s.pending := rfl

@[simp] theorem State.drive_reading (l : List PortSignal) : (s.drive l).reading = s.reading := rfl
@[simp] theorem State.drive_sent (l : List PortSignal) : (s.drive l).start.sent = s.start.sent ++ l := rfl

/-! ### `State.arrive`: image bytes arrive (R193) -/

@[simp] theorem State.arrive_now (b : List Byte) : (s.arrive b).now = s.now := rfl
@[simp] theorem State.arrive_pins (b : List Byte) : (s.arrive b).pins = s.pins := rfl
@[simp] theorem State.arrive_image (b : List Byte) : (s.arrive b).image = s.image := rfl
@[simp] theorem State.arrive_line (b : List Byte) : (s.arrive b).line = s.line := rfl
@[simp] theorem State.arrive_view (b : List Byte) : (s.arrive b).view = s.view := rfl
@[simp] theorem State.arrive_share (b : List Byte) : (s.arrive b).share = s.share := rfl
@[simp] theorem State.arrive_store (b : List Byte) : (s.arrive b).store = s.store := rfl
@[simp] theorem State.arrive_sensors (b : List Byte) : (s.arrive b).sensors = s.sensors := rfl
@[simp] theorem State.arrive_switches (b : List Byte) : (s.arrive b).switches = s.switches := rfl
@[simp] theorem State.arrive_watch (b : List Byte) : (s.arrive b).watch = s.watch := rfl
@[simp] theorem State.arrive_frost (b : List Byte) : (s.arrive b).frost = s.frost := rfl
@[simp] theorem State.arrive_defrost (b : List Byte) : (s.arrive b).defrost = s.defrost := rfl
@[simp] theorem State.arrive_water (b : List Byte) : (s.arrive b).water = s.water := rfl
@[simp] theorem State.arrive_ice (b : List Byte) : (s.arrive b).ice = s.ice := rfl
@[simp] theorem State.arrive_out (b : List Byte) : (s.arrive b).out = s.out := rfl
@[simp] theorem State.arrive_fault (b : List Byte) : (s.arrive b).fault = s.fault := rfl
@[simp] theorem State.arrive_mode (b : List Byte) : (s.arrive b).mode = s.mode := rfl
@[simp] theorem State.arrive_agenda (b : List Byte) : (s.arrive b).agenda = s.agenda := rfl
@[simp] theorem State.arrive_pending (b : List Byte) : (s.arrive b).pending = s.pending := rfl

@[simp] theorem State.arrive_reading (b : List Byte) : (s.arrive b).reading = s.reading := rfl
@[simp] theorem State.arrive_arrived (b : List Byte) : (s.arrive b).start.arrived = s.start.arrived + b.length := rfl

/-! ### `State.setSensor`: a thermistor channel (R7) -/

@[simp] theorem State.setSensor_now (c : Channel) (r : ChannelRecord) : (s.setSensor c r).now = s.now := rfl
@[simp] theorem State.setSensor_pins (c : Channel) (r : ChannelRecord) : (s.setSensor c r).pins = s.pins := rfl
@[simp] theorem State.setSensor_start (c : Channel) (r : ChannelRecord) : (s.setSensor c r).start = s.start := rfl
@[simp] theorem State.setSensor_image (c : Channel) (r : ChannelRecord) : (s.setSensor c r).image = s.image := rfl
@[simp] theorem State.setSensor_rawImage (c : Channel) (r : ChannelRecord) : (s.setSensor c r).rawImage = s.rawImage := rfl
@[simp] theorem State.setSensor_line (c : Channel) (r : ChannelRecord) : (s.setSensor c r).line = s.line := rfl
@[simp] theorem State.setSensor_view (c : Channel) (r : ChannelRecord) : (s.setSensor c r).view = s.view := rfl
@[simp] theorem State.setSensor_share (c : Channel) (r : ChannelRecord) : (s.setSensor c r).share = s.share := rfl
@[simp] theorem State.setSensor_store (c : Channel) (r : ChannelRecord) : (s.setSensor c r).store = s.store := rfl
@[simp] theorem State.setSensor_switches (c : Channel) (r : ChannelRecord) : (s.setSensor c r).switches = s.switches := rfl
@[simp] theorem State.setSensor_watch (c : Channel) (r : ChannelRecord) : (s.setSensor c r).watch = s.watch := rfl
@[simp] theorem State.setSensor_frost (c : Channel) (r : ChannelRecord) : (s.setSensor c r).frost = s.frost := rfl
@[simp] theorem State.setSensor_defrost (c : Channel) (r : ChannelRecord) : (s.setSensor c r).defrost = s.defrost := rfl
@[simp] theorem State.setSensor_water (c : Channel) (r : ChannelRecord) : (s.setSensor c r).water = s.water := rfl
@[simp] theorem State.setSensor_ice (c : Channel) (r : ChannelRecord) : (s.setSensor c r).ice = s.ice := rfl
@[simp] theorem State.setSensor_out (c : Channel) (r : ChannelRecord) : (s.setSensor c r).out = s.out := rfl
@[simp] theorem State.setSensor_fault (c : Channel) (r : ChannelRecord) : (s.setSensor c r).fault = s.fault := rfl
@[simp] theorem State.setSensor_mode (c : Channel) (r : ChannelRecord) : (s.setSensor c r).mode = s.mode := rfl
@[simp] theorem State.setSensor_agenda (c : Channel) (r : ChannelRecord) : (s.setSensor c r).agenda = s.agenda := rfl
@[simp] theorem State.setSensor_pending (c : Channel) (r : ChannelRecord) : (s.setSensor c r).pending = s.pending := rfl

/-! ### `State.setThermistor`: a thermistor pin (R7) -/

@[simp] theorem State.setThermistor_now (c : Channel) (raw : BitVec 12) : (s.setThermistor c raw).now = s.now := rfl
@[simp] theorem State.setThermistor_start (c : Channel) (raw : BitVec 12) : (s.setThermistor c raw).start = s.start := rfl
@[simp] theorem State.setThermistor_image (c : Channel) (raw : BitVec 12) : (s.setThermistor c raw).image = s.image := rfl
@[simp] theorem State.setThermistor_rawImage (c : Channel) (raw : BitVec 12) : (s.setThermistor c raw).rawImage = s.rawImage := rfl
@[simp] theorem State.setThermistor_line (c : Channel) (raw : BitVec 12) : (s.setThermistor c raw).line = s.line := rfl
@[simp] theorem State.setThermistor_view (c : Channel) (raw : BitVec 12) : (s.setThermistor c raw).view = s.view := rfl
@[simp] theorem State.setThermistor_share (c : Channel) (raw : BitVec 12) : (s.setThermistor c raw).share = s.share := rfl
@[simp] theorem State.setThermistor_store (c : Channel) (raw : BitVec 12) : (s.setThermistor c raw).store = s.store := rfl
@[simp] theorem State.setThermistor_sensors (c : Channel) (raw : BitVec 12) : (s.setThermistor c raw).sensors = s.sensors := rfl
@[simp] theorem State.setThermistor_switches (c : Channel) (raw : BitVec 12) : (s.setThermistor c raw).switches = s.switches := rfl
@[simp] theorem State.setThermistor_watch (c : Channel) (raw : BitVec 12) : (s.setThermistor c raw).watch = s.watch := rfl
@[simp] theorem State.setThermistor_frost (c : Channel) (raw : BitVec 12) : (s.setThermistor c raw).frost = s.frost := rfl
@[simp] theorem State.setThermistor_defrost (c : Channel) (raw : BitVec 12) : (s.setThermistor c raw).defrost = s.defrost := rfl
@[simp] theorem State.setThermistor_water (c : Channel) (raw : BitVec 12) : (s.setThermistor c raw).water = s.water := rfl
@[simp] theorem State.setThermistor_ice (c : Channel) (raw : BitVec 12) : (s.setThermistor c raw).ice = s.ice := rfl
@[simp] theorem State.setThermistor_out (c : Channel) (raw : BitVec 12) : (s.setThermistor c raw).out = s.out := rfl
@[simp] theorem State.setThermistor_fault (c : Channel) (raw : BitVec 12) : (s.setThermistor c raw).fault = s.fault := rfl
@[simp] theorem State.setThermistor_mode (c : Channel) (raw : BitVec 12) : (s.setThermistor c raw).mode = s.mode := rfl
@[simp] theorem State.setThermistor_agenda (c : Channel) (raw : BitVec 12) : (s.setThermistor c raw).agenda = s.agenda := rfl
@[simp] theorem State.setThermistor_pending (c : Channel) (raw : BitVec 12) : (s.setThermistor c raw).pending = s.pending := rfl

/-! ### `State.phaseEnds`: a generator's phase (R168) -/

@[simp] theorem State.phaseEnds_now (n : Fin 4) : (s.phaseEnds n).now = s.now := rfl
@[simp] theorem State.phaseEnds_pins (n : Fin 4) : (s.phaseEnds n).pins = s.pins := rfl
@[simp] theorem State.phaseEnds_start (n : Fin 4) : (s.phaseEnds n).start = s.start := rfl
@[simp] theorem State.phaseEnds_image (n : Fin 4) : (s.phaseEnds n).image = s.image := rfl
@[simp] theorem State.phaseEnds_rawImage (n : Fin 4) : (s.phaseEnds n).rawImage = s.rawImage := rfl
@[simp] theorem State.phaseEnds_line (n : Fin 4) : (s.phaseEnds n).line = s.line := rfl
@[simp] theorem State.phaseEnds_view (n : Fin 4) : (s.phaseEnds n).view = s.view := rfl
@[simp] theorem State.phaseEnds_share (n : Fin 4) : (s.phaseEnds n).share = s.share := rfl
@[simp] theorem State.phaseEnds_store (n : Fin 4) : (s.phaseEnds n).store = s.store := rfl
@[simp] theorem State.phaseEnds_sensors (n : Fin 4) : (s.phaseEnds n).sensors = s.sensors := rfl
@[simp] theorem State.phaseEnds_switches (n : Fin 4) : (s.phaseEnds n).switches = s.switches := rfl
@[simp] theorem State.phaseEnds_watch (n : Fin 4) : (s.phaseEnds n).watch = s.watch := rfl
@[simp] theorem State.phaseEnds_frost (n : Fin 4) : (s.phaseEnds n).frost = s.frost := rfl
@[simp] theorem State.phaseEnds_defrost (n : Fin 4) : (s.phaseEnds n).defrost = s.defrost := rfl
@[simp] theorem State.phaseEnds_water (n : Fin 4) : (s.phaseEnds n).water = s.water := rfl
@[simp] theorem State.phaseEnds_ice (n : Fin 4) : (s.phaseEnds n).ice = s.ice := rfl
@[simp] theorem State.phaseEnds_fault (n : Fin 4) : (s.phaseEnds n).fault = s.fault := rfl
@[simp] theorem State.phaseEnds_mode (n : Fin 4) : (s.phaseEnds n).mode = s.mode := rfl
@[simp] theorem State.phaseEnds_agenda (n : Fin 4) : (s.phaseEnds n).agenda = s.agenda := rfl
@[simp] theorem State.phaseEnds_pending (n : Fin 4) : (s.phaseEnds n).pending = s.pending := rfl

/-! ### `State.startNoticeRepeat`: the notice repeat timer (R173) -/

@[simp] theorem State.startNoticeRepeat_now : (s.startNoticeRepeat).now = s.now := rfl
@[simp] theorem State.startNoticeRepeat_pins : (s.startNoticeRepeat).pins = s.pins := rfl
@[simp] theorem State.startNoticeRepeat_start : (s.startNoticeRepeat).start = s.start := rfl
@[simp] theorem State.startNoticeRepeat_image : (s.startNoticeRepeat).image = s.image := rfl
@[simp] theorem State.startNoticeRepeat_rawImage : (s.startNoticeRepeat).rawImage = s.rawImage := rfl
@[simp] theorem State.startNoticeRepeat_line : (s.startNoticeRepeat).line = s.line := rfl
@[simp] theorem State.startNoticeRepeat_view : (s.startNoticeRepeat).view = s.view := rfl
@[simp] theorem State.startNoticeRepeat_share : (s.startNoticeRepeat).share = s.share := rfl
@[simp] theorem State.startNoticeRepeat_store : (s.startNoticeRepeat).store = s.store := rfl
@[simp] theorem State.startNoticeRepeat_sensors : (s.startNoticeRepeat).sensors = s.sensors := rfl
@[simp] theorem State.startNoticeRepeat_switches : (s.startNoticeRepeat).switches = s.switches := rfl
@[simp] theorem State.startNoticeRepeat_watch : (s.startNoticeRepeat).watch = s.watch := rfl
@[simp] theorem State.startNoticeRepeat_frost : (s.startNoticeRepeat).frost = s.frost := rfl
@[simp] theorem State.startNoticeRepeat_defrost : (s.startNoticeRepeat).defrost = s.defrost := rfl
@[simp] theorem State.startNoticeRepeat_water : (s.startNoticeRepeat).water = s.water := rfl
@[simp] theorem State.startNoticeRepeat_ice : (s.startNoticeRepeat).ice = s.ice := rfl
@[simp] theorem State.startNoticeRepeat_out : (s.startNoticeRepeat).out = s.out := rfl
@[simp] theorem State.startNoticeRepeat_mode : (s.startNoticeRepeat).mode = s.mode := rfl
@[simp] theorem State.startNoticeRepeat_agenda : (s.startNoticeRepeat).agenda = s.agenda := rfl
@[simp] theorem State.startNoticeRepeat_pending : (s.startNoticeRepeat).pending = s.pending := rfl

/-! ### `State.atMoment`: the clock at an expiry (section 0.4) -/

@[simp] theorem State.atMoment_pins (d : Nat) : (s.atMoment d).pins = s.pins := rfl
@[simp] theorem State.atMoment_start (d : Nat) : (s.atMoment d).start = s.start := rfl
@[simp] theorem State.atMoment_image (d : Nat) : (s.atMoment d).image = s.image := rfl
@[simp] theorem State.atMoment_rawImage (d : Nat) : (s.atMoment d).rawImage = s.rawImage := rfl
@[simp] theorem State.atMoment_line (d : Nat) : (s.atMoment d).line = s.line := rfl
@[simp] theorem State.atMoment_view (d : Nat) : (s.atMoment d).view = s.view := rfl
@[simp] theorem State.atMoment_share (d : Nat) : (s.atMoment d).share = s.share := rfl
@[simp] theorem State.atMoment_store (d : Nat) : (s.atMoment d).store = s.store := rfl
@[simp] theorem State.atMoment_sensors (d : Nat) : (s.atMoment d).sensors = s.sensors := rfl
@[simp] theorem State.atMoment_switches (d : Nat) : (s.atMoment d).switches = s.switches := rfl
@[simp] theorem State.atMoment_watch (d : Nat) : (s.atMoment d).watch = s.watch := rfl
@[simp] theorem State.atMoment_frost (d : Nat) : (s.atMoment d).frost = s.frost := rfl
@[simp] theorem State.atMoment_defrost (d : Nat) : (s.atMoment d).defrost = s.defrost := rfl
@[simp] theorem State.atMoment_water (d : Nat) : (s.atMoment d).water = s.water := rfl
@[simp] theorem State.atMoment_ice (d : Nat) : (s.atMoment d).ice = s.ice := rfl
@[simp] theorem State.atMoment_out (d : Nat) : (s.atMoment d).out = s.out := rfl
@[simp] theorem State.atMoment_fault (d : Nat) : (s.atMoment d).fault = s.fault := rfl
@[simp] theorem State.atMoment_mode (d : Nat) : (s.atMoment d).mode = s.mode := rfl
@[simp] theorem State.atMoment_agenda (d : Nat) : (s.atMoment d).agenda = s.agenda := rfl
@[simp] theorem State.atMoment_pending (d : Nat) : (s.atMoment d).pending = s.pending := rfl

end Sys2Proof.Machine
end

