-- ==== Sys2Proof/Laws/Ops.lean ====
section
/-! SUPPORT. What the shared operations can do, said once for each: which parts of State it may change, and what its own result is. -/

namespace Sys2Proof.Machine

/-! ### Who may change what

Each relation says that one state is another but for the fields it names. -/

/-- Only watch records and the agenda differ. -/
def WatchOnly (s t : State) : Prop := t = { s with watch := t.watch, agenda := t.agenda }

/-- Only what writing own quantities may touch differs: the store, the marks of a STATUS in transmission, watch records, the agenda. -/
def WriteOnly (s t : State) : Prop :=
  t = { s with store := t.store, line := { s.line with clearing := t.line.clearing }, watch := t.watch, agenda := t.agenda }

/-- Only what a mixing step may touch differs: beside writing, T_res and the draw counter. -/
def MixOnly (s t : State) : Prop :=
  t = { s with
    water := { s.water with tRes := t.water.tRes, draw := t.water.draw }
    store := t.store, line := { s.line with clearing := t.line.clearing }, watch := t.watch, agenda := t.agenda }

/-- Only what a resolution of the outputs may touch differs: beside writing, the outputs, and in the water path's record the meter's rate and timers, the closed watch, the draw counter and T_res. -/
def ResolveOnly (s t : State) : Prop :=
  t = { s with
    out := t.out
    water := { s.water with
      rate := t.water.rate, pulses := t.water.pulses, openedAt := t.water.openedAt
      silence := t.water.silence, estimate := t.water.estimate, allClosed := t.water.allClosed, armed := t.water.armed
      draw := t.water.draw, tRes := t.water.tRes }
    store := t.store, line := { s.line with clearing := t.line.clearing }
    watch := t.watch, agenda := t.agenda }

/-- Only what offering a frame may touch differs: the line, the claim in flight, the progress of a RESTART, the changed marks. -/
def OfferOnly (s t : State) : Prop :=
  t = { s with
    line := t.line, share := { s.share with flight := t.share.flight }, start := { s.start with restart := t.start.restart }
    store := { s.store with changed := t.store.changed } }

theorem WatchOnly.refl (s : State) : WatchOnly s s := rfl
theorem WriteOnly.refl (s : State) : WriteOnly s s := rfl
theorem MixOnly.refl (s : State) : MixOnly s s := rfl
theorem ResolveOnly.refl (s : State) : ResolveOnly s s := rfl
theorem OfferOnly.refl (s : State) : OfferOnly s s := rfl

theorem WatchOnly.trans {s t u : State} (h : WatchOnly s t) (k : WatchOnly t u) : WatchOnly s u := by
  unfold WatchOnly at *; rw [k, h]

theorem WriteOnly.trans {s t u : State} (h : WriteOnly s t) (k : WriteOnly t u) : WriteOnly s u := by
  unfold WriteOnly at *; rw [k, h]

theorem MixOnly.trans {s t u : State} (h : MixOnly s t) (k : MixOnly t u) : MixOnly s u := by
  unfold MixOnly at *; rw [k, h]

theorem ResolveOnly.trans {s t u : State} (h : ResolveOnly s t) (k : ResolveOnly t u) : ResolveOnly s u := by
  unfold ResolveOnly at *; rw [k, h]

theorem OfferOnly.trans {s t u : State} (h : OfferOnly s t) (k : OfferOnly t u) : OfferOnly s u := by
  unfold OfferOnly at *; rw [k, h]

theorem WatchOnly.writeOnly {s t : State} (h : WatchOnly s t) : WriteOnly s t := by
  unfold WatchOnly at h; unfold WriteOnly; rw [h]

theorem WriteOnly.mixOnly {s t : State} (h : WriteOnly s t) : MixOnly s t := by
  unfold WriteOnly at h; unfold MixOnly; rw [h]

theorem MixOnly.resolveOnly {s t : State} (h : MixOnly s t) : ResolveOnly s t := by
  unfold MixOnly at h; unfold ResolveOnly; rw [h]

/-- An operation folded over a list keeps a relation that is reflexive and transitive. -/
theorem foldl_keeps {α : Type} {r : State → State → Prop} (refl : ∀ s, r s s) (trans : ∀ {s t u}, r s t → r t u → r s u)
    {f : State → α → State} (keep : ∀ s a, r s (f s a)) (l : List α) (s : State) : r s (l.foldl f s) := by
  induction l generalizing s with
  | nil => exact refl s
  | cons a l ih => exact trans (keep s a) (ih _)

/-! ### The watch unit and the store (R6, R17 to R25) -/

theorem State.putWatch_watchOnly (s : State) (i : Fin 16) (w : WatchPoint) : WatchOnly s (s.putWatch i w) := rfl

theorem State.recheck_watchOnly (s : State) (i : Fin 16) : WatchOnly s (s.recheck i) := by
  unfold State.recheck; split <;> exact State.putWatch_watchOnly ..

theorem State.recompute_watchOnly (s : State) (i : Fin 16) : WatchOnly s (s.recompute i) := by
  unfold State.recompute
  split
  · split
    · exact State.putWatch_watchOnly ..
    · exact .refl s
  · exact .refl s

theorem State.hear_watchOnly (s : State) (src : Source) (i : Fin 16) : WatchOnly s (s.hear src i) := by
  unfold State.hear
  dsimp only
  split
  · exact (State.recompute_watchOnly s i).trans (State.recheck_watchOnly _ i)
  · split
    · exact State.recheck_watchOnly s i
    · exact .refl s

/-- Handing a change to the watch unit touches watch records and the agenda alone. -/
theorem State.notifyWatch_watchOnly (s : State) (src : Source) : WatchOnly s (s.notifyWatch src) := by
  unfold State.notifyWatch
  split
  · exact foldl_keeps WatchOnly.refl WatchOnly.trans (fun s i => State.hear_watchOnly s src i) _ s
  · exact .refl s

@[simp] theorem State.own_notifyWatch (s : State) (src : Source) (u : OwnTag) : (s.notifyWatch src).own u = s.own u := by
  rw [State.own, State.notifyWatch_watchOnly s src]; rfl

/-- What the store's taking a value may touch. -/
theorem State.putOwn_writeOnly (s : State) (t : OwnTag) (v : Int) : WriteOnly s (s.putOwn t v) := by
  unfold State.putOwn; split <;> rfl

/-- The store holds the value it has taken, and the others as before (R6). -/
theorem State.own_putOwn (s : State) (t u : OwnTag) (v : Int) :
    (s.putOwn t v).own u = if t.idx = u.idx then v else s.own u := by
  unfold State.putOwn
  split
  · split
    · rename_i h e; rw [← h]; simp only [State.own, e]
    · rfl
  · by_cases e : t.idx = u.idx
    · simp [State.own, e]
    · have h' : t.idx.val ≠ u.idx.val := fun k => e (Fin.ext k)
      simp [State.own, e, h']

theorem State.report_writeOnly (s : State) (t : OwnTag) (w : Int) : WriteOnly s (s.report t w) := by
  unfold State.report
  split
  · exact (State.putOwn_writeOnly s t w).trans (State.notifyWatch_watchOnly _ _).writeOnly
  · exact .refl s

/-- A report of one word leaves the other tags. -/
theorem State.own_report_ne (s : State) {t u : OwnTag} (w : Int) (h : t.idx ≠ u.idx) : (s.report t w).own u = s.own u := by
  unfold State.report
  split
  · rw [State.own_notifyWatch, State.own_putOwn, if_neg h]
  · rfl

theorem State.reportWatch_writeOnly (s : State) : WriteOnly s s.reportWatch := State.report_writeOnly s _ _

theorem State.reportConditions_writeOnly (s : State) : WriteOnly s s.reportConditions := State.report_writeOnly s _ _

/-- A report that is owed is one of the two, in a listening part, and its word differs from what the store holds. -/
theorem State.reportOwed_cases {s t : State} (h : s.reportOwed = some t) :
    s.listening = true ∧
      ((s.own .conditionFlags ≠ s.conditionWord ∧ t = s.reportConditions) ∨
        (s.own .conditionFlags = s.conditionWord ∧ s.own .watchStates ≠ s.watchWord ∧ t = s.reportWatch)) := by
  simp only [State.reportOwed] at h
  split at h
  · cases h
  · split at h
    · cases h; simp_all
    · split at h
      · cases h; simp_all
      · cases h

theorem State.reportsUpTo_writeOnly (n : Nat) (s : State) : WriteOnly s (State.reportsUpTo n s) := by
  induction n generalizing s with
  | zero => exact .refl s
  | succ n ih =>
    unfold State.reportsUpTo
    split
    · rename_i t h
      obtain ⟨-, ⟨-, rfl⟩ | ⟨-, -, rfl⟩⟩ := State.reportOwed_cases h
      · exact (State.reportConditions_writeOnly s).trans (ih _)
      · exact (State.reportWatch_writeOnly s).trans (ih _)
    · exact .refl s

theorem State.reportWords_writeOnly (s : State) : WriteOnly s s.reportWords := State.reportsUpTo_writeOnly _ s

/-- What a change's being heard may touch. -/
theorem State.notify_writeOnly (s : State) (src : Source) : WriteOnly s (s.notify src) :=
  (State.notifyWatch_watchOnly s src).writeOnly.trans (State.reportWords_writeOnly _)

/-- A tag that is neither WATCH_STATES nor CONDITION_FLAGS: no report writes it. -/
def OwnTag.unreported (t : OwnTag) : Prop := OwnTag.watchStates.idx ≠ t.idx ∧ OwnTag.conditionFlags.idx ≠ t.idx

theorem State.own_reportsUpTo (n : Nat) (s : State) {u : OwnTag} (h : u.unreported) :
    (State.reportsUpTo n s).own u = s.own u := by
  induction n generalizing s with
  | zero => rfl
  | succ n ih =>
    unfold State.reportsUpTo
    split
    · rename_i t e
      obtain ⟨-, ⟨-, rfl⟩ | ⟨-, -, rfl⟩⟩ := State.reportOwed_cases e <;> rw [ih]
      · exact State.own_report_ne _ _ h.2
      · exact State.own_report_ne _ _ h.1
    · rfl

theorem State.own_reportWords (s : State) {u : OwnTag} (h : u.unreported) : s.reportWords.own u = s.own u :=
  State.own_reportsUpTo _ s h

theorem State.own_notify (s : State) (src : Source) {u : OwnTag} (h : u.unreported) : (s.notify src).own u = s.own u := by
  unfold State.notify
  rw [State.own_reportWords _ h, State.own_notifyWatch]

/-- What writing an own quantity may touch. -/
theorem State.write_writeOnly (s : State) (t : OwnTag) (v : Int) : WriteOnly s (s.write t v) := by
  unfold State.write
  split
  · exact .refl s
  · exact ((State.putOwn_writeOnly s t v).trans (State.reportWords_writeOnly _)).trans (State.notify_writeOnly _ _)

/-- After a write, the store holds the value written, and the others as before, but for the two words that follow (R6). -/
theorem State.own_write (s : State) (t : OwnTag) {u : OwnTag} (v : Int) (h : u.unreported) :
    (s.write t v).own u = if t.idx = u.idx then v else s.own u := by
  rw [← State.own_putOwn]
  unfold State.write
  split
  · rename_i e; rw [State.putOwn, if_pos e]
  · rw [State.own_notify _ _ h, State.own_reportWords _ h]

theorem State.setTRes_mixOnly (s : State) (v : Int) : MixOnly s (s.setTRes v) := by
  refine MixOnly.trans ?_ (State.write_writeOnly _ _ _).mixOnly
  rfl

theorem State.mixRemainder_mixOnly (s : State) : MixOnly s s.mixRemainder := by
  unfold State.mixRemainder
  split
  · exact .refl s
  · refine MixOnly.trans ?_ (State.setTRes_mixOnly _ _)
    rfl

theorem State.writeFlags_writeOnly (s : State) : WriteOnly s s.writeFlags :=
  (State.write_writeOnly _ _ _).trans (State.write_writeOnly _ _ _)

theorem State.writeEvent_writeOnly (s : State) (v : Int) : WriteOnly s (s.writeEvent v) := State.write_writeOnly _ _ _

/-! ### Resolution (R165 to R169) -/

theorem State.closedWatch_resolveOnly (s : State) (b : Bool) : ResolveOnly s (s.closedWatch b) := by
  unfold State.closedWatch
  split
  · rfl
  · split <;> rfl

theorem State.meterTimers_resolveOnly (s : State) (b : Option Output) : ResolveOnly s (s.meterTimers b) := by
  unfold State.meterTimers
  split
  · rfl
  · split
    · rfl
    · dsimp only; split <;> rfl

/-- What follows from a resolution: mixing, the closed watch, the meter's timers, the temperature test. -/
theorem State.afterResolve_resolveOnly {s t : State} (h : ResolveOnly s t) (mixes wasOpen : Bool) (m : Option Output)
    (hot : State → Bool) (u : State)
    (hu : u = ((if mixes then t.mixRemainder else t).closedWatch wasOpen).meterTimers m) :
    ResolveOnly s (if hot u then { u with agenda := u.agenda ++ [.overtemp] } else u) := by
  have k : ResolveOnly s u := by
    rw [hu]
    refine h.trans (ResolveOnly.trans ?_ ((State.closedWatch_resolveOnly _ _).trans (State.meterTimers_resolveOnly _ m)))
    cases mixes
    · exact .refl t
    · exact (State.mixRemainder_mixOnly t).resolveOnly
  split
  · exact k.trans rfl
  · exact k

/-- Another value of the outputs is what a resolution may touch. -/
theorem ResolveOnly.setOut (s : State) (o : Outputs) : ResolveOnly s { s with out := o } := rfl

/-- What a resolution may touch. -/
theorem State.resolveFrom_resolveOnly (s : State) (m : Option Output) : ResolveOnly s (s.resolveFrom m) := by
  unfold State.resolveFrom
  dsimp only
  exact State.afterResolve_resolveOnly (ResolveOnly.setOut s _) _ _ m
    (fun u => heaters.any fun h => !s.isOn h && u.overtempOf h) _ rfl

/-- What a job command may touch. -/
theorem State.command_resolveOnly (s : State) (o : Output) (d : Drive) : ResolveOnly s (s.command o d) := by
  unfold State.command
  split
  · exact .refl s
  · refine ResolveOnly.trans ?_ (State.resolveFrom_resolveOnly _ _)
    rfl

theorem State.resolve_resolveOnly (s : State) : ResolveOnly s s.resolve := State.resolveFrom_resolveOnly s _

theorem State.lamp_resolveOnly (s : State) : ResolveOnly s s.lamp := State.command_resolveOnly s _ _

/-! ### The transmit queue (R35, R41, R53) -/

theorem State.reportSent_offerOnly (s : State) (f : TxFrame) : OfferOnly s (s.reportSent f) := by
  unfold State.reportSent State.openClaim
  split
  · rfl
  · split <;> rfl
  · rfl
  · rfl

theorem State.sendStuck_offerOnly (s : State) (f : TxFrame) : OfferOnly s (s.sendStuck f) := by
  unfold State.sendStuck
  dsimp only
  have h : ∀ t : State, OfferOnly t (t.countFrame.reportSent f) := fun t => by
    refine OfferOnly.trans ?_ (State.reportSent_offerOnly _ f)
    rfl
  split
  · refine OfferOnly.trans ?_ (h _)
    rfl
  · exact h _

/-- What offering a frame may touch. -/
theorem State.offer_offerOnly (s : State) (f : TxFrame) : OfferOnly s (s.offer f) := by
  unfold State.offer
  split
  · exact State.sendStuck_offerOnly s f
  · split <;> rfl

theorem State.offerStatus_offerOnly (s : State) : OfferOnly s s.offerStatus := by
  unfold State.offerStatus
  split
  · exact State.sendStuck_offerOnly s _
  · split
    · rfl
    · split <;> rfl

theorem State.offerNotice_offerOnly (s : State) (cls : Nat) (code c : Byte) : OfferOnly s (s.offerNotice cls code c) := by
  unfold State.offerNotice
  dsimp only
  split
  · exact State.sendStuck_offerOnly s _
  · split
    · split <;> rfl
    · split <;> rfl

theorem State.offerRelease_offerOnly (s : State) (tag : Byte) (cls : Nat) : OfferOnly s (s.offerRelease tag cls) :=
  State.offer_offerOnly s _

/-! ### The receive framer (R32) -/

/-- Only what the framer's samples may touch differs: the framer, and the frames it has taken whole. -/
def FramerOnly (s t : State) : Prop := t = { s with line := { s.line with framer := t.line.framer, heard := t.line.heard } }

theorem FramerOnly.trans {s t u : State} (h : FramerOnly s t) (k : FramerOnly t u) : FramerOnly s u := by
  unfold FramerOnly at *; rw [k, h]

theorem State.lineSample_framerOnly (s : State) : FramerOnly s s.lineSample := by
  unfold FramerOnly State.lineSample Line.takeWhole
  split <;> rfl

theorem State.samplesUpTo_framerOnly (n : Nat) (s : State) : FramerOnly s (State.samplesUpTo n s) := by
  induction n generalizing s with
  | zero => rfl
  | succ n ih =>
    unfold State.samplesUpTo
    split
    · exact (State.lineSample_framerOnly s).trans (ih _)
    · rfl

/-- What taking the samples that are due may touch. -/
theorem State.lineSamples_framerOnly (s : State) : FramerOnly s s.lineSamples := State.samplesUpTo_framerOnly 9 s

/-- A framer that is not within a character waits for no sample. -/
theorem State.lineSamples_of_not_due (s : State) (h : s.sampleDue = false) : s.lineSamples = s := by
  simp [State.lineSamples, State.samplesUpTo, h]

/-- What a dominant stop bit does (R32). -/
theorem Framer.framing_error (chars : List Byte) (edge : Nat) (levels : List Bool) (h : 8 ≤ levels.length) :
    (Framer.character chars edge levels).sample false = .gap := by
  simp [Framer.sample, Nat.not_lt.mpr h]

/-- After a character the framer is out of the character: discarded, whole, or ready for the next (R32, R38). -/
theorem Framer.after_cases (chars : List Byte) :
    (discardsSoFar chars = true ∧ Framer.after chars = .gap) ∨
      (discardsSoFar chars = false ∧ expectedLength chars = true ∧ Framer.after chars = .whole chars) ∨
      (discardsSoFar chars = false ∧ expectedLength chars = false ∧ Framer.after chars = .next chars) := by
  unfold Framer.after
  cases discardsSoFar chars <;> cases expectedLength chars <;> simp

/-! ### Timers and the end of an event -/

@[simp] theorem onExpiry_none (act : State → State) (s : State) : onExpiry none act s = s := rfl

@[simp] theorem onExpiry_some (d : Nat) (act : State → State) (s : State) : onExpiry (some d) act s = act (s.atMoment d) := rfl

/-- Before LISTEN no consequence follows. -/
theorem State.settle_of_not_listening (n : Nat) (s : State) (h : s.listening = false) : State.settle n s = s := by
  cases n with
  | zero => rfl
  | succ n => simp [State.settle, State.settleStep, h]

/-- Consequences end where none is left. -/
theorem State.settle_of_none (n : Nat) (s : State) (h : s.settleStep = none) : State.settle n s = s := by
  cases n with
  | zero => rfl
  | succ n => simp [State.settle, h]

/-- A property that every consequence keeps holds after all of them. -/
theorem State.settle_keeps {P : State → Prop} (keep : ∀ s t, P s → s.settleStep = some t → P t) :
    ∀ (n : Nat) (s : State), P s → P (State.settle n s)
  | 0, _, h => h
  | n + 1, s, h => by
    unfold State.settle
    split
    · exact State.settle_keeps keep n _ (keep _ _ h ‹_›)
    · exact h

end Sys2Proof.Machine
end

