-- ==== Sys2Proof/Laws/Frames.lean ====
section
/-! SUPPORT. The fields that the shared operations leave as they were, read off their frames in Laws/Ops.lean. -/

namespace Sys2Proof.Machine

variable (s : State)

/-! ### `State.notify` -/

@[simp] theorem State.notify_now (src : Source) : (s.notify src).now = s.now := by rw [State.notify_writeOnly s src]
@[simp] theorem State.notify_pins (src : Source) : (s.notify src).pins = s.pins := by rw [State.notify_writeOnly s src]
@[simp] theorem State.notify_start (src : Source) : (s.notify src).start = s.start := by rw [State.notify_writeOnly s src]
@[simp] theorem State.notify_image (src : Source) : (s.notify src).image = s.image := by rw [State.notify_writeOnly s src]
@[simp] theorem State.notify_rawImage (src : Source) : (s.notify src).rawImage = s.rawImage := by rw [State.notify_writeOnly s src]
@[simp] theorem State.notify_view (src : Source) : (s.notify src).view = s.view := by rw [State.notify_writeOnly s src]
@[simp] theorem State.notify_share (src : Source) : (s.notify src).share = s.share := by rw [State.notify_writeOnly s src]
@[simp] theorem State.notify_sensors (src : Source) : (s.notify src).sensors = s.sensors := by rw [State.notify_writeOnly s src]
@[simp] theorem State.notify_switches (src : Source) : (s.notify src).switches = s.switches := by rw [State.notify_writeOnly s src]
@[simp] theorem State.notify_frost (src : Source) : (s.notify src).frost = s.frost := by rw [State.notify_writeOnly s src]
@[simp] theorem State.notify_defrost (src : Source) : (s.notify src).defrost = s.defrost := by rw [State.notify_writeOnly s src]
@[simp] theorem State.notify_water (src : Source) : (s.notify src).water = s.water := by rw [State.notify_writeOnly s src]
@[simp] theorem State.notify_ice (src : Source) : (s.notify src).ice = s.ice := by rw [State.notify_writeOnly s src]
@[simp] theorem State.notify_out (src : Source) : (s.notify src).out = s.out := by rw [State.notify_writeOnly s src]
@[simp] theorem State.notify_fault (src : Source) : (s.notify src).fault = s.fault := by rw [State.notify_writeOnly s src]
@[simp] theorem State.notify_mode (src : Source) : (s.notify src).mode = s.mode := by rw [State.notify_writeOnly s src]
@[simp] theorem State.notify_pending (src : Source) : (s.notify src).pending = s.pending := by rw [State.notify_writeOnly s src]

/-! ### `State.write` -/

@[simp] theorem State.write_now (t : OwnTag) (v : Int) : (s.write t v).now = s.now := by rw [State.write_writeOnly s t v]
@[simp] theorem State.write_pins (t : OwnTag) (v : Int) : (s.write t v).pins = s.pins := by rw [State.write_writeOnly s t v]
@[simp] theorem State.write_start (t : OwnTag) (v : Int) : (s.write t v).start = s.start := by rw [State.write_writeOnly s t v]
@[simp] theorem State.write_image (t : OwnTag) (v : Int) : (s.write t v).image = s.image := by rw [State.write_writeOnly s t v]
@[simp] theorem State.write_rawImage (t : OwnTag) (v : Int) : (s.write t v).rawImage = s.rawImage := by rw [State.write_writeOnly s t v]
@[simp] theorem State.write_view (t : OwnTag) (v : Int) : (s.write t v).view = s.view := by rw [State.write_writeOnly s t v]
@[simp] theorem State.write_share (t : OwnTag) (v : Int) : (s.write t v).share = s.share := by rw [State.write_writeOnly s t v]
@[simp] theorem State.write_sensors (t : OwnTag) (v : Int) : (s.write t v).sensors = s.sensors := by rw [State.write_writeOnly s t v]
@[simp] theorem State.write_switches (t : OwnTag) (v : Int) : (s.write t v).switches = s.switches := by rw [State.write_writeOnly s t v]
@[simp] theorem State.write_frost (t : OwnTag) (v : Int) : (s.write t v).frost = s.frost := by rw [State.write_writeOnly s t v]
@[simp] theorem State.write_defrost (t : OwnTag) (v : Int) : (s.write t v).defrost = s.defrost := by rw [State.write_writeOnly s t v]
@[simp] theorem State.write_water (t : OwnTag) (v : Int) : (s.write t v).water = s.water := by rw [State.write_writeOnly s t v]
@[simp] theorem State.write_ice (t : OwnTag) (v : Int) : (s.write t v).ice = s.ice := by rw [State.write_writeOnly s t v]
@[simp] theorem State.write_out (t : OwnTag) (v : Int) : (s.write t v).out = s.out := by rw [State.write_writeOnly s t v]
@[simp] theorem State.write_fault (t : OwnTag) (v : Int) : (s.write t v).fault = s.fault := by rw [State.write_writeOnly s t v]
@[simp] theorem State.write_mode (t : OwnTag) (v : Int) : (s.write t v).mode = s.mode := by rw [State.write_writeOnly s t v]
@[simp] theorem State.write_pending (t : OwnTag) (v : Int) : (s.write t v).pending = s.pending := by rw [State.write_writeOnly s t v]
@[simp] theorem State.write_line_mode (t : OwnTag) (v : Int) : (s.write t v).line.mode = s.line.mode := by rw [State.write_writeOnly s t v]
@[simp] theorem State.write_line_driver (t : OwnTag) (v : Int) : (s.write t v).line.driver = s.line.driver := by rw [State.write_writeOnly s t v]
@[simp] theorem State.write_line_queue (t : OwnTag) (v : Int) : (s.write t v).line.queue = s.line.queue := by rw [State.write_writeOnly s t v]
@[simp] theorem State.write_line_statusOwed (t : OwnTag) (v : Int) : (s.write t v).line.statusOwed = s.line.statusOwed := by rw [State.write_writeOnly s t v]
@[simp] theorem State.write_line_period (t : OwnTag) (v : Int) : (s.write t v).line.period = s.line.period := by rw [State.write_writeOnly s t v]
@[simp] theorem State.write_line_orderCount (t : OwnTag) (v : Int) : (s.write t v).line.orderCount = s.line.orderCount := by rw [State.write_writeOnly s t v]
@[simp] theorem State.write_line_stuckShort (t : OwnTag) (v : Int) : (s.write t v).line.stuckShort = s.line.stuckShort := by rw [State.write_writeOnly s t v]
@[simp] theorem State.write_line_stuckLong (t : OwnTag) (v : Int) : (s.write t v).line.stuckLong = s.line.stuckLong := by rw [State.write_writeOnly s t v]
@[simp] theorem State.write_line_recessive (t : OwnTag) (v : Int) : (s.write t v).line.recessive = s.line.recessive := by rw [State.write_writeOnly s t v]
@[simp] theorem State.write_line_idle (t : OwnTag) (v : Int) : (s.write t v).line.idle = s.line.idle := by rw [State.write_writeOnly s t v]
@[simp] theorem State.write_line_txEnd (t : OwnTag) (v : Int) : (s.write t v).line.txEnd = s.line.txEnd := by rw [State.write_writeOnly s t v]
@[simp] theorem State.write_line_island (t : OwnTag) (v : Int) : (s.write t v).line.island = s.line.island := by rw [State.write_writeOnly s t v]
@[simp] theorem State.write_line_alone (t : OwnTag) (v : Int) : (s.write t v).line.alone = s.line.alone := by rw [State.write_writeOnly s t v]
@[simp] theorem State.write_line_lineGood (t : OwnTag) (v : Int) : (s.write t v).line.lineGood = s.line.lineGood := by rw [State.write_writeOnly s t v]
@[simp] theorem State.write_line_goodTimer (t : OwnTag) (v : Int) : (s.write t v).line.goodTimer = s.line.goodTimer := by rw [State.write_writeOnly s t v]
@[simp] theorem State.write_line_returnListen (t : OwnTag) (v : Int) : (s.write t v).line.returnListen = s.line.returnListen := by rw [State.write_writeOnly s t v]
@[simp] theorem State.write_line_rotation (t : OwnTag) (v : Int) : (s.write t v).line.rotation = s.line.rotation := by rw [State.write_writeOnly s t v]

/-! ### `State.writeEvent` -/

@[simp] theorem State.writeEvent_now (v : Int) : (s.writeEvent v).now = s.now := by rw [State.writeEvent_writeOnly s v]
@[simp] theorem State.writeEvent_pins (v : Int) : (s.writeEvent v).pins = s.pins := by rw [State.writeEvent_writeOnly s v]
@[simp] theorem State.writeEvent_start (v : Int) : (s.writeEvent v).start = s.start := by rw [State.writeEvent_writeOnly s v]
@[simp] theorem State.writeEvent_image (v : Int) : (s.writeEvent v).image = s.image := by rw [State.writeEvent_writeOnly s v]
@[simp] theorem State.writeEvent_rawImage (v : Int) : (s.writeEvent v).rawImage = s.rawImage := by rw [State.writeEvent_writeOnly s v]
@[simp] theorem State.writeEvent_view (v : Int) : (s.writeEvent v).view = s.view := by rw [State.writeEvent_writeOnly s v]
@[simp] theorem State.writeEvent_share (v : Int) : (s.writeEvent v).share = s.share := by rw [State.writeEvent_writeOnly s v]
@[simp] theorem State.writeEvent_sensors (v : Int) : (s.writeEvent v).sensors = s.sensors := by rw [State.writeEvent_writeOnly s v]
@[simp] theorem State.writeEvent_switches (v : Int) : (s.writeEvent v).switches = s.switches := by rw [State.writeEvent_writeOnly s v]
@[simp] theorem State.writeEvent_frost (v : Int) : (s.writeEvent v).frost = s.frost := by rw [State.writeEvent_writeOnly s v]
@[simp] theorem State.writeEvent_defrost (v : Int) : (s.writeEvent v).defrost = s.defrost := by rw [State.writeEvent_writeOnly s v]
@[simp] theorem State.writeEvent_water (v : Int) : (s.writeEvent v).water = s.water := by rw [State.writeEvent_writeOnly s v]
@[simp] theorem State.writeEvent_ice (v : Int) : (s.writeEvent v).ice = s.ice := by rw [State.writeEvent_writeOnly s v]
@[simp] theorem State.writeEvent_out (v : Int) : (s.writeEvent v).out = s.out := by rw [State.writeEvent_writeOnly s v]
@[simp] theorem State.writeEvent_fault (v : Int) : (s.writeEvent v).fault = s.fault := by rw [State.writeEvent_writeOnly s v]
@[simp] theorem State.writeEvent_mode (v : Int) : (s.writeEvent v).mode = s.mode := by rw [State.writeEvent_writeOnly s v]
@[simp] theorem State.writeEvent_pending (v : Int) : (s.writeEvent v).pending = s.pending := by rw [State.writeEvent_writeOnly s v]
@[simp] theorem State.writeEvent_line_mode (v : Int) : (s.writeEvent v).line.mode = s.line.mode := by rw [State.writeEvent_writeOnly s v]
@[simp] theorem State.writeEvent_line_driver (v : Int) : (s.writeEvent v).line.driver = s.line.driver := by rw [State.writeEvent_writeOnly s v]
@[simp] theorem State.writeEvent_line_queue (v : Int) : (s.writeEvent v).line.queue = s.line.queue := by rw [State.writeEvent_writeOnly s v]
@[simp] theorem State.writeEvent_line_statusOwed (v : Int) : (s.writeEvent v).line.statusOwed = s.line.statusOwed := by rw [State.writeEvent_writeOnly s v]
@[simp] theorem State.writeEvent_line_period (v : Int) : (s.writeEvent v).line.period = s.line.period := by rw [State.writeEvent_writeOnly s v]
@[simp] theorem State.writeEvent_line_orderCount (v : Int) : (s.writeEvent v).line.orderCount = s.line.orderCount := by rw [State.writeEvent_writeOnly s v]
@[simp] theorem State.writeEvent_line_stuckShort (v : Int) : (s.writeEvent v).line.stuckShort = s.line.stuckShort := by rw [State.writeEvent_writeOnly s v]
@[simp] theorem State.writeEvent_line_stuckLong (v : Int) : (s.writeEvent v).line.stuckLong = s.line.stuckLong := by rw [State.writeEvent_writeOnly s v]
@[simp] theorem State.writeEvent_line_recessive (v : Int) : (s.writeEvent v).line.recessive = s.line.recessive := by rw [State.writeEvent_writeOnly s v]
@[simp] theorem State.writeEvent_line_idle (v : Int) : (s.writeEvent v).line.idle = s.line.idle := by rw [State.writeEvent_writeOnly s v]
@[simp] theorem State.writeEvent_line_txEnd (v : Int) : (s.writeEvent v).line.txEnd = s.line.txEnd := by rw [State.writeEvent_writeOnly s v]
@[simp] theorem State.writeEvent_line_island (v : Int) : (s.writeEvent v).line.island = s.line.island := by rw [State.writeEvent_writeOnly s v]
@[simp] theorem State.writeEvent_line_alone (v : Int) : (s.writeEvent v).line.alone = s.line.alone := by rw [State.writeEvent_writeOnly s v]
@[simp] theorem State.writeEvent_line_lineGood (v : Int) : (s.writeEvent v).line.lineGood = s.line.lineGood := by rw [State.writeEvent_writeOnly s v]
@[simp] theorem State.writeEvent_line_goodTimer (v : Int) : (s.writeEvent v).line.goodTimer = s.line.goodTimer := by rw [State.writeEvent_writeOnly s v]
@[simp] theorem State.writeEvent_line_returnListen (v : Int) : (s.writeEvent v).line.returnListen = s.line.returnListen := by rw [State.writeEvent_writeOnly s v]
@[simp] theorem State.writeEvent_line_rotation (v : Int) : (s.writeEvent v).line.rotation = s.line.rotation := by rw [State.writeEvent_writeOnly s v]

/-! ### `State.writeFlags` -/

@[simp] theorem State.writeFlags_now : (s.writeFlags).now = s.now := by rw [State.writeFlags_writeOnly s]
@[simp] theorem State.writeFlags_pins : (s.writeFlags).pins = s.pins := by rw [State.writeFlags_writeOnly s]
@[simp] theorem State.writeFlags_start : (s.writeFlags).start = s.start := by rw [State.writeFlags_writeOnly s]
@[simp] theorem State.writeFlags_image : (s.writeFlags).image = s.image := by rw [State.writeFlags_writeOnly s]
@[simp] theorem State.writeFlags_rawImage : (s.writeFlags).rawImage = s.rawImage := by rw [State.writeFlags_writeOnly s]
@[simp] theorem State.writeFlags_view : (s.writeFlags).view = s.view := by rw [State.writeFlags_writeOnly s]
@[simp] theorem State.writeFlags_share : (s.writeFlags).share = s.share := by rw [State.writeFlags_writeOnly s]
@[simp] theorem State.writeFlags_sensors : (s.writeFlags).sensors = s.sensors := by rw [State.writeFlags_writeOnly s]
@[simp] theorem State.writeFlags_switches : (s.writeFlags).switches = s.switches := by rw [State.writeFlags_writeOnly s]
@[simp] theorem State.writeFlags_frost : (s.writeFlags).frost = s.frost := by rw [State.writeFlags_writeOnly s]
@[simp] theorem State.writeFlags_defrost : (s.writeFlags).defrost = s.defrost := by rw [State.writeFlags_writeOnly s]
@[simp] theorem State.writeFlags_water : (s.writeFlags).water = s.water := by rw [State.writeFlags_writeOnly s]
@[simp] theorem State.writeFlags_ice : (s.writeFlags).ice = s.ice := by rw [State.writeFlags_writeOnly s]
@[simp] theorem State.writeFlags_out : (s.writeFlags).out = s.out := by rw [State.writeFlags_writeOnly s]
@[simp] theorem State.writeFlags_fault : (s.writeFlags).fault = s.fault := by rw [State.writeFlags_writeOnly s]
@[simp] theorem State.writeFlags_mode : (s.writeFlags).mode = s.mode := by rw [State.writeFlags_writeOnly s]
@[simp] theorem State.writeFlags_pending : (s.writeFlags).pending = s.pending := by rw [State.writeFlags_writeOnly s]
@[simp] theorem State.writeFlags_line_mode : (s.writeFlags).line.mode = s.line.mode := by rw [State.writeFlags_writeOnly s]
@[simp] theorem State.writeFlags_line_driver : (s.writeFlags).line.driver = s.line.driver := by rw [State.writeFlags_writeOnly s]
@[simp] theorem State.writeFlags_line_queue : (s.writeFlags).line.queue = s.line.queue := by rw [State.writeFlags_writeOnly s]
@[simp] theorem State.writeFlags_line_statusOwed : (s.writeFlags).line.statusOwed = s.line.statusOwed := by rw [State.writeFlags_writeOnly s]
@[simp] theorem State.writeFlags_line_period : (s.writeFlags).line.period = s.line.period := by rw [State.writeFlags_writeOnly s]
@[simp] theorem State.writeFlags_line_orderCount : (s.writeFlags).line.orderCount = s.line.orderCount := by rw [State.writeFlags_writeOnly s]
@[simp] theorem State.writeFlags_line_stuckShort : (s.writeFlags).line.stuckShort = s.line.stuckShort := by rw [State.writeFlags_writeOnly s]
@[simp] theorem State.writeFlags_line_stuckLong : (s.writeFlags).line.stuckLong = s.line.stuckLong := by rw [State.writeFlags_writeOnly s]
@[simp] theorem State.writeFlags_line_recessive : (s.writeFlags).line.recessive = s.line.recessive := by rw [State.writeFlags_writeOnly s]
@[simp] theorem State.writeFlags_line_idle : (s.writeFlags).line.idle = s.line.idle := by rw [State.writeFlags_writeOnly s]
@[simp] theorem State.writeFlags_line_txEnd : (s.writeFlags).line.txEnd = s.line.txEnd := by rw [State.writeFlags_writeOnly s]
@[simp] theorem State.writeFlags_line_island : (s.writeFlags).line.island = s.line.island := by rw [State.writeFlags_writeOnly s]
@[simp] theorem State.writeFlags_line_alone : (s.writeFlags).line.alone = s.line.alone := by rw [State.writeFlags_writeOnly s]
@[simp] theorem State.writeFlags_line_lineGood : (s.writeFlags).line.lineGood = s.line.lineGood := by rw [State.writeFlags_writeOnly s]
@[simp] theorem State.writeFlags_line_goodTimer : (s.writeFlags).line.goodTimer = s.line.goodTimer := by rw [State.writeFlags_writeOnly s]
@[simp] theorem State.writeFlags_line_returnListen : (s.writeFlags).line.returnListen = s.line.returnListen := by rw [State.writeFlags_writeOnly s]
@[simp] theorem State.writeFlags_line_rotation : (s.writeFlags).line.rotation = s.line.rotation := by rw [State.writeFlags_writeOnly s]

/-! ### `State.setTRes` -/

@[simp] theorem State.setTRes_now (v : Int) : (s.setTRes v).now = s.now := by rw [State.setTRes_mixOnly s v]
@[simp] theorem State.setTRes_pins (v : Int) : (s.setTRes v).pins = s.pins := by rw [State.setTRes_mixOnly s v]
@[simp] theorem State.setTRes_start (v : Int) : (s.setTRes v).start = s.start := by rw [State.setTRes_mixOnly s v]
@[simp] theorem State.setTRes_image (v : Int) : (s.setTRes v).image = s.image := by rw [State.setTRes_mixOnly s v]
@[simp] theorem State.setTRes_rawImage (v : Int) : (s.setTRes v).rawImage = s.rawImage := by rw [State.setTRes_mixOnly s v]
@[simp] theorem State.setTRes_view (v : Int) : (s.setTRes v).view = s.view := by rw [State.setTRes_mixOnly s v]
@[simp] theorem State.setTRes_share (v : Int) : (s.setTRes v).share = s.share := by rw [State.setTRes_mixOnly s v]
@[simp] theorem State.setTRes_sensors (v : Int) : (s.setTRes v).sensors = s.sensors := by rw [State.setTRes_mixOnly s v]
@[simp] theorem State.setTRes_switches (v : Int) : (s.setTRes v).switches = s.switches := by rw [State.setTRes_mixOnly s v]
@[simp] theorem State.setTRes_frost (v : Int) : (s.setTRes v).frost = s.frost := by rw [State.setTRes_mixOnly s v]
@[simp] theorem State.setTRes_defrost (v : Int) : (s.setTRes v).defrost = s.defrost := by rw [State.setTRes_mixOnly s v]
@[simp] theorem State.setTRes_ice (v : Int) : (s.setTRes v).ice = s.ice := by rw [State.setTRes_mixOnly s v]
@[simp] theorem State.setTRes_out (v : Int) : (s.setTRes v).out = s.out := by simp [State.setTRes]
@[simp] theorem State.setTRes_fault (v : Int) : (s.setTRes v).fault = s.fault := by rw [State.setTRes_mixOnly s v]
@[simp] theorem State.setTRes_mode (v : Int) : (s.setTRes v).mode = s.mode := by rw [State.setTRes_mixOnly s v]
@[simp] theorem State.setTRes_pending (v : Int) : (s.setTRes v).pending = s.pending := by rw [State.setTRes_mixOnly s v]
@[simp] theorem State.setTRes_line_mode (v : Int) : (s.setTRes v).line.mode = s.line.mode := by rw [State.setTRes_mixOnly s v]
@[simp] theorem State.setTRes_line_driver (v : Int) : (s.setTRes v).line.driver = s.line.driver := by rw [State.setTRes_mixOnly s v]
@[simp] theorem State.setTRes_line_queue (v : Int) : (s.setTRes v).line.queue = s.line.queue := by rw [State.setTRes_mixOnly s v]
@[simp] theorem State.setTRes_line_statusOwed (v : Int) : (s.setTRes v).line.statusOwed = s.line.statusOwed := by rw [State.setTRes_mixOnly s v]
@[simp] theorem State.setTRes_line_period (v : Int) : (s.setTRes v).line.period = s.line.period := by rw [State.setTRes_mixOnly s v]
@[simp] theorem State.setTRes_line_orderCount (v : Int) : (s.setTRes v).line.orderCount = s.line.orderCount := by rw [State.setTRes_mixOnly s v]
@[simp] theorem State.setTRes_line_stuckShort (v : Int) : (s.setTRes v).line.stuckShort = s.line.stuckShort := by rw [State.setTRes_mixOnly s v]
@[simp] theorem State.setTRes_line_stuckLong (v : Int) : (s.setTRes v).line.stuckLong = s.line.stuckLong := by rw [State.setTRes_mixOnly s v]
@[simp] theorem State.setTRes_line_recessive (v : Int) : (s.setTRes v).line.recessive = s.line.recessive := by rw [State.setTRes_mixOnly s v]
@[simp] theorem State.setTRes_line_idle (v : Int) : (s.setTRes v).line.idle = s.line.idle := by rw [State.setTRes_mixOnly s v]
@[simp] theorem State.setTRes_line_txEnd (v : Int) : (s.setTRes v).line.txEnd = s.line.txEnd := by rw [State.setTRes_mixOnly s v]
@[simp] theorem State.setTRes_line_island (v : Int) : (s.setTRes v).line.island = s.line.island := by rw [State.setTRes_mixOnly s v]
@[simp] theorem State.setTRes_line_alone (v : Int) : (s.setTRes v).line.alone = s.line.alone := by rw [State.setTRes_mixOnly s v]
@[simp] theorem State.setTRes_line_lineGood (v : Int) : (s.setTRes v).line.lineGood = s.line.lineGood := by rw [State.setTRes_mixOnly s v]
@[simp] theorem State.setTRes_line_goodTimer (v : Int) : (s.setTRes v).line.goodTimer = s.line.goodTimer := by rw [State.setTRes_mixOnly s v]
@[simp] theorem State.setTRes_line_returnListen (v : Int) : (s.setTRes v).line.returnListen = s.line.returnListen := by rw [State.setTRes_mixOnly s v]
@[simp] theorem State.setTRes_line_rotation (v : Int) : (s.setTRes v).line.rotation = s.line.rotation := by rw [State.setTRes_mixOnly s v]
@[simp] theorem State.setTRes_water_path (v : Int) : (s.setTRes v).water.path = s.water.path := by rw [State.setTRes_mixOnly s v]
@[simp] theorem State.setTRes_water_queue (v : Int) : (s.setTRes v).water.queue = s.water.queue := by rw [State.setTRes_mixOnly s v]
@[simp] theorem State.setTRes_water_current (v : Int) : (s.setTRes v).water.current = s.water.current := by rw [State.setTRes_mixOnly s v]
@[simp] theorem State.setTRes_water_held (v : Int) : (s.setTRes v).water.held = s.water.held := by rw [State.setTRes_mixOnly s v]
@[simp] theorem State.setTRes_water_dispense (v : Int) : (s.setTRes v).water.dispense = s.water.dispense := by rw [State.setTRes_mixOnly s v]
@[simp] theorem State.setTRes_water_lineHold (v : Int) : (s.setTRes v).water.lineHold = s.water.lineHold := by rw [State.setTRes_mixOnly s v]
@[simp] theorem State.setTRes_water_estimated (v : Int) : (s.setTRes v).water.estimated = s.water.estimated := by rw [State.setTRes_mixOnly s v]
@[simp] theorem State.setTRes_water_rate (v : Int) : (s.setTRes v).water.rate = s.water.rate := by rw [State.setTRes_mixOnly s v]
@[simp] theorem State.setTRes_water_openedAt (v : Int) : (s.setTRes v).water.openedAt = s.water.openedAt := by rw [State.setTRes_mixOnly s v]
@[simp] theorem State.setTRes_water_pulses (v : Int) : (s.setTRes v).water.pulses = s.water.pulses := by rw [State.setTRes_mixOnly s v]
@[simp] theorem State.setTRes_water_closedVolume (v : Int) : (s.setTRes v).water.closedVolume = s.water.closedVolume := by rw [State.setTRes_mixOnly s v]
@[simp] theorem State.setTRes_water_runawayHold (v : Int) : (s.setTRes v).water.runawayHold = s.water.runawayHold := by rw [State.setTRes_mixOnly s v]
@[simp] theorem State.setTRes_water_fillLimit (v : Int) : (s.setTRes v).water.fillLimit = s.water.fillLimit := by rw [State.setTRes_mixOnly s v]
@[simp] theorem State.setTRes_water_dispenseLimit (v : Int) : (s.setTRes v).water.dispenseLimit = s.water.dispenseLimit := by rw [State.setTRes_mixOnly s v]
@[simp] theorem State.setTRes_water_settling (v : Int) : (s.setTRes v).water.settling = s.water.settling := by rw [State.setTRes_mixOnly s v]
@[simp] theorem State.setTRes_water_relaxation (v : Int) : (s.setTRes v).water.relaxation = s.water.relaxation := by rw [State.setTRes_mixOnly s v]

/-! ### `State.mixRemainder` -/

@[simp] theorem State.mixRemainder_now : (s.mixRemainder).now = s.now := by rw [State.mixRemainder_mixOnly s]
@[simp] theorem State.mixRemainder_pins : (s.mixRemainder).pins = s.pins := by rw [State.mixRemainder_mixOnly s]
@[simp] theorem State.mixRemainder_start : (s.mixRemainder).start = s.start := by rw [State.mixRemainder_mixOnly s]
@[simp] theorem State.mixRemainder_image : (s.mixRemainder).image = s.image := by rw [State.mixRemainder_mixOnly s]
@[simp] theorem State.mixRemainder_rawImage : (s.mixRemainder).rawImage = s.rawImage := by rw [State.mixRemainder_mixOnly s]
@[simp] theorem State.mixRemainder_view : (s.mixRemainder).view = s.view := by rw [State.mixRemainder_mixOnly s]
@[simp] theorem State.mixRemainder_share : (s.mixRemainder).share = s.share := by rw [State.mixRemainder_mixOnly s]
@[simp] theorem State.mixRemainder_sensors : (s.mixRemainder).sensors = s.sensors := by rw [State.mixRemainder_mixOnly s]
@[simp] theorem State.mixRemainder_switches : (s.mixRemainder).switches = s.switches := by rw [State.mixRemainder_mixOnly s]
@[simp] theorem State.mixRemainder_frost : (s.mixRemainder).frost = s.frost := by rw [State.mixRemainder_mixOnly s]
@[simp] theorem State.mixRemainder_defrost : (s.mixRemainder).defrost = s.defrost := by rw [State.mixRemainder_mixOnly s]
@[simp] theorem State.mixRemainder_ice : (s.mixRemainder).ice = s.ice := by rw [State.mixRemainder_mixOnly s]
@[simp] theorem State.mixRemainder_out : (s.mixRemainder).out = s.out := by unfold State.mixRemainder; split <;> simp [State.mixStep]
@[simp] theorem State.mixRemainder_fault : (s.mixRemainder).fault = s.fault := by rw [State.mixRemainder_mixOnly s]
@[simp] theorem State.mixRemainder_mode : (s.mixRemainder).mode = s.mode := by rw [State.mixRemainder_mixOnly s]
@[simp] theorem State.mixRemainder_pending : (s.mixRemainder).pending = s.pending := by rw [State.mixRemainder_mixOnly s]
@[simp] theorem State.mixRemainder_line_mode : (s.mixRemainder).line.mode = s.line.mode := by rw [State.mixRemainder_mixOnly s]
@[simp] theorem State.mixRemainder_line_driver : (s.mixRemainder).line.driver = s.line.driver := by rw [State.mixRemainder_mixOnly s]
@[simp] theorem State.mixRemainder_line_queue : (s.mixRemainder).line.queue = s.line.queue := by rw [State.mixRemainder_mixOnly s]
@[simp] theorem State.mixRemainder_line_statusOwed : (s.mixRemainder).line.statusOwed = s.line.statusOwed := by rw [State.mixRemainder_mixOnly s]
@[simp] theorem State.mixRemainder_line_period : (s.mixRemainder).line.period = s.line.period := by rw [State.mixRemainder_mixOnly s]
@[simp] theorem State.mixRemainder_line_orderCount : (s.mixRemainder).line.orderCount = s.line.orderCount := by rw [State.mixRemainder_mixOnly s]
@[simp] theorem State.mixRemainder_line_stuckShort : (s.mixRemainder).line.stuckShort = s.line.stuckShort := by rw [State.mixRemainder_mixOnly s]
@[simp] theorem State.mixRemainder_line_stuckLong : (s.mixRemainder).line.stuckLong = s.line.stuckLong := by rw [State.mixRemainder_mixOnly s]
@[simp] theorem State.mixRemainder_line_recessive : (s.mixRemainder).line.recessive = s.line.recessive := by rw [State.mixRemainder_mixOnly s]
@[simp] theorem State.mixRemainder_line_idle : (s.mixRemainder).line.idle = s.line.idle := by rw [State.mixRemainder_mixOnly s]
@[simp] theorem State.mixRemainder_line_txEnd : (s.mixRemainder).line.txEnd = s.line.txEnd := by rw [State.mixRemainder_mixOnly s]
@[simp] theorem State.mixRemainder_line_island : (s.mixRemainder).line.island = s.line.island := by rw [State.mixRemainder_mixOnly s]
@[simp] theorem State.mixRemainder_line_alone : (s.mixRemainder).line.alone = s.line.alone := by rw [State.mixRemainder_mixOnly s]
@[simp] theorem State.mixRemainder_line_lineGood : (s.mixRemainder).line.lineGood = s.line.lineGood := by rw [State.mixRemainder_mixOnly s]
@[simp] theorem State.mixRemainder_line_goodTimer : (s.mixRemainder).line.goodTimer = s.line.goodTimer := by rw [State.mixRemainder_mixOnly s]
@[simp] theorem State.mixRemainder_line_returnListen : (s.mixRemainder).line.returnListen = s.line.returnListen := by rw [State.mixRemainder_mixOnly s]
@[simp] theorem State.mixRemainder_line_rotation : (s.mixRemainder).line.rotation = s.line.rotation := by rw [State.mixRemainder_mixOnly s]
@[simp] theorem State.mixRemainder_water_path : (s.mixRemainder).water.path = s.water.path := by rw [State.mixRemainder_mixOnly s]
@[simp] theorem State.mixRemainder_water_queue : (s.mixRemainder).water.queue = s.water.queue := by rw [State.mixRemainder_mixOnly s]
@[simp] theorem State.mixRemainder_water_current : (s.mixRemainder).water.current = s.water.current := by rw [State.mixRemainder_mixOnly s]
@[simp] theorem State.mixRemainder_water_held : (s.mixRemainder).water.held = s.water.held := by rw [State.mixRemainder_mixOnly s]
@[simp] theorem State.mixRemainder_water_dispense : (s.mixRemainder).water.dispense = s.water.dispense := by rw [State.mixRemainder_mixOnly s]
@[simp] theorem State.mixRemainder_water_lineHold : (s.mixRemainder).water.lineHold = s.water.lineHold := by rw [State.mixRemainder_mixOnly s]
@[simp] theorem State.mixRemainder_water_estimated : (s.mixRemainder).water.estimated = s.water.estimated := by rw [State.mixRemainder_mixOnly s]
@[simp] theorem State.mixRemainder_water_rate : (s.mixRemainder).water.rate = s.water.rate := by rw [State.mixRemainder_mixOnly s]
@[simp] theorem State.mixRemainder_water_openedAt : (s.mixRemainder).water.openedAt = s.water.openedAt := by rw [State.mixRemainder_mixOnly s]
@[simp] theorem State.mixRemainder_water_pulses : (s.mixRemainder).water.pulses = s.water.pulses := by rw [State.mixRemainder_mixOnly s]
@[simp] theorem State.mixRemainder_water_closedVolume : (s.mixRemainder).water.closedVolume = s.water.closedVolume := by rw [State.mixRemainder_mixOnly s]
@[simp] theorem State.mixRemainder_water_runawayHold : (s.mixRemainder).water.runawayHold = s.water.runawayHold := by rw [State.mixRemainder_mixOnly s]
@[simp] theorem State.mixRemainder_water_fillLimit : (s.mixRemainder).water.fillLimit = s.water.fillLimit := by rw [State.mixRemainder_mixOnly s]
@[simp] theorem State.mixRemainder_water_dispenseLimit : (s.mixRemainder).water.dispenseLimit = s.water.dispenseLimit := by rw [State.mixRemainder_mixOnly s]
@[simp] theorem State.mixRemainder_water_settling : (s.mixRemainder).water.settling = s.water.settling := by rw [State.mixRemainder_mixOnly s]
@[simp] theorem State.mixRemainder_water_relaxation : (s.mixRemainder).water.relaxation = s.water.relaxation := by rw [State.mixRemainder_mixOnly s]

/-! ### `State.resolveFrom` -/

@[simp] theorem State.resolveFrom_now (m : Option Output) : (s.resolveFrom m).now = s.now := by rw [State.resolveFrom_resolveOnly s m]
@[simp] theorem State.resolveFrom_pins (m : Option Output) : (s.resolveFrom m).pins = s.pins := by rw [State.resolveFrom_resolveOnly s m]
@[simp] theorem State.resolveFrom_start (m : Option Output) : (s.resolveFrom m).start = s.start := by rw [State.resolveFrom_resolveOnly s m]
@[simp] theorem State.resolveFrom_image (m : Option Output) : (s.resolveFrom m).image = s.image := by rw [State.resolveFrom_resolveOnly s m]
@[simp] theorem State.resolveFrom_rawImage (m : Option Output) : (s.resolveFrom m).rawImage = s.rawImage := by rw [State.resolveFrom_resolveOnly s m]
@[simp] theorem State.resolveFrom_view (m : Option Output) : (s.resolveFrom m).view = s.view := by rw [State.resolveFrom_resolveOnly s m]
@[simp] theorem State.resolveFrom_share (m : Option Output) : (s.resolveFrom m).share = s.share := by rw [State.resolveFrom_resolveOnly s m]
@[simp] theorem State.resolveFrom_sensors (m : Option Output) : (s.resolveFrom m).sensors = s.sensors := by rw [State.resolveFrom_resolveOnly s m]
@[simp] theorem State.resolveFrom_switches (m : Option Output) : (s.resolveFrom m).switches = s.switches := by rw [State.resolveFrom_resolveOnly s m]
@[simp] theorem State.resolveFrom_frost (m : Option Output) : (s.resolveFrom m).frost = s.frost := by rw [State.resolveFrom_resolveOnly s m]
@[simp] theorem State.resolveFrom_defrost (m : Option Output) : (s.resolveFrom m).defrost = s.defrost := by rw [State.resolveFrom_resolveOnly s m]
@[simp] theorem State.resolveFrom_ice (m : Option Output) : (s.resolveFrom m).ice = s.ice := by rw [State.resolveFrom_resolveOnly s m]
@[simp] theorem State.resolveFrom_fault (m : Option Output) : (s.resolveFrom m).fault = s.fault := by rw [State.resolveFrom_resolveOnly s m]
@[simp] theorem State.resolveFrom_mode (m : Option Output) : (s.resolveFrom m).mode = s.mode := by rw [State.resolveFrom_resolveOnly s m]
@[simp] theorem State.resolveFrom_pending (m : Option Output) : (s.resolveFrom m).pending = s.pending := by rw [State.resolveFrom_resolveOnly s m]
@[simp] theorem State.resolveFrom_line_mode (m : Option Output) : (s.resolveFrom m).line.mode = s.line.mode := by rw [State.resolveFrom_resolveOnly s m]
@[simp] theorem State.resolveFrom_line_driver (m : Option Output) : (s.resolveFrom m).line.driver = s.line.driver := by rw [State.resolveFrom_resolveOnly s m]
@[simp] theorem State.resolveFrom_line_queue (m : Option Output) : (s.resolveFrom m).line.queue = s.line.queue := by rw [State.resolveFrom_resolveOnly s m]
@[simp] theorem State.resolveFrom_line_statusOwed (m : Option Output) : (s.resolveFrom m).line.statusOwed = s.line.statusOwed := by rw [State.resolveFrom_resolveOnly s m]
@[simp] theorem State.resolveFrom_line_period (m : Option Output) : (s.resolveFrom m).line.period = s.line.period := by rw [State.resolveFrom_resolveOnly s m]
@[simp] theorem State.resolveFrom_line_orderCount (m : Option Output) : (s.resolveFrom m).line.orderCount = s.line.orderCount := by rw [State.resolveFrom_resolveOnly s m]
@[simp] theorem State.resolveFrom_line_stuckShort (m : Option Output) : (s.resolveFrom m).line.stuckShort = s.line.stuckShort := by rw [State.resolveFrom_resolveOnly s m]
@[simp] theorem State.resolveFrom_line_stuckLong (m : Option Output) : (s.resolveFrom m).line.stuckLong = s.line.stuckLong := by rw [State.resolveFrom_resolveOnly s m]
@[simp] theorem State.resolveFrom_line_recessive (m : Option Output) : (s.resolveFrom m).line.recessive = s.line.recessive := by rw [State.resolveFrom_resolveOnly s m]
@[simp] theorem State.resolveFrom_line_idle (m : Option Output) : (s.resolveFrom m).line.idle = s.line.idle := by rw [State.resolveFrom_resolveOnly s m]
@[simp] theorem State.resolveFrom_line_txEnd (m : Option Output) : (s.resolveFrom m).line.txEnd = s.line.txEnd := by rw [State.resolveFrom_resolveOnly s m]
@[simp] theorem State.resolveFrom_line_island (m : Option Output) : (s.resolveFrom m).line.island = s.line.island := by rw [State.resolveFrom_resolveOnly s m]
@[simp] theorem State.resolveFrom_line_alone (m : Option Output) : (s.resolveFrom m).line.alone = s.line.alone := by rw [State.resolveFrom_resolveOnly s m]
@[simp] theorem State.resolveFrom_line_lineGood (m : Option Output) : (s.resolveFrom m).line.lineGood = s.line.lineGood := by rw [State.resolveFrom_resolveOnly s m]
@[simp] theorem State.resolveFrom_line_goodTimer (m : Option Output) : (s.resolveFrom m).line.goodTimer = s.line.goodTimer := by rw [State.resolveFrom_resolveOnly s m]
@[simp] theorem State.resolveFrom_line_returnListen (m : Option Output) : (s.resolveFrom m).line.returnListen = s.line.returnListen := by rw [State.resolveFrom_resolveOnly s m]
@[simp] theorem State.resolveFrom_line_rotation (m : Option Output) : (s.resolveFrom m).line.rotation = s.line.rotation := by rw [State.resolveFrom_resolveOnly s m]
@[simp] theorem State.resolveFrom_water_path (m : Option Output) : (s.resolveFrom m).water.path = s.water.path := by rw [State.resolveFrom_resolveOnly s m]
@[simp] theorem State.resolveFrom_water_queue (m : Option Output) : (s.resolveFrom m).water.queue = s.water.queue := by rw [State.resolveFrom_resolveOnly s m]
@[simp] theorem State.resolveFrom_water_current (m : Option Output) : (s.resolveFrom m).water.current = s.water.current := by rw [State.resolveFrom_resolveOnly s m]
@[simp] theorem State.resolveFrom_water_held (m : Option Output) : (s.resolveFrom m).water.held = s.water.held := by rw [State.resolveFrom_resolveOnly s m]
@[simp] theorem State.resolveFrom_water_dispense (m : Option Output) : (s.resolveFrom m).water.dispense = s.water.dispense := by rw [State.resolveFrom_resolveOnly s m]
@[simp] theorem State.resolveFrom_water_lineHold (m : Option Output) : (s.resolveFrom m).water.lineHold = s.water.lineHold := by rw [State.resolveFrom_resolveOnly s m]
@[simp] theorem State.resolveFrom_water_estimated (m : Option Output) : (s.resolveFrom m).water.estimated = s.water.estimated := by rw [State.resolveFrom_resolveOnly s m]
@[simp] theorem State.resolveFrom_water_closedVolume (m : Option Output) : (s.resolveFrom m).water.closedVolume = s.water.closedVolume := by rw [State.resolveFrom_resolveOnly s m]
@[simp] theorem State.resolveFrom_water_runawayHold (m : Option Output) : (s.resolveFrom m).water.runawayHold = s.water.runawayHold := by rw [State.resolveFrom_resolveOnly s m]
@[simp] theorem State.resolveFrom_water_fillLimit (m : Option Output) : (s.resolveFrom m).water.fillLimit = s.water.fillLimit := by rw [State.resolveFrom_resolveOnly s m]
@[simp] theorem State.resolveFrom_water_dispenseLimit (m : Option Output) : (s.resolveFrom m).water.dispenseLimit = s.water.dispenseLimit := by rw [State.resolveFrom_resolveOnly s m]
@[simp] theorem State.resolveFrom_water_settling (m : Option Output) : (s.resolveFrom m).water.settling = s.water.settling := by rw [State.resolveFrom_resolveOnly s m]
@[simp] theorem State.resolveFrom_water_relaxation (m : Option Output) : (s.resolveFrom m).water.relaxation = s.water.relaxation := by rw [State.resolveFrom_resolveOnly s m]

/-! ### `State.resolve` -/

@[simp] theorem State.resolve_now : (s.resolve).now = s.now := by rw [State.resolve_resolveOnly s]
@[simp] theorem State.resolve_pins : (s.resolve).pins = s.pins := by rw [State.resolve_resolveOnly s]
@[simp] theorem State.resolve_start : (s.resolve).start = s.start := by rw [State.resolve_resolveOnly s]
@[simp] theorem State.resolve_image : (s.resolve).image = s.image := by rw [State.resolve_resolveOnly s]
@[simp] theorem State.resolve_rawImage : (s.resolve).rawImage = s.rawImage := by rw [State.resolve_resolveOnly s]
@[simp] theorem State.resolve_view : (s.resolve).view = s.view := by rw [State.resolve_resolveOnly s]
@[simp] theorem State.resolve_share : (s.resolve).share = s.share := by rw [State.resolve_resolveOnly s]
@[simp] theorem State.resolve_sensors : (s.resolve).sensors = s.sensors := by rw [State.resolve_resolveOnly s]
@[simp] theorem State.resolve_switches : (s.resolve).switches = s.switches := by rw [State.resolve_resolveOnly s]
@[simp] theorem State.resolve_frost : (s.resolve).frost = s.frost := by rw [State.resolve_resolveOnly s]
@[simp] theorem State.resolve_defrost : (s.resolve).defrost = s.defrost := by rw [State.resolve_resolveOnly s]
@[simp] theorem State.resolve_ice : (s.resolve).ice = s.ice := by rw [State.resolve_resolveOnly s]
@[simp] theorem State.resolve_fault : (s.resolve).fault = s.fault := by rw [State.resolve_resolveOnly s]
@[simp] theorem State.resolve_mode : (s.resolve).mode = s.mode := by rw [State.resolve_resolveOnly s]
@[simp] theorem State.resolve_pending : (s.resolve).pending = s.pending := by rw [State.resolve_resolveOnly s]
@[simp] theorem State.resolve_line_mode : (s.resolve).line.mode = s.line.mode := by rw [State.resolve_resolveOnly s]
@[simp] theorem State.resolve_line_driver : (s.resolve).line.driver = s.line.driver := by rw [State.resolve_resolveOnly s]
@[simp] theorem State.resolve_line_queue : (s.resolve).line.queue = s.line.queue := by rw [State.resolve_resolveOnly s]
@[simp] theorem State.resolve_line_statusOwed : (s.resolve).line.statusOwed = s.line.statusOwed := by rw [State.resolve_resolveOnly s]
@[simp] theorem State.resolve_line_period : (s.resolve).line.period = s.line.period := by rw [State.resolve_resolveOnly s]
@[simp] theorem State.resolve_line_orderCount : (s.resolve).line.orderCount = s.line.orderCount := by rw [State.resolve_resolveOnly s]
@[simp] theorem State.resolve_line_stuckShort : (s.resolve).line.stuckShort = s.line.stuckShort := by rw [State.resolve_resolveOnly s]
@[simp] theorem State.resolve_line_stuckLong : (s.resolve).line.stuckLong = s.line.stuckLong := by rw [State.resolve_resolveOnly s]
@[simp] theorem State.resolve_line_recessive : (s.resolve).line.recessive = s.line.recessive := by rw [State.resolve_resolveOnly s]
@[simp] theorem State.resolve_line_idle : (s.resolve).line.idle = s.line.idle := by rw [State.resolve_resolveOnly s]
@[simp] theorem State.resolve_line_txEnd : (s.resolve).line.txEnd = s.line.txEnd := by rw [State.resolve_resolveOnly s]
@[simp] theorem State.resolve_line_island : (s.resolve).line.island = s.line.island := by rw [State.resolve_resolveOnly s]
@[simp] theorem State.resolve_line_alone : (s.resolve).line.alone = s.line.alone := by rw [State.resolve_resolveOnly s]
@[simp] theorem State.resolve_line_lineGood : (s.resolve).line.lineGood = s.line.lineGood := by rw [State.resolve_resolveOnly s]
@[simp] theorem State.resolve_line_goodTimer : (s.resolve).line.goodTimer = s.line.goodTimer := by rw [State.resolve_resolveOnly s]
@[simp] theorem State.resolve_line_returnListen : (s.resolve).line.returnListen = s.line.returnListen := by rw [State.resolve_resolveOnly s]
@[simp] theorem State.resolve_line_rotation : (s.resolve).line.rotation = s.line.rotation := by rw [State.resolve_resolveOnly s]
@[simp] theorem State.resolve_water_path : (s.resolve).water.path = s.water.path := by rw [State.resolve_resolveOnly s]
@[simp] theorem State.resolve_water_queue : (s.resolve).water.queue = s.water.queue := by rw [State.resolve_resolveOnly s]
@[simp] theorem State.resolve_water_current : (s.resolve).water.current = s.water.current := by rw [State.resolve_resolveOnly s]
@[simp] theorem State.resolve_water_held : (s.resolve).water.held = s.water.held := by rw [State.resolve_resolveOnly s]
@[simp] theorem State.resolve_water_dispense : (s.resolve).water.dispense = s.water.dispense := by rw [State.resolve_resolveOnly s]
@[simp] theorem State.resolve_water_lineHold : (s.resolve).water.lineHold = s.water.lineHold := by rw [State.resolve_resolveOnly s]
@[simp] theorem State.resolve_water_estimated : (s.resolve).water.estimated = s.water.estimated := by rw [State.resolve_resolveOnly s]
@[simp] theorem State.resolve_water_closedVolume : (s.resolve).water.closedVolume = s.water.closedVolume := by rw [State.resolve_resolveOnly s]
@[simp] theorem State.resolve_water_runawayHold : (s.resolve).water.runawayHold = s.water.runawayHold := by rw [State.resolve_resolveOnly s]
@[simp] theorem State.resolve_water_fillLimit : (s.resolve).water.fillLimit = s.water.fillLimit := by rw [State.resolve_resolveOnly s]
@[simp] theorem State.resolve_water_dispenseLimit : (s.resolve).water.dispenseLimit = s.water.dispenseLimit := by rw [State.resolve_resolveOnly s]
@[simp] theorem State.resolve_water_settling : (s.resolve).water.settling = s.water.settling := by rw [State.resolve_resolveOnly s]
@[simp] theorem State.resolve_water_relaxation : (s.resolve).water.relaxation = s.water.relaxation := by rw [State.resolve_resolveOnly s]

/-! ### `State.command` -/

@[simp] theorem State.command_now (o : Output) (d : Drive) : (s.command o d).now = s.now := by rw [State.command_resolveOnly s o d]
@[simp] theorem State.command_pins (o : Output) (d : Drive) : (s.command o d).pins = s.pins := by rw [State.command_resolveOnly s o d]
@[simp] theorem State.command_start (o : Output) (d : Drive) : (s.command o d).start = s.start := by rw [State.command_resolveOnly s o d]
@[simp] theorem State.command_image (o : Output) (d : Drive) : (s.command o d).image = s.image := by rw [State.command_resolveOnly s o d]
@[simp] theorem State.command_rawImage (o : Output) (d : Drive) : (s.command o d).rawImage = s.rawImage := by rw [State.command_resolveOnly s o d]
@[simp] theorem State.command_view (o : Output) (d : Drive) : (s.command o d).view = s.view := by rw [State.command_resolveOnly s o d]
@[simp] theorem State.command_share (o : Output) (d : Drive) : (s.command o d).share = s.share := by rw [State.command_resolveOnly s o d]
@[simp] theorem State.command_sensors (o : Output) (d : Drive) : (s.command o d).sensors = s.sensors := by rw [State.command_resolveOnly s o d]
@[simp] theorem State.command_switches (o : Output) (d : Drive) : (s.command o d).switches = s.switches := by rw [State.command_resolveOnly s o d]
@[simp] theorem State.command_frost (o : Output) (d : Drive) : (s.command o d).frost = s.frost := by rw [State.command_resolveOnly s o d]
@[simp] theorem State.command_defrost (o : Output) (d : Drive) : (s.command o d).defrost = s.defrost := by rw [State.command_resolveOnly s o d]
@[simp] theorem State.command_ice (o : Output) (d : Drive) : (s.command o d).ice = s.ice := by rw [State.command_resolveOnly s o d]
@[simp] theorem State.command_fault (o : Output) (d : Drive) : (s.command o d).fault = s.fault := by rw [State.command_resolveOnly s o d]
@[simp] theorem State.command_mode (o : Output) (d : Drive) : (s.command o d).mode = s.mode := by rw [State.command_resolveOnly s o d]
@[simp] theorem State.command_pending (o : Output) (d : Drive) : (s.command o d).pending = s.pending := by rw [State.command_resolveOnly s o d]
@[simp] theorem State.command_line_mode (o : Output) (d : Drive) : (s.command o d).line.mode = s.line.mode := by rw [State.command_resolveOnly s o d]
@[simp] theorem State.command_line_driver (o : Output) (d : Drive) : (s.command o d).line.driver = s.line.driver := by rw [State.command_resolveOnly s o d]
@[simp] theorem State.command_line_queue (o : Output) (d : Drive) : (s.command o d).line.queue = s.line.queue := by rw [State.command_resolveOnly s o d]
@[simp] theorem State.command_line_statusOwed (o : Output) (d : Drive) : (s.command o d).line.statusOwed = s.line.statusOwed := by rw [State.command_resolveOnly s o d]
@[simp] theorem State.command_line_period (o : Output) (d : Drive) : (s.command o d).line.period = s.line.period := by rw [State.command_resolveOnly s o d]
@[simp] theorem State.command_line_orderCount (o : Output) (d : Drive) : (s.command o d).line.orderCount = s.line.orderCount := by rw [State.command_resolveOnly s o d]
@[simp] theorem State.command_line_stuckShort (o : Output) (d : Drive) : (s.command o d).line.stuckShort = s.line.stuckShort := by rw [State.command_resolveOnly s o d]
@[simp] theorem State.command_line_stuckLong (o : Output) (d : Drive) : (s.command o d).line.stuckLong = s.line.stuckLong := by rw [State.command_resolveOnly s o d]
@[simp] theorem State.command_line_recessive (o : Output) (d : Drive) : (s.command o d).line.recessive = s.line.recessive := by rw [State.command_resolveOnly s o d]
@[simp] theorem State.command_line_idle (o : Output) (d : Drive) : (s.command o d).line.idle = s.line.idle := by rw [State.command_resolveOnly s o d]
@[simp] theorem State.command_line_txEnd (o : Output) (d : Drive) : (s.command o d).line.txEnd = s.line.txEnd := by rw [State.command_resolveOnly s o d]
@[simp] theorem State.command_line_island (o : Output) (d : Drive) : (s.command o d).line.island = s.line.island := by rw [State.command_resolveOnly s o d]
@[simp] theorem State.command_line_alone (o : Output) (d : Drive) : (s.command o d).line.alone = s.line.alone := by rw [State.command_resolveOnly s o d]
@[simp] theorem State.command_line_lineGood (o : Output) (d : Drive) : (s.command o d).line.lineGood = s.line.lineGood := by rw [State.command_resolveOnly s o d]
@[simp] theorem State.command_line_goodTimer (o : Output) (d : Drive) : (s.command o d).line.goodTimer = s.line.goodTimer := by rw [State.command_resolveOnly s o d]
@[simp] theorem State.command_line_returnListen (o : Output) (d : Drive) : (s.command o d).line.returnListen = s.line.returnListen := by rw [State.command_resolveOnly s o d]
@[simp] theorem State.command_line_rotation (o : Output) (d : Drive) : (s.command o d).line.rotation = s.line.rotation := by rw [State.command_resolveOnly s o d]
@[simp] theorem State.command_water_path (o : Output) (d : Drive) : (s.command o d).water.path = s.water.path := by rw [State.command_resolveOnly s o d]
@[simp] theorem State.command_water_queue (o : Output) (d : Drive) : (s.command o d).water.queue = s.water.queue := by rw [State.command_resolveOnly s o d]
@[simp] theorem State.command_water_current (o : Output) (d : Drive) : (s.command o d).water.current = s.water.current := by rw [State.command_resolveOnly s o d]
@[simp] theorem State.command_water_held (o : Output) (d : Drive) : (s.command o d).water.held = s.water.held := by rw [State.command_resolveOnly s o d]
@[simp] theorem State.command_water_dispense (o : Output) (d : Drive) : (s.command o d).water.dispense = s.water.dispense := by rw [State.command_resolveOnly s o d]
@[simp] theorem State.command_water_lineHold (o : Output) (d : Drive) : (s.command o d).water.lineHold = s.water.lineHold := by rw [State.command_resolveOnly s o d]
@[simp] theorem State.command_water_estimated (o : Output) (d : Drive) : (s.command o d).water.estimated = s.water.estimated := by rw [State.command_resolveOnly s o d]
@[simp] theorem State.command_water_closedVolume (o : Output) (d : Drive) : (s.command o d).water.closedVolume = s.water.closedVolume := by rw [State.command_resolveOnly s o d]
@[simp] theorem State.command_water_runawayHold (o : Output) (d : Drive) : (s.command o d).water.runawayHold = s.water.runawayHold := by rw [State.command_resolveOnly s o d]
@[simp] theorem State.command_water_fillLimit (o : Output) (d : Drive) : (s.command o d).water.fillLimit = s.water.fillLimit := by rw [State.command_resolveOnly s o d]
@[simp] theorem State.command_water_dispenseLimit (o : Output) (d : Drive) : (s.command o d).water.dispenseLimit = s.water.dispenseLimit := by rw [State.command_resolveOnly s o d]
@[simp] theorem State.command_water_settling (o : Output) (d : Drive) : (s.command o d).water.settling = s.water.settling := by rw [State.command_resolveOnly s o d]
@[simp] theorem State.command_water_relaxation (o : Output) (d : Drive) : (s.command o d).water.relaxation = s.water.relaxation := by rw [State.command_resolveOnly s o d]

/-! ### `State.lamp` -/

@[simp] theorem State.lamp_now : (s.lamp).now = s.now := by rw [State.lamp_resolveOnly s]
@[simp] theorem State.lamp_pins : (s.lamp).pins = s.pins := by rw [State.lamp_resolveOnly s]
@[simp] theorem State.lamp_start : (s.lamp).start = s.start := by rw [State.lamp_resolveOnly s]
@[simp] theorem State.lamp_image : (s.lamp).image = s.image := by rw [State.lamp_resolveOnly s]
@[simp] theorem State.lamp_rawImage : (s.lamp).rawImage = s.rawImage := by rw [State.lamp_resolveOnly s]
@[simp] theorem State.lamp_view : (s.lamp).view = s.view := by rw [State.lamp_resolveOnly s]
@[simp] theorem State.lamp_share : (s.lamp).share = s.share := by rw [State.lamp_resolveOnly s]
@[simp] theorem State.lamp_sensors : (s.lamp).sensors = s.sensors := by rw [State.lamp_resolveOnly s]
@[simp] theorem State.lamp_switches : (s.lamp).switches = s.switches := by rw [State.lamp_resolveOnly s]
@[simp] theorem State.lamp_frost : (s.lamp).frost = s.frost := by rw [State.lamp_resolveOnly s]
@[simp] theorem State.lamp_defrost : (s.lamp).defrost = s.defrost := by rw [State.lamp_resolveOnly s]
@[simp] theorem State.lamp_ice : (s.lamp).ice = s.ice := by rw [State.lamp_resolveOnly s]
@[simp] theorem State.lamp_fault : (s.lamp).fault = s.fault := by rw [State.lamp_resolveOnly s]
@[simp] theorem State.lamp_mode : (s.lamp).mode = s.mode := by rw [State.lamp_resolveOnly s]
@[simp] theorem State.lamp_pending : (s.lamp).pending = s.pending := by rw [State.lamp_resolveOnly s]
@[simp] theorem State.lamp_line_mode : (s.lamp).line.mode = s.line.mode := by rw [State.lamp_resolveOnly s]
@[simp] theorem State.lamp_line_driver : (s.lamp).line.driver = s.line.driver := by rw [State.lamp_resolveOnly s]
@[simp] theorem State.lamp_line_queue : (s.lamp).line.queue = s.line.queue := by rw [State.lamp_resolveOnly s]
@[simp] theorem State.lamp_line_statusOwed : (s.lamp).line.statusOwed = s.line.statusOwed := by rw [State.lamp_resolveOnly s]
@[simp] theorem State.lamp_line_period : (s.lamp).line.period = s.line.period := by rw [State.lamp_resolveOnly s]
@[simp] theorem State.lamp_line_orderCount : (s.lamp).line.orderCount = s.line.orderCount := by rw [State.lamp_resolveOnly s]
@[simp] theorem State.lamp_line_stuckShort : (s.lamp).line.stuckShort = s.line.stuckShort := by rw [State.lamp_resolveOnly s]
@[simp] theorem State.lamp_line_stuckLong : (s.lamp).line.stuckLong = s.line.stuckLong := by rw [State.lamp_resolveOnly s]
@[simp] theorem State.lamp_line_recessive : (s.lamp).line.recessive = s.line.recessive := by rw [State.lamp_resolveOnly s]
@[simp] theorem State.lamp_line_idle : (s.lamp).line.idle = s.line.idle := by rw [State.lamp_resolveOnly s]
@[simp] theorem State.lamp_line_txEnd : (s.lamp).line.txEnd = s.line.txEnd := by rw [State.lamp_resolveOnly s]
@[simp] theorem State.lamp_line_island : (s.lamp).line.island = s.line.island := by rw [State.lamp_resolveOnly s]
@[simp] theorem State.lamp_line_alone : (s.lamp).line.alone = s.line.alone := by rw [State.lamp_resolveOnly s]
@[simp] theorem State.lamp_line_lineGood : (s.lamp).line.lineGood = s.line.lineGood := by rw [State.lamp_resolveOnly s]
@[simp] theorem State.lamp_line_goodTimer : (s.lamp).line.goodTimer = s.line.goodTimer := by rw [State.lamp_resolveOnly s]
@[simp] theorem State.lamp_line_returnListen : (s.lamp).line.returnListen = s.line.returnListen := by rw [State.lamp_resolveOnly s]
@[simp] theorem State.lamp_line_rotation : (s.lamp).line.rotation = s.line.rotation := by rw [State.lamp_resolveOnly s]
@[simp] theorem State.lamp_water_path : (s.lamp).water.path = s.water.path := by rw [State.lamp_resolveOnly s]
@[simp] theorem State.lamp_water_queue : (s.lamp).water.queue = s.water.queue := by rw [State.lamp_resolveOnly s]
@[simp] theorem State.lamp_water_current : (s.lamp).water.current = s.water.current := by rw [State.lamp_resolveOnly s]
@[simp] theorem State.lamp_water_held : (s.lamp).water.held = s.water.held := by rw [State.lamp_resolveOnly s]
@[simp] theorem State.lamp_water_dispense : (s.lamp).water.dispense = s.water.dispense := by rw [State.lamp_resolveOnly s]
@[simp] theorem State.lamp_water_lineHold : (s.lamp).water.lineHold = s.water.lineHold := by rw [State.lamp_resolveOnly s]
@[simp] theorem State.lamp_water_estimated : (s.lamp).water.estimated = s.water.estimated := by rw [State.lamp_resolveOnly s]
@[simp] theorem State.lamp_water_closedVolume : (s.lamp).water.closedVolume = s.water.closedVolume := by rw [State.lamp_resolveOnly s]
@[simp] theorem State.lamp_water_runawayHold : (s.lamp).water.runawayHold = s.water.runawayHold := by rw [State.lamp_resolveOnly s]
@[simp] theorem State.lamp_water_fillLimit : (s.lamp).water.fillLimit = s.water.fillLimit := by rw [State.lamp_resolveOnly s]
@[simp] theorem State.lamp_water_dispenseLimit : (s.lamp).water.dispenseLimit = s.water.dispenseLimit := by rw [State.lamp_resolveOnly s]
@[simp] theorem State.lamp_water_settling : (s.lamp).water.settling = s.water.settling := by rw [State.lamp_resolveOnly s]
@[simp] theorem State.lamp_water_relaxation : (s.lamp).water.relaxation = s.water.relaxation := by rw [State.lamp_resolveOnly s]

/-! ### `State.offer` -/

@[simp] theorem State.offer_now (f : TxFrame) : (s.offer f).now = s.now := by rw [State.offer_offerOnly s f]
@[simp] theorem State.offer_pins (f : TxFrame) : (s.offer f).pins = s.pins := by rw [State.offer_offerOnly s f]
@[simp] theorem State.offer_image (f : TxFrame) : (s.offer f).image = s.image := by rw [State.offer_offerOnly s f]
@[simp] theorem State.offer_rawImage (f : TxFrame) : (s.offer f).rawImage = s.rawImage := by rw [State.offer_offerOnly s f]
@[simp] theorem State.offer_view (f : TxFrame) : (s.offer f).view = s.view := by rw [State.offer_offerOnly s f]
@[simp] theorem State.offer_sensors (f : TxFrame) : (s.offer f).sensors = s.sensors := by rw [State.offer_offerOnly s f]
@[simp] theorem State.offer_switches (f : TxFrame) : (s.offer f).switches = s.switches := by rw [State.offer_offerOnly s f]
@[simp] theorem State.offer_watch (f : TxFrame) : (s.offer f).watch = s.watch := by rw [State.offer_offerOnly s f]
@[simp] theorem State.offer_frost (f : TxFrame) : (s.offer f).frost = s.frost := by rw [State.offer_offerOnly s f]
@[simp] theorem State.offer_defrost (f : TxFrame) : (s.offer f).defrost = s.defrost := by rw [State.offer_offerOnly s f]
@[simp] theorem State.offer_water (f : TxFrame) : (s.offer f).water = s.water := by rw [State.offer_offerOnly s f]
@[simp] theorem State.offer_ice (f : TxFrame) : (s.offer f).ice = s.ice := by rw [State.offer_offerOnly s f]
@[simp] theorem State.offer_out (f : TxFrame) : (s.offer f).out = s.out := by rw [State.offer_offerOnly s f]
@[simp] theorem State.offer_fault (f : TxFrame) : (s.offer f).fault = s.fault := by rw [State.offer_offerOnly s f]
@[simp] theorem State.offer_mode (f : TxFrame) : (s.offer f).mode = s.mode := by rw [State.offer_offerOnly s f]
@[simp] theorem State.offer_agenda (f : TxFrame) : (s.offer f).agenda = s.agenda := by rw [State.offer_offerOnly s f]
@[simp] theorem State.offer_pending (f : TxFrame) : (s.offer f).pending = s.pending := by rw [State.offer_offerOnly s f]
@[simp] theorem State.offer_share_grants (f : TxFrame) : (s.offer f).share.grants = s.share.grants := by rw [State.offer_offerOnly s f]
@[simp] theorem State.offer_share_queue (f : TxFrame) : (s.offer f).share.queue = s.share.queue := by rw [State.offer_offerOnly s f]
@[simp] theorem State.offer_share_tagCounter (f : TxFrame) : (s.offer f).share.tagCounter = s.share.tagCounter := by rw [State.offer_offerOnly s f]
@[simp] theorem State.offer_share_suspended (f : TxFrame) : (s.offer f).share.suspended = s.share.suspended := by rw [State.offer_offerOnly s f]
@[simp] theorem State.offer_share_reclaim (f : TxFrame) : (s.offer f).share.reclaim = s.share.reclaim := by rw [State.offer_offerOnly s f]
@[simp] theorem State.offer_share_shedDelay (f : TxFrame) : (s.offer f).share.shedDelay = s.share.shedDelay := by rw [State.offer_offerOnly s f]
@[simp] theorem State.offer_share_dhClass (f : TxFrame) : (s.offer f).share.dhClass = s.share.dhClass := by rw [State.offer_offerOnly s f]
@[simp] theorem State.offer_share_dhRefusals (f : TxFrame) : (s.offer f).share.dhRefusals = s.share.dhRefusals := by rw [State.offer_offerOnly s f]
@[simp] theorem State.offer_start_state (f : TxFrame) : (s.offer f).start.state = s.start.state := by rw [State.offer_offerOnly s f]
@[simp] theorem State.offer_start_mark (f : TxFrame) : (s.offer f).start.mark = s.start.mark := by rw [State.offer_offerOnly s f]
@[simp] theorem State.offer_start_kind (f : TxFrame) : (s.offer f).start.kind = s.start.kind := by rw [State.offer_offerOnly s f]
@[simp] theorem State.offer_start_listenTimer (f : TxFrame) : (s.offer f).start.listenTimer = s.start.listenTimer := by rw [State.offer_offerOnly s f]
@[simp] theorem State.offer_start_runSince (f : TxFrame) : (s.offer f).start.runSince = s.start.runSince := by rw [State.offer_offerOnly s f]
@[simp] theorem State.offer_start_interrupted (f : TxFrame) : (s.offer f).start.interrupted = s.start.interrupted := by rw [State.offer_offerOnly s f]
@[simp] theorem State.offer_start_port (f : TxFrame) : (s.offer f).start.port = s.start.port := by rw [State.offer_offerOnly s f]
@[simp] theorem State.offer_start_clearPulses (f : TxFrame) : (s.offer f).start.clearPulses = s.start.clearPulses := by rw [State.offer_offerOnly s f]
@[simp] theorem State.offer_store_values (f : TxFrame) : (s.offer f).store.values = s.store.values := by rw [State.offer_offerOnly s f]

/-! ### `State.offerStatus` -/

@[simp] theorem State.offerStatus_now : (s.offerStatus).now = s.now := by rw [State.offerStatus_offerOnly s]
@[simp] theorem State.offerStatus_pins : (s.offerStatus).pins = s.pins := by rw [State.offerStatus_offerOnly s]
@[simp] theorem State.offerStatus_image : (s.offerStatus).image = s.image := by rw [State.offerStatus_offerOnly s]
@[simp] theorem State.offerStatus_rawImage : (s.offerStatus).rawImage = s.rawImage := by rw [State.offerStatus_offerOnly s]
@[simp] theorem State.offerStatus_view : (s.offerStatus).view = s.view := by rw [State.offerStatus_offerOnly s]
@[simp] theorem State.offerStatus_sensors : (s.offerStatus).sensors = s.sensors := by rw [State.offerStatus_offerOnly s]
@[simp] theorem State.offerStatus_switches : (s.offerStatus).switches = s.switches := by rw [State.offerStatus_offerOnly s]
@[simp] theorem State.offerStatus_watch : (s.offerStatus).watch = s.watch := by rw [State.offerStatus_offerOnly s]
@[simp] theorem State.offerStatus_frost : (s.offerStatus).frost = s.frost := by rw [State.offerStatus_offerOnly s]
@[simp] theorem State.offerStatus_defrost : (s.offerStatus).defrost = s.defrost := by rw [State.offerStatus_offerOnly s]
@[simp] theorem State.offerStatus_water : (s.offerStatus).water = s.water := by rw [State.offerStatus_offerOnly s]
@[simp] theorem State.offerStatus_ice : (s.offerStatus).ice = s.ice := by rw [State.offerStatus_offerOnly s]
@[simp] theorem State.offerStatus_out : (s.offerStatus).out = s.out := by rw [State.offerStatus_offerOnly s]
@[simp] theorem State.offerStatus_fault : (s.offerStatus).fault = s.fault := by rw [State.offerStatus_offerOnly s]
@[simp] theorem State.offerStatus_mode : (s.offerStatus).mode = s.mode := by rw [State.offerStatus_offerOnly s]
@[simp] theorem State.offerStatus_agenda : (s.offerStatus).agenda = s.agenda := by rw [State.offerStatus_offerOnly s]
@[simp] theorem State.offerStatus_pending : (s.offerStatus).pending = s.pending := by rw [State.offerStatus_offerOnly s]
@[simp] theorem State.offerStatus_share_grants : (s.offerStatus).share.grants = s.share.grants := by rw [State.offerStatus_offerOnly s]
@[simp] theorem State.offerStatus_share_queue : (s.offerStatus).share.queue = s.share.queue := by rw [State.offerStatus_offerOnly s]
@[simp] theorem State.offerStatus_share_tagCounter : (s.offerStatus).share.tagCounter = s.share.tagCounter := by rw [State.offerStatus_offerOnly s]
@[simp] theorem State.offerStatus_share_suspended : (s.offerStatus).share.suspended = s.share.suspended := by rw [State.offerStatus_offerOnly s]
@[simp] theorem State.offerStatus_share_reclaim : (s.offerStatus).share.reclaim = s.share.reclaim := by rw [State.offerStatus_offerOnly s]
@[simp] theorem State.offerStatus_share_shedDelay : (s.offerStatus).share.shedDelay = s.share.shedDelay := by rw [State.offerStatus_offerOnly s]
@[simp] theorem State.offerStatus_share_dhClass : (s.offerStatus).share.dhClass = s.share.dhClass := by rw [State.offerStatus_offerOnly s]
@[simp] theorem State.offerStatus_share_dhRefusals : (s.offerStatus).share.dhRefusals = s.share.dhRefusals := by rw [State.offerStatus_offerOnly s]
@[simp] theorem State.offerStatus_start_state : (s.offerStatus).start.state = s.start.state := by rw [State.offerStatus_offerOnly s]
@[simp] theorem State.offerStatus_start_mark : (s.offerStatus).start.mark = s.start.mark := by rw [State.offerStatus_offerOnly s]
@[simp] theorem State.offerStatus_start_kind : (s.offerStatus).start.kind = s.start.kind := by rw [State.offerStatus_offerOnly s]
@[simp] theorem State.offerStatus_start_listenTimer : (s.offerStatus).start.listenTimer = s.start.listenTimer := by rw [State.offerStatus_offerOnly s]
@[simp] theorem State.offerStatus_start_runSince : (s.offerStatus).start.runSince = s.start.runSince := by rw [State.offerStatus_offerOnly s]
@[simp] theorem State.offerStatus_start_interrupted : (s.offerStatus).start.interrupted = s.start.interrupted := by rw [State.offerStatus_offerOnly s]
@[simp] theorem State.offerStatus_start_port : (s.offerStatus).start.port = s.start.port := by rw [State.offerStatus_offerOnly s]
@[simp] theorem State.offerStatus_start_clearPulses : (s.offerStatus).start.clearPulses = s.start.clearPulses := by rw [State.offerStatus_offerOnly s]
@[simp] theorem State.offerStatus_store_values : (s.offerStatus).store.values = s.store.values := by rw [State.offerStatus_offerOnly s]

/-! ### `State.publishRequest` -/

@[simp] theorem State.publishRequest_now : (s.publishRequest).now = s.now := by rw [State.publishRequest, State.offerStatus_offerOnly s]
@[simp] theorem State.publishRequest_pins : (s.publishRequest).pins = s.pins := by rw [State.publishRequest, State.offerStatus_offerOnly s]
@[simp] theorem State.publishRequest_image : (s.publishRequest).image = s.image := by rw [State.publishRequest, State.offerStatus_offerOnly s]
@[simp] theorem State.publishRequest_rawImage : (s.publishRequest).rawImage = s.rawImage := by rw [State.publishRequest, State.offerStatus_offerOnly s]
@[simp] theorem State.publishRequest_view : (s.publishRequest).view = s.view := by rw [State.publishRequest, State.offerStatus_offerOnly s]
@[simp] theorem State.publishRequest_sensors : (s.publishRequest).sensors = s.sensors := by rw [State.publishRequest, State.offerStatus_offerOnly s]
@[simp] theorem State.publishRequest_switches : (s.publishRequest).switches = s.switches := by rw [State.publishRequest, State.offerStatus_offerOnly s]
@[simp] theorem State.publishRequest_watch : (s.publishRequest).watch = s.watch := by rw [State.publishRequest, State.offerStatus_offerOnly s]
@[simp] theorem State.publishRequest_frost : (s.publishRequest).frost = s.frost := by rw [State.publishRequest, State.offerStatus_offerOnly s]
@[simp] theorem State.publishRequest_defrost : (s.publishRequest).defrost = s.defrost := by rw [State.publishRequest, State.offerStatus_offerOnly s]
@[simp] theorem State.publishRequest_water : (s.publishRequest).water = s.water := by rw [State.publishRequest, State.offerStatus_offerOnly s]
@[simp] theorem State.publishRequest_ice : (s.publishRequest).ice = s.ice := by rw [State.publishRequest, State.offerStatus_offerOnly s]
@[simp] theorem State.publishRequest_out : (s.publishRequest).out = s.out := by rw [State.publishRequest, State.offerStatus_offerOnly s]
@[simp] theorem State.publishRequest_fault : (s.publishRequest).fault = s.fault := by rw [State.publishRequest, State.offerStatus_offerOnly s]
@[simp] theorem State.publishRequest_mode : (s.publishRequest).mode = s.mode := by rw [State.publishRequest, State.offerStatus_offerOnly s]
@[simp] theorem State.publishRequest_agenda : (s.publishRequest).agenda = s.agenda := by rw [State.publishRequest, State.offerStatus_offerOnly s]
@[simp] theorem State.publishRequest_pending : (s.publishRequest).pending = s.pending := by rw [State.publishRequest, State.offerStatus_offerOnly s]
@[simp] theorem State.publishRequest_share_grants : (s.publishRequest).share.grants = s.share.grants := by rw [State.publishRequest, State.offerStatus_offerOnly s]
@[simp] theorem State.publishRequest_share_queue : (s.publishRequest).share.queue = s.share.queue := by rw [State.publishRequest, State.offerStatus_offerOnly s]
@[simp] theorem State.publishRequest_share_tagCounter : (s.publishRequest).share.tagCounter = s.share.tagCounter := by rw [State.publishRequest, State.offerStatus_offerOnly s]
@[simp] theorem State.publishRequest_share_suspended : (s.publishRequest).share.suspended = s.share.suspended := by rw [State.publishRequest, State.offerStatus_offerOnly s]
@[simp] theorem State.publishRequest_share_reclaim : (s.publishRequest).share.reclaim = s.share.reclaim := by rw [State.publishRequest, State.offerStatus_offerOnly s]
@[simp] theorem State.publishRequest_share_shedDelay : (s.publishRequest).share.shedDelay = s.share.shedDelay := by rw [State.publishRequest, State.offerStatus_offerOnly s]
@[simp] theorem State.publishRequest_share_dhClass : (s.publishRequest).share.dhClass = s.share.dhClass := by rw [State.publishRequest, State.offerStatus_offerOnly s]
@[simp] theorem State.publishRequest_share_dhRefusals : (s.publishRequest).share.dhRefusals = s.share.dhRefusals := by rw [State.publishRequest, State.offerStatus_offerOnly s]
@[simp] theorem State.publishRequest_start_state : (s.publishRequest).start.state = s.start.state := by rw [State.publishRequest, State.offerStatus_offerOnly s]
@[simp] theorem State.publishRequest_start_mark : (s.publishRequest).start.mark = s.start.mark := by rw [State.publishRequest, State.offerStatus_offerOnly s]
@[simp] theorem State.publishRequest_start_kind : (s.publishRequest).start.kind = s.start.kind := by rw [State.publishRequest, State.offerStatus_offerOnly s]
@[simp] theorem State.publishRequest_start_listenTimer : (s.publishRequest).start.listenTimer = s.start.listenTimer := by rw [State.publishRequest, State.offerStatus_offerOnly s]
@[simp] theorem State.publishRequest_start_runSince : (s.publishRequest).start.runSince = s.start.runSince := by rw [State.publishRequest, State.offerStatus_offerOnly s]
@[simp] theorem State.publishRequest_start_interrupted : (s.publishRequest).start.interrupted = s.start.interrupted := by rw [State.publishRequest, State.offerStatus_offerOnly s]
@[simp] theorem State.publishRequest_start_port : (s.publishRequest).start.port = s.start.port := by rw [State.publishRequest, State.offerStatus_offerOnly s]
@[simp] theorem State.publishRequest_start_clearPulses : (s.publishRequest).start.clearPulses = s.start.clearPulses := by rw [State.publishRequest, State.offerStatus_offerOnly s]
@[simp] theorem State.publishRequest_store_values : (s.publishRequest).store.values = s.store.values := by rw [State.publishRequest, State.offerStatus_offerOnly s]

/-! ### `State.offerRelease` -/

@[simp] theorem State.offerRelease_now (tag : Byte) (cls : Nat) : (s.offerRelease tag cls).now = s.now := by rw [State.offerRelease_offerOnly s tag cls]
@[simp] theorem State.offerRelease_pins (tag : Byte) (cls : Nat) : (s.offerRelease tag cls).pins = s.pins := by rw [State.offerRelease_offerOnly s tag cls]
@[simp] theorem State.offerRelease_image (tag : Byte) (cls : Nat) : (s.offerRelease tag cls).image = s.image := by rw [State.offerRelease_offerOnly s tag cls]
@[simp] theorem State.offerRelease_rawImage (tag : Byte) (cls : Nat) : (s.offerRelease tag cls).rawImage = s.rawImage := by rw [State.offerRelease_offerOnly s tag cls]
@[simp] theorem State.offerRelease_view (tag : Byte) (cls : Nat) : (s.offerRelease tag cls).view = s.view := by rw [State.offerRelease_offerOnly s tag cls]
@[simp] theorem State.offerRelease_sensors (tag : Byte) (cls : Nat) : (s.offerRelease tag cls).sensors = s.sensors := by rw [State.offerRelease_offerOnly s tag cls]
@[simp] theorem State.offerRelease_switches (tag : Byte) (cls : Nat) : (s.offerRelease tag cls).switches = s.switches := by rw [State.offerRelease_offerOnly s tag cls]
@[simp] theorem State.offerRelease_watch (tag : Byte) (cls : Nat) : (s.offerRelease tag cls).watch = s.watch := by rw [State.offerRelease_offerOnly s tag cls]
@[simp] theorem State.offerRelease_frost (tag : Byte) (cls : Nat) : (s.offerRelease tag cls).frost = s.frost := by rw [State.offerRelease_offerOnly s tag cls]
@[simp] theorem State.offerRelease_defrost (tag : Byte) (cls : Nat) : (s.offerRelease tag cls).defrost = s.defrost := by rw [State.offerRelease_offerOnly s tag cls]
@[simp] theorem State.offerRelease_water (tag : Byte) (cls : Nat) : (s.offerRelease tag cls).water = s.water := by rw [State.offerRelease_offerOnly s tag cls]
@[simp] theorem State.offerRelease_ice (tag : Byte) (cls : Nat) : (s.offerRelease tag cls).ice = s.ice := by rw [State.offerRelease_offerOnly s tag cls]
@[simp] theorem State.offerRelease_out (tag : Byte) (cls : Nat) : (s.offerRelease tag cls).out = s.out := by rw [State.offerRelease_offerOnly s tag cls]
@[simp] theorem State.offerRelease_fault (tag : Byte) (cls : Nat) : (s.offerRelease tag cls).fault = s.fault := by rw [State.offerRelease_offerOnly s tag cls]
@[simp] theorem State.offerRelease_mode (tag : Byte) (cls : Nat) : (s.offerRelease tag cls).mode = s.mode := by rw [State.offerRelease_offerOnly s tag cls]
@[simp] theorem State.offerRelease_agenda (tag : Byte) (cls : Nat) : (s.offerRelease tag cls).agenda = s.agenda := by rw [State.offerRelease_offerOnly s tag cls]
@[simp] theorem State.offerRelease_pending (tag : Byte) (cls : Nat) : (s.offerRelease tag cls).pending = s.pending := by rw [State.offerRelease_offerOnly s tag cls]
@[simp] theorem State.offerRelease_share_grants (tag : Byte) (cls : Nat) : (s.offerRelease tag cls).share.grants = s.share.grants := by rw [State.offerRelease_offerOnly s tag cls]
@[simp] theorem State.offerRelease_share_queue (tag : Byte) (cls : Nat) : (s.offerRelease tag cls).share.queue = s.share.queue := by rw [State.offerRelease_offerOnly s tag cls]
@[simp] theorem State.offerRelease_share_tagCounter (tag : Byte) (cls : Nat) : (s.offerRelease tag cls).share.tagCounter = s.share.tagCounter := by rw [State.offerRelease_offerOnly s tag cls]
@[simp] theorem State.offerRelease_share_suspended (tag : Byte) (cls : Nat) : (s.offerRelease tag cls).share.suspended = s.share.suspended := by rw [State.offerRelease_offerOnly s tag cls]
@[simp] theorem State.offerRelease_share_reclaim (tag : Byte) (cls : Nat) : (s.offerRelease tag cls).share.reclaim = s.share.reclaim := by rw [State.offerRelease_offerOnly s tag cls]
@[simp] theorem State.offerRelease_share_shedDelay (tag : Byte) (cls : Nat) : (s.offerRelease tag cls).share.shedDelay = s.share.shedDelay := by rw [State.offerRelease_offerOnly s tag cls]
@[simp] theorem State.offerRelease_share_dhClass (tag : Byte) (cls : Nat) : (s.offerRelease tag cls).share.dhClass = s.share.dhClass := by rw [State.offerRelease_offerOnly s tag cls]
@[simp] theorem State.offerRelease_share_dhRefusals (tag : Byte) (cls : Nat) : (s.offerRelease tag cls).share.dhRefusals = s.share.dhRefusals := by rw [State.offerRelease_offerOnly s tag cls]
@[simp] theorem State.offerRelease_start_state (tag : Byte) (cls : Nat) : (s.offerRelease tag cls).start.state = s.start.state := by rw [State.offerRelease_offerOnly s tag cls]
@[simp] theorem State.offerRelease_start_mark (tag : Byte) (cls : Nat) : (s.offerRelease tag cls).start.mark = s.start.mark := by rw [State.offerRelease_offerOnly s tag cls]
@[simp] theorem State.offerRelease_start_kind (tag : Byte) (cls : Nat) : (s.offerRelease tag cls).start.kind = s.start.kind := by rw [State.offerRelease_offerOnly s tag cls]
@[simp] theorem State.offerRelease_start_listenTimer (tag : Byte) (cls : Nat) : (s.offerRelease tag cls).start.listenTimer = s.start.listenTimer := by rw [State.offerRelease_offerOnly s tag cls]
@[simp] theorem State.offerRelease_start_runSince (tag : Byte) (cls : Nat) : (s.offerRelease tag cls).start.runSince = s.start.runSince := by rw [State.offerRelease_offerOnly s tag cls]
@[simp] theorem State.offerRelease_start_interrupted (tag : Byte) (cls : Nat) : (s.offerRelease tag cls).start.interrupted = s.start.interrupted := by rw [State.offerRelease_offerOnly s tag cls]
@[simp] theorem State.offerRelease_start_port (tag : Byte) (cls : Nat) : (s.offerRelease tag cls).start.port = s.start.port := by rw [State.offerRelease_offerOnly s tag cls]
@[simp] theorem State.offerRelease_start_clearPulses (tag : Byte) (cls : Nat) : (s.offerRelease tag cls).start.clearPulses = s.start.clearPulses := by rw [State.offerRelease_offerOnly s tag cls]
@[simp] theorem State.offerRelease_store_values (tag : Byte) (cls : Nat) : (s.offerRelease tag cls).store.values = s.store.values := by rw [State.offerRelease_offerOnly s tag cls]

/-! ### `State.offerNotice` -/

@[simp] theorem State.offerNotice_now (cls : Nat) (code c : Byte) : (s.offerNotice cls code c).now = s.now := by rw [State.offerNotice_offerOnly s cls code c]
@[simp] theorem State.offerNotice_pins (cls : Nat) (code c : Byte) : (s.offerNotice cls code c).pins = s.pins := by rw [State.offerNotice_offerOnly s cls code c]
@[simp] theorem State.offerNotice_image (cls : Nat) (code c : Byte) : (s.offerNotice cls code c).image = s.image := by rw [State.offerNotice_offerOnly s cls code c]
@[simp] theorem State.offerNotice_rawImage (cls : Nat) (code c : Byte) : (s.offerNotice cls code c).rawImage = s.rawImage := by rw [State.offerNotice_offerOnly s cls code c]
@[simp] theorem State.offerNotice_view (cls : Nat) (code c : Byte) : (s.offerNotice cls code c).view = s.view := by rw [State.offerNotice_offerOnly s cls code c]
@[simp] theorem State.offerNotice_sensors (cls : Nat) (code c : Byte) : (s.offerNotice cls code c).sensors = s.sensors := by rw [State.offerNotice_offerOnly s cls code c]
@[simp] theorem State.offerNotice_switches (cls : Nat) (code c : Byte) : (s.offerNotice cls code c).switches = s.switches := by rw [State.offerNotice_offerOnly s cls code c]
@[simp] theorem State.offerNotice_watch (cls : Nat) (code c : Byte) : (s.offerNotice cls code c).watch = s.watch := by rw [State.offerNotice_offerOnly s cls code c]
@[simp] theorem State.offerNotice_frost (cls : Nat) (code c : Byte) : (s.offerNotice cls code c).frost = s.frost := by rw [State.offerNotice_offerOnly s cls code c]
@[simp] theorem State.offerNotice_defrost (cls : Nat) (code c : Byte) : (s.offerNotice cls code c).defrost = s.defrost := by rw [State.offerNotice_offerOnly s cls code c]
@[simp] theorem State.offerNotice_water (cls : Nat) (code c : Byte) : (s.offerNotice cls code c).water = s.water := by rw [State.offerNotice_offerOnly s cls code c]
@[simp] theorem State.offerNotice_ice (cls : Nat) (code c : Byte) : (s.offerNotice cls code c).ice = s.ice := by rw [State.offerNotice_offerOnly s cls code c]
@[simp] theorem State.offerNotice_out (cls : Nat) (code c : Byte) : (s.offerNotice cls code c).out = s.out := by rw [State.offerNotice_offerOnly s cls code c]
@[simp] theorem State.offerNotice_fault (cls : Nat) (code c : Byte) : (s.offerNotice cls code c).fault = s.fault := by rw [State.offerNotice_offerOnly s cls code c]
@[simp] theorem State.offerNotice_mode (cls : Nat) (code c : Byte) : (s.offerNotice cls code c).mode = s.mode := by rw [State.offerNotice_offerOnly s cls code c]
@[simp] theorem State.offerNotice_agenda (cls : Nat) (code c : Byte) : (s.offerNotice cls code c).agenda = s.agenda := by rw [State.offerNotice_offerOnly s cls code c]
@[simp] theorem State.offerNotice_pending (cls : Nat) (code c : Byte) : (s.offerNotice cls code c).pending = s.pending := by rw [State.offerNotice_offerOnly s cls code c]
@[simp] theorem State.offerNotice_share_grants (cls : Nat) (code c : Byte) : (s.offerNotice cls code c).share.grants = s.share.grants := by rw [State.offerNotice_offerOnly s cls code c]
@[simp] theorem State.offerNotice_share_queue (cls : Nat) (code c : Byte) : (s.offerNotice cls code c).share.queue = s.share.queue := by rw [State.offerNotice_offerOnly s cls code c]
@[simp] theorem State.offerNotice_share_tagCounter (cls : Nat) (code c : Byte) : (s.offerNotice cls code c).share.tagCounter = s.share.tagCounter := by rw [State.offerNotice_offerOnly s cls code c]
@[simp] theorem State.offerNotice_share_suspended (cls : Nat) (code c : Byte) : (s.offerNotice cls code c).share.suspended = s.share.suspended := by rw [State.offerNotice_offerOnly s cls code c]
@[simp] theorem State.offerNotice_share_reclaim (cls : Nat) (code c : Byte) : (s.offerNotice cls code c).share.reclaim = s.share.reclaim := by rw [State.offerNotice_offerOnly s cls code c]
@[simp] theorem State.offerNotice_share_shedDelay (cls : Nat) (code c : Byte) : (s.offerNotice cls code c).share.shedDelay = s.share.shedDelay := by rw [State.offerNotice_offerOnly s cls code c]
@[simp] theorem State.offerNotice_share_dhClass (cls : Nat) (code c : Byte) : (s.offerNotice cls code c).share.dhClass = s.share.dhClass := by rw [State.offerNotice_offerOnly s cls code c]
@[simp] theorem State.offerNotice_share_dhRefusals (cls : Nat) (code c : Byte) : (s.offerNotice cls code c).share.dhRefusals = s.share.dhRefusals := by rw [State.offerNotice_offerOnly s cls code c]
@[simp] theorem State.offerNotice_start_state (cls : Nat) (code c : Byte) : (s.offerNotice cls code c).start.state = s.start.state := by rw [State.offerNotice_offerOnly s cls code c]
@[simp] theorem State.offerNotice_start_mark (cls : Nat) (code c : Byte) : (s.offerNotice cls code c).start.mark = s.start.mark := by rw [State.offerNotice_offerOnly s cls code c]
@[simp] theorem State.offerNotice_start_kind (cls : Nat) (code c : Byte) : (s.offerNotice cls code c).start.kind = s.start.kind := by rw [State.offerNotice_offerOnly s cls code c]
@[simp] theorem State.offerNotice_start_listenTimer (cls : Nat) (code c : Byte) : (s.offerNotice cls code c).start.listenTimer = s.start.listenTimer := by rw [State.offerNotice_offerOnly s cls code c]
@[simp] theorem State.offerNotice_start_runSince (cls : Nat) (code c : Byte) : (s.offerNotice cls code c).start.runSince = s.start.runSince := by rw [State.offerNotice_offerOnly s cls code c]
@[simp] theorem State.offerNotice_start_interrupted (cls : Nat) (code c : Byte) : (s.offerNotice cls code c).start.interrupted = s.start.interrupted := by rw [State.offerNotice_offerOnly s cls code c]
@[simp] theorem State.offerNotice_start_port (cls : Nat) (code c : Byte) : (s.offerNotice cls code c).start.port = s.start.port := by rw [State.offerNotice_offerOnly s cls code c]
@[simp] theorem State.offerNotice_start_clearPulses (cls : Nat) (code c : Byte) : (s.offerNotice cls code c).start.clearPulses = s.start.clearPulses := by rw [State.offerNotice_offerOnly s cls code c]
@[simp] theorem State.offerNotice_store_values (cls : Nat) (code c : Byte) : (s.offerNotice cls code c).store.values = s.store.values := by rw [State.offerNotice_offerOnly s cls code c]

/-! ### Outputs after a resolution and after a job command (R161, R165) -/

theorem outputAt_idx (o : Output) : outputAt o.idx = o := by cases o <;> rfl

theorem Output.idx_inj {o p : Output} (h : o.idx = p.idx) : o = p := by rw [← outputAt_idx o, ← outputAt_idx p, h]

theorem State.afterResolve_out (t : State) (mixes wasOpen : Bool) (m : Option Output) (hot : State → Bool) (u : State)
    (hu : u = ((if mixes then t.mixRemainder else t).closedWatch wasOpen).meterTimers m) :
    (if hot u then { u with agenda := u.agenda ++ [.overtemp] } else u).out = t.out := by
  have k : u.out = t.out := by
    rw [hu]
    cases mixes <;> simp only [State.meterTimers, State.closedWatch] <;> (repeat' split) <;> simp
  split <;> exact k

theorem State.resolveFrom_channels (m : Option Output) : (s.resolveFrom m).out.channels = s.newChannels := by
  unfold State.resolveFrom
  dsimp only
  exact congrArg Outputs.channels
    (State.afterResolve_out { s with out := _ } _ _ m (fun u => heaters.any fun h => !s.isOn h && u.overtempOf h) _ rfl)

theorem State.resolveFrom_resolved (m : Option Output) (o : Output) : (s.resolveFrom m).resolved o = s.resolveOne o := by
  simp [State.resolved, State.channel, State.resolveFrom_channels, State.newChannels, outputAt_idx]

@[simp] theorem State.resolveFrom_job (m : Option Output) (o : Output) :
    ((s.resolveFrom m).channel o).job = (s.channel o).job := by
  simp [State.channel, State.resolveFrom_channels, State.newChannels]

@[simp] theorem State.resolveFrom_test (m : Option Output) (o : Output) :
    ((s.resolveFrom m).channel o).test = (s.channel o).test := by
  simp [State.channel, State.resolveFrom_channels, State.newChannels]

@[simp] theorem State.resolve_job (o : Output) : (s.resolve.channel o).job = (s.channel o).job := State.resolveFrom_job s _ o

@[simp] theorem State.resolve_test (o : Output) : (s.resolve.channel o).test = (s.channel o).test := State.resolveFrom_test s _ o

theorem State.command_job (o p : Output) (d : Drive) :
    ((s.command o d).channel p).job = if p = o then d else (s.channel p).job := by
  unfold State.command
  split
  · split
    · subst_vars; rfl
    · rfl
  · rw [State.resolveFrom_job]
    split
    · subst_vars; simp [State.channel]
    · have h : o.idx.val ≠ p.idx.val := fun e => by have := Output.idx_inj (Fin.ext e); simp_all
      simp [State.channel, h]

@[simp] theorem State.command_test (o p : Output) (d : Drive) : ((s.command o d).channel p).test = (s.channel p).test := by
  unfold State.command
  split
  · rfl
  · rw [State.resolveFrom_test]
    by_cases h : o.idx.val = p.idx.val
    · have := Output.idx_inj (Fin.ext h); subst this; simp [State.channel]
    · simp [State.channel, h]

end Sys2Proof.Machine
end

