-- ==== Sys2Proof/WellFormed.lean ====
section
/-! DEFINITION. The commands that can reach the part: operands within the frame layouts of Chapter 2 and the ranges of the tables. -/

namespace Sys2Proof

open Machine

/-- A peer's address: 1 to 14 (Table 2-1). -/
def stationOk (a : Addr) : Bool := a != 0 && a != 15

/-- A STATUS fits its payload: at most 5 grant entries, at most 16 characters (Table 2-3). -/
def statusOk (grants : List GrantItem) (items : List QuantityItem) : Bool :=
  decide (grants.length ≤ 5) && decide (1 + 2 * grants.length + 3 * items.length ≤ 16)

/-- A REQUEST fits its payload: at most 8 argument bytes, from a station (Table 2-3). -/
def requestOk (req : Request) : Bool := stationOk req.src && decide (req.args.length ≤ 8)

/-- A read brings at most 256 bytes (R193). -/
def imageReadOk : ImageRead → Bool
  | .acknowledged | .failed => true
  | .arrived b | .bytes b => decide (b.length ≤ 256)

/-- A kind outside codes 1 to 16 (R181). -/
def unknownKind (kind : Byte) : Bool := kind == 0 || decide (16 < kind.toNat)

/-- The well-formed commands. -/
def Instr.wellFormed : Instr → Bool
  | .imageRead read => imageReadOk read
  | .statusFrameReceived src grants items => stationOk src && statusOk grants items
  | .claimFrameReceived src _ _ _ => stationOk src
  | .releaseFrameReceived src _ => stationOk src
  | .noticeFrameReceived src _ _ => stationOk src
  | .answerFrameReceived src _ _ _ => stationOk src
  | .unconsumedFrame src => stationOk src
  | .discardedFrame chars framing => framing || (readFrame chars).isNone
  | .ageStale station => stationOk station
  | .ageLost station => stationOk station
  | .pendingClaimExpiry station _ => stationOk station
  | .abandonTimerExpiry op => op != .aug
  | .requestUnknownKind kind req => unknownKind kind && requestOk req
  | .dispenseWater req => requestOk req
  | .dispenseStop req => requestOk req
  | .dispenseIce req => requestOk req
  | .iceStop req => requestOk req
  | .defrostNow req => requestOk req
  | .defrostInhibit req => requestOk req
  | .moldEnable req => requestOk req
  | .setMode req => requestOk req
  | .clearFault req => requestOk req
  | .clearWatch req => requestOk req
  | .forceWatch req => requestOk req
  | .readQuantity req => requestOk req
  | .publishNow req => requestOk req
  | .forgetStation req => requestOk req
  | .testOutput req => requestOk req
  | .restart req => requestOk req
  | .supplyFall _ | .supplyGood _ _ | .clockHeldLowTimeout | .listenTimerExpiry | .restartReset _ _
  | .transmissionStart | .lostArbitration | .bitError | .frameSent | .foreignFrameOwnAddress
  | .statusPeriodExpiry | .stuckTimer2ms | .stuckTimer1s | .lineRecessive12Bits | .lineGoodTimer
  | .aloneTimerExpiry | .returnListenExpiry | .claimRetryTime _ | .claimWindowExpiry | .shedDelayExpiry
  | .reclaimTimerExpiry | .frostSecondExpiry | .hourTimerExpiry | .retryTimerExpiry | .answerTimerExpiry
  | .speedTimerExpiry | .repeatTimerExpiry | .holdRetryExpiry | .inhibitTimerExpiry | .dwellTimerExpiry
  | .heatingSecondExpiry | .dripTimerExpiry | .fanTimerExpiry | .watchDelayExpiry _ | .sample _ _
  | .channelHoldExpiry _ | .binInputChange _ | .binTimerExpiry | .homeSwitchChange _ _ | .homeTimerExpiry _
  | .leakInputChange _ | .leakTimerExpiry | .cutoutInputChange _ | .cutoutTimerExpiry | .paddleLineChange _
  | .paddleTimerExpiry | .meterPulse | .fillLimitExpiry | .dispenseLimitExpiry | .settlingTimerExpiry
  | .silenceTimerExpiry | .estimateTimerExpiry | .relaxationExpiry | .allClosedExpiry | .runawayHoldExpiry
  | .fillRetryExpiry _ | .leastFreezeExpiry _ | .timedFreezeExpiry _ | .heaterSecondExpiry _
  | .ejectTimerExpiry _ | .stallWaitExpiry _ | .augerRunExpiry | .phaseTimerExpiry _ | .noticeRepeatExpiry
  | .lineLevelChange _ => true

end Sys2Proof
end

