-- ==== Sys2Proof/Tests/Slice0.lean ====
section
/-! SUPPORT. Tests: ill-formed commands refused, values worked in the manual, single steps, and a witness for the hypotheses of every statement. -/

namespace Sys2Proof.Tests

open Sys2Proof Sys2Proof.Machine

/-! The evaluations below run one at a time: side by side, their threads outgrow the memory of a build. -/

set_option Elab.async false

/-! ### Ill-formed commands are refused -/

def req (kind : List Byte) : Request := { src := 3, broadcast := false, cond := 0, seq := 7, args := kind }
def fromNowhere : Request := { req [] with src := 0 }
def tooLong : Request := req (List.replicate 9 0)

theorem test_illformed_image :
    (Instr.imageRead (.bytes (List.replicate 257 0))).wellFormed = false ∧
    (Instr.imageRead (.arrived (List.replicate 257 0))).wellFormed = false := by decide +kernel
theorem test_illformed_status_grants :
    (Instr.statusFrameReceived 2 (List.replicate 6 { cls := 0, amps := 0 }) []).wellFormed = false := by decide
theorem test_illformed_status_length :
    (Instr.statusFrameReceived 2 [] (List.replicate 6 { tag := 1, value := 0 })).wellFormed = false := by decide
theorem test_illformed_sources :
    (Instr.statusFrameReceived 0 [] []).wellFormed = false ∧ (Instr.claimFrameReceived 15 0 0 0).wellFormed = false ∧
    (Instr.releaseFrameReceived 0 0).wellFormed = false ∧ (Instr.noticeFrameReceived 15 0 0).wellFormed = false ∧
    (Instr.answerFrameReceived 0 0 0 0).wellFormed = false ∧ (Instr.unconsumedFrame 15).wellFormed = false := by decide
theorem test_illformed_stations :
    (Instr.ageStale 0).wellFormed = false ∧ (Instr.ageLost 15).wellFormed = false ∧
    (Instr.pendingClaimExpiry 0 0).wellFormed = false := by decide
theorem test_illformed_discard : (Instr.discardedFrame [0x36, 0xFA, 0x01, 0x2A, 0xF5] false).wellFormed = false := by decide +kernel
theorem test_illformed_abandon : (Instr.abandonTimerExpiry .aug).wellFormed = false := by decide
theorem test_illformed_kind :
    (Instr.requestUnknownKind 1 (req [])).wellFormed = false ∧ (Instr.requestUnknownKind 16 (req [])).wellFormed = false := by decide
theorem test_illformed_requests :
    (Instr.requestUnknownKind 0 fromNowhere).wellFormed = false ∧ (Instr.requestUnknownKind 17 tooLong).wellFormed = false ∧
    (Instr.dispenseWater fromNowhere).wellFormed = false ∧ (Instr.dispenseStop tooLong).wellFormed = false ∧
    (Instr.dispenseIce fromNowhere).wellFormed = false ∧ (Instr.iceStop tooLong).wellFormed = false ∧
    (Instr.defrostNow fromNowhere).wellFormed = false ∧ (Instr.defrostInhibit tooLong).wellFormed = false ∧
    (Instr.moldEnable fromNowhere).wellFormed = false ∧ (Instr.setMode tooLong).wellFormed = false ∧
    (Instr.clearFault fromNowhere).wellFormed = false ∧ (Instr.clearWatch tooLong).wellFormed = false ∧
    (Instr.forceWatch fromNowhere).wellFormed = false ∧ (Instr.readQuantity tooLong).wellFormed = false ∧
    (Instr.publishNow fromNowhere).wellFormed = false ∧ (Instr.forgetStation tooLong).wellFormed = false ∧
    (Instr.testOutput fromNowhere).wellFormed = false ∧ (Instr.restart tooLong).wellFormed = false := by decide
theorem test_wellformed_boundaries :
    (Instr.statusFrameReceived 14 (List.replicate 5 { cls := 7, amps := 255 }) [{ tag := 9, value := 0 }]).wellFormed = true ∧
    (Instr.requestUnknownKind 17 (req (List.replicate 8 0))).wellFormed = true ∧
    (Instr.requestUnknownKind 0 (req [])).wellFormed = true := by decide

/-! ### No word spells a command -/

theorem test_no_word : decodeTableWord 8 0 = none ∧ State.reset.withFetchWord 8 0 = State.reset := ⟨rfl, rfl⟩

/-! ### Values worked in the manual -/

/-- Section 2.2: the RELEASE frame of class 3 from station 5. -/
theorem test_frame_of_section_2_2 :
    headerOne 3 3 = 0x36 ∧ headerTwo 5 15 = 0xFA ∧ crc8 [0x36, 0xFA, 0x01, 0x2A] = 0xF5 := by decide +kernel

/-- R8: breakpoints, and readings between them (Table 1-5). -/
theorem test_conversion :
    convert builtinTable 160 = 900 ∧ convert builtinTable 3690 = -500 ∧ convert builtinTable 2410 = -100 ∧
    convert builtinTable 2000 = 2 ∧ convert builtinTable 2270 = -65 := by decide

/-- R7: readings outside the ends of the table are bad. -/
theorem test_bad_readings :
    goodSample builtinTable 159 = false ∧ goodSample builtinTable 160 = true ∧ goodSample builtinTable 3690 = true ∧
    goodSample builtinTable 3691 = false := by decide

/-- R87: the greatest increment of a minute. -/
theorem test_greatest_increment : frostIncrement 60 (moistureWeight 100 500) 60 60 2 = 2270 := by decide

/-- R94: 900 equivalent seconds leave T; shorter raises it by a quarter at most, longer lowers it by one. -/
theorem test_adaptation :
    adaptedT 3000 1800 = 3000 ∧ adaptedT 3000 60 = 3750 ∧ adaptedT 3000 4800 = 2250 ∧ adaptedT 12000 120 = 12000 ∧
    adaptedT 1200 4800 = 1200 := by decide

/-- R73: the walk stops at the first grant that covers the excess. -/
theorem test_shed_prefix :
    (shedPrefix 10 [{ amps := 6, own := some .aug }, { amps := 4, own := none }, { amps := 16, own := some .dh }]).length = 2 ∧
    (shedPrefix 11 [{ amps := 6, own := some .aug }, { amps := 4, own := none }, { amps := 16, own := some .dh }]).length = 3 ∧
    shedPrefix 0 [{ amps := 6, own := some .aug }] = [] := by decide

/-- R123: a quarter of the target is the least short fill. -/
theorem test_grades :
    gradeOf 400 { mold := .a, owed := 0, attempt := 1, openMs := 0 } = .full ∧
    gradeOf 400 { mold := .a, owed := 300, attempt := 1, openMs := 0 } = .short ∧
    gradeOf 400 { mold := .a, owed := 301, attempt := 1, openMs := 0 } = .retry ∧
    gradeOf 400 { mold := .a, owed := 301, attempt := 2, openMs := 0 } = .noWater := by decide

/-- R136: the last step towards the fridge is by 1. -/
theorem test_relaxation : relaxed 300 40 = 292 ∧ relaxed 71 40 = 70 ∧ relaxed 39 40 = 40 ∧ relaxed 40 40 = 40 := by decide

/-- R135: 10 mL at 30.0 °C into 1000 mL at 4.0 °C. -/
theorem test_mixing : mixChange 300 40 1000 2560 = 3 := by decide

/-! ### Small states -/

/-- The part in RUN, with nothing heard and nothing running. -/
def run : State := { State.reset with start := { StartUp.blank with state := .run } }

/-- A part that has heard from the compressor station 2 and the panel station 3. -/
def heard (q2 q3 : List (Byte × Int)) : State :=
  { run with
    view := (run.view.set 2 (some { StationRecord.new 0 with quantities := q2 })).set 3
      (some { StationRecord.new 0 with quantities := q3 }) }

def withLine (s : State) (g : Line → Line) : State := { s with line := g s.line }
def withShare (s : State) (g : Share → Share) : State := { s with share := g s.share }
def withDefrost (s : State) (g : Defrost → Defrost) : State := { s with defrost := g s.defrost }
def withWater (s : State) (g : Water → Water) : State := { s with water := g s.water }
def withMold (s : State) (m : Mold) (g : MoldRecord → MoldRecord) : State :=
  let r := g (s.mold m)
  { s with
    ice := { s.ice with molds := s.ice.molds.set m r }
    store := { s.store with values := s.store.values.set m.tag.idx r.tagValue } }

/-- An output that is on by its job command. -/
def switchedOn (s : State) (o : Output) : State :=
  { s with out := { s.out with channels := s.out.channels.set o.idx { job := .on, test := .none, layer := .on, resolved := .on } } }

/-- The state a command leads to. -/
def after (c : Instr) (s : State) : State :=
  match exec c s with
  | .next t => t
  | _ => s

/-! ### Single commands -/

/-- R191, Table 11-3: a first start with IMEN high, a data line that frees, and a blank memory. -/
def imageLoad : State := after (.supplyGood { vs0 := false, vs1 := false, imen := true, fast := false } 9) State.reset

theorem test_power_on_reads_the_image : imageLoad.reading = true ∧ imageLoad.start.clearPulses = 9 := by decide +kernel

/-- R7, R9: a SAMPLE before LISTEN brings the reading of the first sample: 160 raw is 90.0 °C. -/
theorem test_first_sample_reads_what_was_brought :
    let t := after (.supplyGood { vs0 := false, vs1 := false, imen := false, fast := false } 0) (after (.sample .evap 160) State.reset)
    (t.sensors.get .evap).state = .normal ∧ t.own .evapTemp = 900 ∧ (t.sensors.get .freezerAir).badCount = 1 := by decide +kernel

/-- R194: a blank image leaves the built-in set, F half of T, IMAGE_DEFAULTED in LAST_EVENT and in bit 11. -/
theorem test_blank_image :
    let t := after (.imageRead (.bytes (List.replicate 256 0xFF))) imageLoad
    t.start.state = .listen ∧ t.frost.f = 1500 ∧ t.own .lastEvent = 0x9B ∧ t.fault.bFlags = 2048 := by decide +kernel

/-- R192: RUN after the listen timer. -/
theorem test_entry_to_run :
    let t := after .listenTimerExpiry { State.reset with start := { StartUp.blank with state := .listen, listenTimer := some 2000000 } }
    t.start.state = .run ∧ t.now = 2000000 ∧ t.secondsSinceStart = 0 := by decide +kernel

/-- R41, R43: the STATUS period. -/
theorem test_status_period :
    (after .statusPeriodExpiry (withLine run fun l => { l with period := some 5 })).line.queue = [statusFrame] := by decide +kernel

/-- R35: a fourth bit error takes the frame out. -/
theorem test_fourth_bit_error :
    (after .bitError (withLine run fun l => { l with queue := [{ newFrame 15 4 (.notice 0x70 7) with retries := 3, sending := true }] })).line.queue
      = [] := by decide +kernel

/-- R42: a NOTICE whose attempt failed does not join the NOTICE of class 0 queued meanwhile. -/
theorem test_one_notice_waits :
    let queue := [{ newFrame 15 4 (.notice 0x70 7) with sending := true }, newFrame 15 0 (.notice 1 1)]
    (after .lostArbitration (withLine run fun l => { l with queue := queue })).line.queue = [newFrame 15 0 (.notice 1 1)] := by decide +kernel

/-- R80: a general release with nothing held still stops the re-claim timer. -/
theorem test_general_release_stops_the_reclaim_timer :
    (State.generalRelease (withShare run fun x => { x with reclaim := some 5 })).share.reclaim = none := by decide +kernel

/-- R132: pulses of an opening that the interlock held back until now leave R nominal. -/
theorem test_rate_of_a_late_opening :
    let s := withWater (switchedOn run .dv) fun w => { w with rate := 204, openedAt := 9000000 }
    (after .meterPulse { s with now := 9500000 }).water.rate = 204 := by decide +kernel

/-- R20, R184: W5 cleared from LATCHED while TRUE is INACTIVE and then ACTIVE; a point on CONDITION_FLAGS hears of both. -/
theorem test_cleared_W5_is_reported_twice :
    let low : WatchConfig :=
      { source := some (.own .conditionFlags), sense := .below, threshold := 0x4C, tracking := none, hysteresis := 0, makeDelay := 0
        breakDelay := 9, latch := false, inhibit := false, entry := .none, whileAct := .none }
    let s := { run with
      image := { run.image with watch := run.image.watch.set 15 low }
      watch := run.watch.set 5 { WatchPoint.blank with computed := .latched, condition := .isTrue } }
    let t := s.reportWords.clearPoint 5
    t.own .conditionFlags = 0x4C ∧ t.watch[(5 : Fin 16)].computed = .active ∧ t.watch[(15 : Fin 16)].computed = .breaking := by
  decide +kernel

/-- R99, R184: W5 above a DEFROST_STATE of 0 starts at the defrost's report; a point on CONDITION_FLAGS hears 0x05 of the defrost before 0x0D of W5. -/
theorem test_own_report_comes_before_that_of_W5 :
    let onDefrost : WatchConfig :=
      { source := some (.own .defrostState), sense := .above, threshold := 0, tracking := none, hysteresis := 0, makeDelay := 0
        breakDelay := 9, latch := false, inhibit := false, entry := .none, whileAct := .none }
    let low : WatchConfig := { onDefrost with source := some (.own .conditionFlags), sense := .below, threshold := 6 }
    let s := { run with image := { run.image with watch := (run.image.watch.set 5 onDefrost).set 15 low } }
    let t := s.setDefrost .pending
    t.own .conditionFlags = 0x0D ∧ t.watch[(5 : Fin 16)].computed = .active ∧ t.watch[(15 : Fin 16)].computed = .breaking := by
  decide +kernel

/-- R55, R184: W5 below a CONDITION_FLAGS of 0x48 starts at the report of the island exit (0x44), and its own report (0x4C) follows at once. -/
theorem test_island_exit_reports_W5 :
    let below : WatchConfig :=
      { source := some (.own .conditionFlags), sense := .below, threshold := 0x48, tracking := none, hysteresis := 9, makeDelay := 0
        breakDelay := 0, latch := false, inhibit := false, entry := .none, whileAct := .none }
    let s := withLine
      { run with
        image := { run.image with watch := run.image.watch.set 5 below }
        watch := run.watch.set 5 { WatchPoint.blank with condition := .isFalse } } fun l => { l with island := true }
    s.reportWords.own .conditionFlags = 0x64 ∧ s.reportWords.exitIsland.own .conditionFlags = 0x4C := by decide +kernel

/-- R193: the beginning of the transfer, and the stop after its last byte. -/
theorem test_read_on_the_port :
    let asked := after (.imageRead .acknowledged) (after (.imageRead .acknowledged) (after (.imageRead .acknowledged) imageLoad))
    asked.start.sent = imageLoad.start.sent ++ [.start, .device false, .word 0, .repeatedStart, .device true] ∧
    (after (.imageRead (.bytes [1, 2])) asked).start.sent.getLast? = some .stop := by decide +kernel

/-- R47: a STATUS of station 2 with the compressor at 0. -/
theorem test_status_heard :
    (after (.statusFrameReceived 2 [{ cls := 3, amps := 9 }] [{ tag := 1, value := 0 }]) run).compressorSpeed = some 0 ∧
    (after (.statusFrameReceived 2 [{ cls := 3, amps := 9 }] [{ tag := 1, value := 0 }]) run).peerTotal = 9 := by decide +kernel

/-- R14, R138, R172: a wet leak sensor locks the path and sets the flag. -/
theorem test_leak :
    let s := { run with
      pins := { run.pins with leak := true }
      switches := { run.switches with leak := { level := false, timer := some 5 } } }
    (after .leakTimerExpiry s).water.path = .locked ∧ (after .leakTimerExpiry s).own .lastEvent = 0x81 := by decide +kernel

/-- R126, R127: the panel starts a dispense of 100 mL, and DV opens. -/
theorem test_dispense :
    let s := heard [] [(8, 1)]
    let t := after (.dispenseWater (req [100, 0])) s
    t.water.path = .dispensing ∧ t.isOn .dv = true ∧ t.water.dispense.map Dispense.limit = some 25600 := by decide +kernel

/-- R187: DEFROST_NOW leads to HOLD_WAIT with the first sequence tag outstanding. -/
theorem test_defrost_now :
    (after (.defrostNow (req [])) run).defrost.state = .holdWait ∧
    (after (.defrostNow (req [])) run).defrost.outstanding = some 0 := by decide +kernel

/-- R186: READ_QUANTITY of LAST_EVENT. -/
theorem test_read_quantity :
    run.readItem 0 0x1F = some [0xFF, 0, 0] ∧ run.readItem 2 0xFF = some [0] ∧ run.readItem 2 0xFE = some [0, 0, 0] ∧
    run.readItem 15 0 = none := by decide +kernel

/-- R188: SET_MODE to SHOWROOM. -/
theorem test_set_mode :
    (after (.setMode (req [3])) run).mode = .showroom ∧ (after (.setMode (req [3])) run).own .mode = 3 := by decide +kernel

/-- R31, R32, R38: 0x36 is sent 0 1 1 0 1 1 0 0 after its start bit; the stop bit at 9.5 bit times (989 µs) ends it, and a dominant one ends the frame. -/
theorem test_character_on_the_line :
    let bits := [false, true, true, false, true, true, false, false]
    (Framer.start.fall 7).sampleAt = some (7 + 156) ∧ (Framer.character [] 7 bits).sampleAt = some (7 + 989) ∧
    (Framer.character [] 7 bits).sample true = .next [0x36] ∧ (Framer.character [] 7 bits).sample false = .gap ∧
    Framer.gap.fall 7 = .gap := by decide

/-- R32, R38, R49: the last stop bit of a CLAIM of station 2, and the step after it. -/
theorem test_frame_from_the_levels :
    let body : List Byte := [headerOne 3 2, headerTwo 2 15, 3, 9, 3, 20]
    let check := crc8 body
    let s := withLine { run with now := 2000 } fun l =>
      { l with framer := .character body 1000 ((List.range 8).map fun k => check.getLsbD k) }
    let t := s.lineSample
    t.line.framer = .gap ∧ t.line.heard.length = 1 ∧ t.dueCommand = some (.claimFrameReceived 2 9 3 20) := by decide +kernel

/-- R53: the command of a step from the queue. -/
theorem test_step_takes_the_front :
    step { run with pending := [.lineLevelChange true, .meterPulse] } = exec (.lineLevelChange true) { run with pending := [.meterPulse] } := rfl

/-! ### Witnesses: states and operands that meet the hypotheses of the statements

Each theorem is named for its statement; its parts are the statement's clauses. -/

def frameTo (cls : Nat) (body : FrameBody) : TxFrame := newFrame 15 cls body
def sendingOne (f : TxFrame) : State := withLine run fun l => { l with queue := [{ f with sending := true }], txEnd := some 9 }
def claimOf (op : LoadOp) (cls amps : Nat) (reclaim : Bool) : Claim :=
  { op := op, tag := 1, cls := cls, amps := amps, asked := 0, phase := .opened 1 5, cancelled := false, reclaim := reclaim
    nextAsk := none, lateAsk := none }
def claiming (c : Claim) : State := withShare run fun x => { x with flight := some c }
def granted (op : LoadOp) (amps : Nat) : Grant := { op := some op, cls := 2, amps := amps, tag := 4 }
def suspendedOf (op : LoadOp) : Suspension :=
  { op := op, cls := 2, amps := 8, context := .harvest 7 .heat, since := 0, abandon := 5 }
def island (s : State) : State := withLine s fun l => { l with island := true }
def stuck (s : State) : State := withLine s fun l => { l with mode := .stuck }
def sixFrames : List TxFrame := List.replicate 6 (frameTo 4 (.notice 0x70 7))
def flagged (s : State) (f : FaultId) : State := { s with fault := s.fault.put f true }
def classAState : State := flagged run .leak
def service : State := { run with mode := .service }
def showroom (s : State) : State := { s with mode := .showroom }
def full (s : State) : State := withLine s fun l => { l with queue := sixFrames }

theorem witness_StepWithoutCommandsBringsTime :
    ({ run with agenda := [.overtemp] }.pending = [] ∧ { run with agenda := [.overtemp] }.agenda ≠ []) ∧
    ((sendingOne statusFrame).agenda = [] ∧ ({ sendingOne statusFrame with now := 9 } : State).dueCommand = some .frameSent) ∧
    (let s := withLine { run with now := 157 } fun l => { l with framer := .character [] 1 [] }
     s.agenda = [] ∧ s.sampleDue = true) ∧
    (let s := withLine run fun l => { l with heard := [[0x36, 0xFA, 0x01, 0x2A, 0xF5]] }
     s.agenda = [] ∧ s.sampleDue = false ∧ s.listening = true ∧ s.line.heard.length = 1) ∧
    (State.reset.agenda = [] ∧ State.reset.sampleDue = false ∧ State.reset.dueCommand = none) := by decide +kernel

theorem witness_invariants :
    (State.reset.outputsSafe ∧ ∃ t, step State.reset = .next t) ∧
    ((switchedOn run .ef).fanInterlock = true ∧ ∃ t, step (switchedOn run .ef) = .next t) ∧
    (run.frostInRange ∧ ∃ t, step { run with pending := [.frostSecondExpiry] } = .next t) ∧
    (run.withinBudget ∧ ∃ t, step { run with pending := [.claimWindowExpiry] } = .next t) ∧
    ((full run).queueBounded ∧ ∃ t, step { full run with pending := [.statusPeriodExpiry] } = .next t) := by
  refine ⟨⟨?_, _, rfl⟩, ⟨by decide +kernel, _, rfl⟩, ⟨?_, _, rfl⟩, ⟨?_, _, rfl⟩, ⟨?_, _, rfl⟩⟩
  · unfold State.outputsSafe; decide +kernel
  · unfold State.frostInRange; decide +kernel
  · unfold State.withinBudget; decide +kernel
  · unfold State.queueBounded; decide +kernel

theorem witness_FramesReadBackAsTheyAreWritten :
    ({ cls := 7, kind := 1, source := 14, target := 15, payload := [5, 7, 255, 7, 0, 0, 0, 0, 0, 0, 0, 1, 2, 3, 4, 5] } : Frame).fits = true ∧
    ({ cls := 0, kind := 4, source := 1, target := 5, payload := [1, 0, 9] } : Frame).fits = true ∧
    ({ cls := 3, kind := 2, source := 5, target := 15, payload := [0, 7, 0] } : Frame).fits = true := by decide +kernel

theorem witness_ImageAndModeChangeOnlyByTheirCommands :
    Instr.meterPulse.isStart = false ∧ (∃ t, exec .meterPulse run = .next t) ∧ ∀ r, Instr.meterPulse ≠ .setMode r :=
  ⟨rfl, ⟨_, rfl⟩, fun _ h => nomatch h⟩

theorem witness_ViewSensorsAndSwitchesChangeOnlyByTheirCommands :
    Instr.meterPulse.isStart = false ∧ Instr.meterPulse.isFrame = false ∧ Instr.meterPulse.isAgeing = false ∧
    Instr.meterPulse.isSensor = false ∧ Instr.meterPulse.isSwitch = false ∧ ∃ t, exec .meterPulse run = .next t :=
  ⟨rfl, rfl, rfl, rfl, rfl, _, rfl⟩

theorem witness_ClassAFlagsStayUntilClearedOrPoweredOn :
    (FaultId.leak.isA = true ∧ classAState.fault.isSet .leak = true ∧ (∃ t, exec .meterPulse classAState = .next t) ∧
      (∀ x n, Instr.meterPulse ≠ .supplyGood x n) ∧ ∀ r, Instr.meterPulse ≠ .clearFault r) ∧
    (let s := { classAState with start := { StartUp.blank with mark := true } }
     s.fault.isSet .leak = true ∧ s.start.mark = true ∧ s.start.state = .powerUp ∧
      (∃ t, exec (.supplyGood s.pins.straps 9) s = .next t) ∧ ∀ r, Instr.supplyGood s.pins.straps 9 ≠ .clearFault r) ∧
    (FaultId.runaway.isA = true ∧ (flagged run .runaway).fault.isSet .runaway = true ∧ run.mode ≠ .service ∧
      (∃ t, exec (.clearFault (req [2])) (flagged run .runaway) = .next t) ∧ ∀ x n, Instr.clearFault (req [2]) ≠ .supplyGood x n) :=
  ⟨⟨rfl, by decide, ⟨_, rfl⟩, by intros; exact Instr.noConfusion, by intros; exact Instr.noConfusion⟩,
   ⟨by decide, rfl, rfl, ⟨_, rfl⟩, by intros; exact Instr.noConfusion⟩,
   ⟨rfl, by decide, by decide, ⟨_, rfl⟩, by intros; exact Instr.noConfusion⟩⟩

theorem witness_TestValuesChangeOnlyInServiceOrAtItsExit :
    (Instr.meterPulse.isStart = false ∧ (∃ t, exec .meterPulse run = .next t) ∧ (∀ r, Instr.meterPulse ≠ .setMode r) ∧
      ∀ r, Instr.meterPulse ≠ .testOutput r) ∧
    ((Instr.testOutput (req [0, 2, 0])).isStart = false ∧ (∃ t, exec (.testOutput (req [0, 2, 0])) run = .next t) ∧ run.mode ≠ .service) ∧
    (service.mode = .service ∧ (after (.setMode (req [0])) service).mode ≠ .service) ∧
    ((Instr.supplyFall false).isStart = true ∧ ∃ t, exec (.supplyFall false) run = .next t) ∧
    ((Instr.imageRead .failed).isStart = true ∧ imageLoad.start.state ≠ .listen ∧
      (after (.imageRead .failed) imageLoad).start.state = .listen) :=
  ⟨⟨rfl, ⟨_, rfl⟩, by intros; exact Instr.noConfusion, by intros; exact Instr.noConfusion⟩, ⟨rfl, ⟨_, rfl⟩, by decide⟩,
   ⟨rfl, by decide +kernel⟩, ⟨rfl, _, rfl⟩, by decide +kernel⟩

theorem witness_SupplyGood :
    ({ StartUp.blank with mark := true }.state = .powerUp ∧ { StartUp.blank with mark := true }.mark = true) ∧
    (State.reset.start.state = .powerUp ∧ State.reset.start.mark = false) := by decide

/-- An image whose fields are 0, and one whose conversion table rises. -/
def flatImage : List Byte := [1] ++ List.replicate 253 0 ++ [1, 0]
def risingImage : List Byte :=
  [1] ++ List.replicate 15 0 ++ (List.range 17).map (fun k => BitVec.ofNat 8 (k + 1)) ++ List.replicate 221 0 ++ [154, 0]

/-- The read after three acknowledged address bytes and the first image byte, which is 1. -/
def oneByteRead : State :=
  { imageLoad with rawImage := [1], start := { imageLoad.start with acked := 3, arrived := 1 } }

theorem witness_ImageReadOrFallbackEntersListen :
    (imageLoad.reading = true ∧ imageLoad.start.acked = 0 ∧ imageLoad.rawImage.take imageLoad.start.arrived = []) ∧
    (oneByteRead.reading = true ∧ oneByteRead.start.acked = 3 ∧
      oneByteRead.rawImage.take oneByteRead.start.arrived ++ flatImage.drop 1 = flatImage) ∧
    (imageChecks (List.replicate 256 0xFF) = false ∧ (List.replicate 256 (0xFF : Byte)).length = 256) ∧
    (imageChecks flatImage = true ∧ strictRise (tableAt flatImage) = false) ∧
    (imageChecks risingImage = true ∧ strictRise (tableAt risingImage) = true) := by
  decide +kernel

theorem witness_ListenTimerExpiryEntersRun :
    let s := { State.reset with start := { StartUp.blank with state := .listen, listenTimer := some 2000000 } }
    let q : Qualified := { level := true, timer := none }
    (s.start.listenTimer = some 2000000 ∧ (s.mold .a).state = .freezing ∧ ((after .listenTimerExpiry s).mold .a).state = .freezing) ∧
    { s.switches with leak := q, cutout := q }.leak.level = true ∧ { s.switches with leak := q, cutout := q }.cutout.level = true := by
  decide +kernel

theorem witness_RestartResetBeginsTheImageLoad :
    ({ run with start := { run.start with restart := .due } }).start.restart = .due ∧ run.start.state = .run := by decide

theorem witness_TransmissionStartPutsTheHeadFrameOnTheLine :
    let s := fun f => withLine run fun l => { l with idle := true, driver := true, queue := [f] }
    ((s statusFrame).listening = true ∧ (s statusFrame).line.sendingFrame = none ∧ statusFrame.isStatus = true) ∧
    ((s (frameTo 3 (.release 1))).line.sendingFrame = none ∧ (frameTo 3 (.release 1)).isStatus = false) := by decide +kernel

theorem witness_AssembledStatusFitsItsFrame :
    (withShare run fun x => { x with grants := List.replicate 5 (granted .mha 3) }).share.grants.length ≤ 5 ∧
    (run.publishTags.filter fun t => run.store.changed[t.idx]).length ≤ itemRoom run.share.grants.length := by decide +kernel

theorem witness_FailedAttemptKeepsOrDropsTheFrame :
    let notice := frameTo 4 (.notice 0x70 7)
    let claim := frameTo 3 (.claim 1 3 16)
    let withFlight := fun c s => withShare s fun x => { x with flight := some c }
    ((sendingOne statusFrame).sends [] { statusFrame with sending := true } [] ∧ statusFrame.isStatus = true ∧ statusFrame.retries < 3) ∧
    (sendingOne { statusFrame with retries := 3 }).sends [] { statusFrame with retries := 3, sending := true } [] ∧
    ((sendingOne (frameTo 3 (.release 1))).sends [] { frameTo 3 (.release 1) with sending := true } [] ∧
      (frameTo 3 (.release 1)).isStatus = false ∧ (frameTo 3 (.release 1)).isNotice = false ∧ (frameTo 3 (.release 1)).isClaim = false) ∧
    (sendingOne { frameTo 2 (.answer 16 0 0 [] true) with retries := 3 }).sends []
      { frameTo 2 (.answer 16 0 0 [] true) with retries := 3, sending := true } [] ∧
    ((withLine run fun l => { l with queue := [frameTo 0 (.notice 1 1), { notice with sending := true }] }).sends
      [frameTo 0 (.notice 1 1)] { notice with sending := true } [] ∧ notice.isNotice = true ∧ notice.retries < 3 ∧
      ([frameTo 0 (.notice 1 1)].any fun g => g.isNotice && g.cls == 0) = true) ∧
    (sendingOne { notice with retries := 3 }).sends [] { notice with retries := 3, sending := true } [] ∧
    ((withFlight { claimOf .mha 2 8 false with cancelled := true } (sendingOne claim)).sends [] { claim with sending := true } [] ∧
      claim.isClaim = true ∧ { claimOf .mha 2 8 false with cancelled := true }.lateAsk = none) ∧
    ((withFlight (claimOf .mha 2 8 false) (sendingOne { claim with retries := 3 })).sends []
      { claim with retries := 3, sending := true } [] ∧ (claimOf .mha 2 8 false).cancelled = false ∧
      (claimOf .mha 2 8 true).reclaim = true ∧ (claimOf .dh 3 16 false).op = .dh) := by
  simp only [State.sends]
  decide +kernel

theorem witness_FrameSentTellsTheBlockThatQueuedIt :
    ((sendingOne statusFrame).line.txEnd = some 9 ∧ (sendingOne statusFrame).sends [] { statusFrame with sending := true } []) ∧
    ((sendingOne (frameTo 3 (.claim 1 3 16))).sends [] { frameTo 3 (.claim 1 3 16) with sending := true } [] ∧
      (frameTo 3 (.claim 1 3 16)).isClaim = true ∧
      (withShare (sendingOne (frameTo 3 (.claim 1 3 16))) fun x => { x with flight := some (claimOf .dh 3 16 false) }).share.flight ≠ none) := by
  refine ⟨⟨rfl, rfl, rfl, by decide⟩, ⟨rfl, rfl, by decide⟩, rfl, by decide⟩

theorem witness_StatusPeriodOffersAStatus :
    let p := fun s => withLine s fun l => { l with period := some 5 }
    ((p run).line.period = some 5 ∧ (p run).line.mode ≠ .stuck ∧ (p run).line.waiting TxFrame.isStatus = false ∧
      (p run).line.queue.length < 6) ∧
    ((p (full run)).line.mode ≠ .stuck ∧ (p (full run)).line.waiting TxFrame.isStatus = false ∧ 6 ≤ (p (full run)).line.queue.length) ∧
    ((p (withLine run fun l => { l with queue := [statusFrame] })).line.waiting TxFrame.isStatus = true) ∧
    (p (stuck run)).line.mode = .stuck := by decide +kernel

/-- The levels of a character's data bits, least significant first, true for recessive (R31). -/
def levelsOf (b : Byte) : List Bool := (List.range 8).map fun k => b.getLsbD k

theorem witness_StuckLineHoldsOffThenIsolates :
    (run.listening = true ∧ run.pins.line = false) ∧
    ({ run with pins := { run.pins with line := true } }.pins.line = true) ∧
    (let s := withLine run fun l => { l with stuckShort := some 5 }
     s.line.stuckShort = some 5 ∧ s.line.mode = .normal ∧ s.line.sendingFrame = none) ∧
    (let s := withLine run fun l => { l with stuckLong := some 5, mode := .heldOff }
     s.line.stuckLong = some 5 ∧ s.line.stuckShort = none ∧ s.line.mode = .heldOff) ∧
    (let s := withLine run fun l => { l with framer := .character [0x36, 0xFA, 0x01, 0x2A] 1 (levelsOf 0xF5) }
     s.pins.line = false ∧ Framer.after ([0x36, 0xFA, 0x01, 0x2A] ++ [charOf (levelsOf 0xF5)]) = .whole [0x36, 0xFA, 0x01, 0x2A, 0xF5] ∧
      s.line.sendingFrame = none ∧ s.sampleDue = false) ∧
    ((withLine run fun l => { l with recessive := some 5 }).line.recessive = some 5) := by decide +kernel

theorem witness_IslandOperationBeginsAndTheLineRecovers :
    let s := withLine run fun l => { l with alone := some 5, goodTimer := some 5, returnListen := some 5 }
    (s.line.alone = some 5 ∧ s.line.island = false ∧ (island s).line.island = true) ∧
    (s.ownClaimable ≤ s.image.islandAllowance ∧
      s.image.islandAllowance < (withShare s fun x => { x with grants := [granted .mha 8, granted .dh 16] }).ownClaimable) ∧
    s.line.goodTimer = some 5 ∧ s.line.returnListen = some 5 := by decide +kernel

theorem peerHeard_two : run.peerHeard 2 := ⟨rfl, by decide, by decide, by decide⟩

theorem witness_ValidPeerFrameRefreshesItsSender :
    run.peerHeard 2 ∧ run.peerHeard 14 ∧ run.record 2 = none ∧ (heard [] []).record 2 = some (.new 0) ∧ run.line.mode ≠ .stuck ∧
    (let s := withLine run fun l => { l with island := true, lineGood := true }
     s.peerHeard 1 ∧ s.line.island = true ∧ s.line.lineGood = true) := by
  simp only [State.peerHeard]
  decide +kernel

theorem witness_DiscardedAndClashingFramesTouchNoRecord : run.listening = true ∧ State.reset.listening = false := by decide

theorem witness_StatusReplacesGrantsAndClaims :
    let items : List QuantityItem := [{ tag := 1, value := 0 }, { tag := 2, value := 0xFFFF }]
    run.peerHeard 2 ∧ (items.map QuantityItem.tag).Nodup ∧ run.ofInterest 2 1 = true ∧ run.ofInterest 2 2 = false := by
  simp only [State.peerHeard]
  decide +kernel

/-- A record with pending claims of tags 1, 2, … and stamps 1, 2, …. -/
def pendingRecord (n : Nat) : StationRecord :=
  { StationRecord.new 0 with
    claims := (List.range n).map fun k =>
      { tag := BitVec.ofNat 8 (k + 1), cls := 3, amps := 9, stamp := BitVec.ofNat _ (k + 1), expires := 5 } }
def claimed (n : Nat) : State := { run with view := run.view.set 2 (some (pendingRecord n)) }

theorem witness_ClaimsArePendingUntilReleasedOrExpired :
    run.peerHeard 2 ∧ (claimed 0).record 2 = some (pendingRecord 0) ∧ (pendingRecord 0).claims = [] ∧
    (pendingRecord 1).claims.map PendingClaim.tag = [1] ∧ (pendingRecord 2).claims.map PendingClaim.tag = [1, 2] ∧
    ((pendingRecord 1).claims.find? fun p => p.tag == 1).isSome = true :=
  ⟨peerHeard_two, by decide +kernel, rfl, by decide, by decide, by decide⟩

theorem witness_NoticesAreKeptAndHoldAnswersTaken :
    let s := fun (q : List (Byte × Int)) n =>
      withDefrost (heard q []) fun x => { x with state := .holdWait, outstanding := some 7, attempts := n }
    (s [(1, 0)] 0).peerHeard 2 ∧ 2 = ((s [(1, 0)] 0).hears 2).image.compressor ∧
    ((s [(1, 0)] 0).hears 2).defrost.outstanding = some 7 ∧ ((s [(1, 0)] 0).hears 2).defrost.state = .holdWait ∧
    ((s [(1, 0)] 0).hears 2).line.island = false ∧ ((s [(1, 0)] 0).hears 2).compressorSpeed = some 0 ∧
    ((s [] 0).hears 2).compressorSpeed ≠ some 0 ∧ ((s [] 1).hears 2).defrost.attempts < 2 ∧ 2 ≤ ((s [] 2).hears 2).defrost.attempts ∧
    (run.hears 2).defrost.outstanding ≠ some 7 ∧
    ((withDefrost run fun x => { x with outstanding := some 7 }).hears 2).defrost.state ≠ .holdWait := by
  simp only [State.peerHeard]
  decide +kernel

theorem witness_RecordsAgeToStaleAndLost :
    (heard [] []).record 2 = some (.new 0) ∧ (StationRecord.new 0).freshness = .fresh ∧
    { StationRecord.new 0 with freshness := .stale }.freshness ≠ .lost := by decide +kernel

theorem witness_ClaimIsGrantedWithinTheBudget :
    (let s := { claiming (claimOf .aug 1 60 false) with ice := { run.ice with auger := .claiming } }
     s.share.flight = some (claimOf .aug 1 60 false) ∧ s.committed 1 1 + 60 ≤ s.image.budget ∧ s.line.island = false ∧
     s.ice.auger = .claiming) ∧
    (let s := island (withMold (claiming (claimOf .mha 2 20 false)) .a fun r => { r with state := .harvestClaim })
     s.line.island = true ∧ s.ownClaimable + 20 ≤ s.image.islandAllowance ∧ (s.mold .a).state = .harvestClaim ∧
     (s.mold .a).suspended = false ∧ s.committed 2 1 + 20 ≤ s.image.budget) ∧
    (let s := withDefrost (claiming (claimOf .dh 3 16 false)) fun x => { x with state := .heatClaim }
     s.defrost.state = .heatClaim ∧ s.committed 3 1 + 16 ≤ s.image.budget) := by decide +kernel

theorem witness_ClaimBeyondTheBudgetIsRefused :
    (let s := claiming (claimOf .aug 1 61 false)
     s.line.mode ≠ .stuck ∧ s.line.queue.length < 6 ∧ s.image.budget < s.committed 1 1 + 61 ∧
      s.share.flight = some (claimOf .aug 1 61 false) ∧ (claimOf .aug 1 61 false).phase = .opened 1 5) ∧
    (let s := full (island (claiming (claimOf .mha 2 21 true)))
     s.line.mode ≠ .stuck ∧ 6 ≤ s.line.queue.length ∧ s.committed 2 1 + 21 ≤ s.image.budget ∧ s.line.island = true ∧
      s.image.islandAllowance < s.ownClaimable + 21 ∧ (claimOf .mha 2 21 true).reclaim = true) ∧
    (let c := { claimOf .dh 3 61 false with cancelled := true }
     (claiming c).line.mode ≠ .stuck ∧ c.lateAsk = none ∧ { c with lateAsk := some (16, 4) }.lateAsk = some (16, 4)) := by
  decide +kernel

theorem witness_ShedPrefixJustCoversTheExcess :
    0 < 7 ∧ shedPrefix 7 [{ amps := 6, own := some .aug }] ≠ [] := by decide

theorem witness_ShedDelayShedsTheOwnGrantsOfThePrefix :
    let s := fun op amps => withShare run fun x => { x with shedDelay := some 5, grants := [granted op amps] }
    ((s .aug 60).peerTotal + (s .aug 60).ownTotal ≤ (s .aug 60).image.budget ∧ (s .aug 60).share.shedDelay = some 5) ∧
    ((s .aug 61).image.budget < (s .aug 61).peerTotal + (s .aug 61).ownTotal ∧ LoadOp.aug ∈ (s .aug 61).shedOps) ∧
    (LoadOp.mha ∈ (s .mha 61).shedOps ∧ LoadOp.dh ∈ (s .dh 61).shedOps) := by decide +kernel

theorem witness_SuspendedOperationsAreReclaimedOrAbandoned :
    let s := withShare run fun x => { x with reclaim := some 5, suspended := [suspendedOf .mha] }
    let e : ClaimEntry := { op := .mha, cls := 2, amps := 8, asked := 0, retryAt := some 5, reclaim := true }
    (s.share.reclaim = some 5 ∧ s.share.suspended = [suspendedOf .mha] ∧ s.entryOf .mha = none ∧ s.flightOf .mha = none) ∧
    ((withShare s fun x => { x with suspended := [] }).share.suspended = []) ∧
    ((withShare s fun x => { x with queue := [e] }).entryOf .mha = some e ∧ e.retryAt = some 5) ∧
    s.suspensionOf .mha = some (suspendedOf .mha) ∧
    (let t := withDefrost (withShare run fun x => { x with suspended := [suspendedOf .dh] }) fun x => { x with state := .paused }
     t.suspensionOf .dh = some (suspendedOf .dh) ∧ t.defrost.state = .paused ∧ t.mode ≠ .showroom) ∧
    (let t := withMold s .a fun r => { r with suspended := true }
     (t.mold .a).suspended = true ∧ t.switches.bin.level = true) := by decide +kernel

theorem witness_FrostSecondSamplesAndMinuteEnds :
    let s := fun n => { run with frost := { run.frost with secondTimer := some 5, seconds := n } }
    ((s 58).frost.secondTimer = some 5 ∧ (s 58).frost.seconds + 1 ≠ 60) ∧ (s 59).frost.seconds + 1 = 60 ∧
    (showroom (s 59)).mode = .showroom ∧ (s 59).defrost.state = .idle ∧
    ((7 : Nat) : Int) = (s 59).ambientRh * ((s 59).ambientTemp + 100) / 4000 := by decide +kernel

theorem witness_HoursAndRetryGapRaiseDemands :
    let s := fun f hours => { run with frost := { run.frost with hourTimer := some 5, retryTimer := some 5, f := f, hours := hours } }
    ((s 0 71).frost.hourTimer = some 5 ∧ (s 0 71).defrost.state = .idle ∧ 72 ≤ min 65535 ((s 0 71).frost.hours + 1)) ∧
    (s 3000 5).frost.t ≤ (s 3000 5).frost.f ∧ 6 ≤ min 65535 ((s 3000 5).frost.hours + 1) ∧
    ((s 2999 0).frost.retryTimer = some 5 ∧ (s 2999 0).frost.f < (s 2999 0).frost.t) := by decide +kernel

theorem witness_CompletedDefrostAdaptsTheThreshold : 1200 ≤ run.frost.t ∧ run.frost.t ≤ 12000 ∧ run.frost.t = 3000 := by decide

theorem witness_HoldTimersFailRenewAndRetryTheHold :
    let s := fun state n => withDefrost run fun x =>
      { x with state := state, attempts := n, answer := some 5, speed := some 5, hold := .asked, renew := some 5 }
    ((s .holdWait 1).defrost.answer = some 5 ∧ (s .holdWait 1).defrost.speed = some 5 ∧ (s .holdWait 1).line.island = false ∧
      (s .holdWait 1).defrost.attempts < 2 ∧ 2 ≤ (s .holdWait 2).defrost.attempts) ∧
    ((island (s .holdWait 0)).line.island = true ∧ (s .idle 0).defrost.state ≠ .holdWait) ∧
    ((s .holdWait 0).defrost.renew = some 5 ∧ (s .holdWait 0).line.full = false ∧ (s .holdWait 0).line.mode ≠ .stuck) ∧
    (let t := withDefrost run fun x => { x with state := .pending, holdRetry := some 5 }
     t.defrost.holdRetry = some 5 ∧ t.defrost.inhibit = none ∧ t.defrost.state = .pending ∧ t.mode ≠ .showroom ∧ t.classA = false) ∧
    (let t := withDefrost run fun x => { x with state := .pending, inhibit := some 5 }
     t.defrost.inhibit = some 5 ∧ t.defrost.holdRetry = none ∧ t.line.island = false) ∧
    (let t := withDefrost run fun x => { x with holdRetry := some 5, inhibit := some 5 }
     t.defrost.state ≠ .pending) := by decide +kernel

theorem witness_DwellDripAndFanTimersMoveTheDefrostOn :
    let s := withDefrost run fun x => { x with dwell := some 5, drip := some 5, fan := some 5, state := .holdWait }
    s.defrost.dwell = some 5 ∧ s.asksFreely .dh ∧ s.defrost.drip = some 5 ∧ s.defrost.fan = some 5 ∧ s.queueOpen ∧
    s.holdsFor .dh = false ∧ s.defrost.attempts < 2 ∧ s.defrost.state = .holdWait ∧ (withDefrost s fun x => { x with state := .drip }).defrost.state ≠ .recovery := by
  simp only [State.asksFreely, State.queueOpen]
  decide +kernel

theorem witness_HeatingSecondCountsAndEndsHeating :
    let s := fun (q n : Nat) => withDefrost run fun x => { x with state := .heating, heatSecond := some 5, tEq2 := q, heatSeconds := n }
    ((s 0 0).defrost.heatSecond = some 5 ∧ (s 0 0).defrost.state = .heating ∧ 1200 ≤ (s 0 0).frost.t ∧ (s 0 0).frost.t ≤ 12000) ∧
    (4800 ≤ (s 4798 0).defrost.tEq2 + 2 ∧ 3600 ≤ (s 0 3599).defrost.heatSeconds + 1) ∧
    ((s 2398 0).substituted .evap = true ∧ 2400 ≤ (s 2398 0).defrost.tEq2 + 2) := by decide +kernel

def channelAt (c : Channel) (state : ChannelState) (n : Nat) : State :=
  { run with sensors := run.sensors.set c { state := state, badCount := n, hold := some 5, sample := some 5 } }

theorem witness_SamplesAndTheHoldMoveTheirChannel :
    ((channelAt .evap .normal 0).sensors.get .evap).sample = some 5 ∧ goodSample run.image.table 160 = true ∧
    goodSample run.image.table 159 = false ∧ ((channelAt .evap .normal 1).sensors.get .evap).badCount + 1 < 3 ∧
    3 ≤ ((channelAt .evap .normal 2).sensors.get .evap).badCount + 1 ∧
    ((channelAt .moldA .starting 2).sensors.get .moldA).state = .starting ∧
    (((channelAt .freezerAir .holding 3).sensors.get .freezerAir).hold = some 5 ∧ run.defrost.state ≠ .heating ∧
      ((withMold (withMold run .a fun r => { r with state := .fillWait }) .b fun r => { r with state := .fillWait }).mold .a).state ≠ .freezing) ∧
    (State.reset.sensors.get .evap).sample = none := by
  decide +kernel

theorem witness_ReadingAtABreakpointIsItsTemperature :
    strictRise builtinTable = true ∧ (∀ q ∈ builtinTable, -500 ≤ q.2 ∧ q.2 ≤ 900) ∧ ((160, 900) : Nat × Int) ∈ builtinTable := by
  decide +kernel

theorem witness_SwitchChangesStartAndStopTheirTimers :
    run.listening = true ∧ State.reset.listening = false ∧ run.pins.bin ≠ true ∧ run.pins.home.get .a ≠ true ∧ run.pins.leak ≠ true ∧
    run.pins.cutout ≠ true ∧ run.pins.paddle ≠ true := by decide

/-- A dispense of 2 mL with 1 mL counted, and a fill with 128/256 mL owed, with their valves open. -/
def dispensing : State :=
  switchedOn (withWater run fun w => { w with
    path := .dispensing, estimate := some 5, dispenseLimit := some 5
    dispense := some { owner := .panel, limit := 512, capped := false, counted := 256, panelHold := true } }) .dv
def aFill : Fill := { mold := .a, owed := 128, attempt := 1, openMs := 0 }
def filling : State :=
  switchedOn (withWater run fun w => { w with path := .filling, current := some aFill, fillLimit := some 5, estimate := some 5 }) .fva

theorem witness_SwitchTimersSetTheQualifiedLevel :
    let q : Qualified := { level := false, timer := some 5 }
    let s := { run with switches := { bin := q, home := { a := q, b := q }, leak := q, cutout := q, paddle := q } }
    let up := { s with pins := { s.pins with bin := true, home := { a := true, b := true }, leak := true, cutout := true } }
    s.switches.bin.timer = some 5 ∧ (s.switches.home.get .b).timer = some 5 ∧ s.switches.leak.timer = some 5 ∧
    s.switches.cutout.timer = some 5 ∧ s.switches.paddle.timer = some 5 ∧
    ((withMold up .a fun r => { r with state := .harvestPending }).mold .a).state = .harvestPending ∧
    (let t := withMold up .a fun r => { r with state := .eject, leaveSeen := true }
     (t.mold .a).state = .eject ∧ (t.mold .a).suspended = false ∧ t.pins.home.get .a = true ∧ (t.mold .a).leaveSeen = true) ∧
    (let u := fun (m : Mold) => State.resolve (State.reportConditions
       { ((withMold s m fun r => { r with state := .harvestPending }).atMoment 5) with
         switches := { s.switches with bin := { level := false, timer := none } } })
     (u .a).harvestHeld = false ∧ ((u .b).holdTestMold .a).harvestHeld = false) ∧
    s.pins.home.get .a = false ∧ up.pins.leak = true ∧ up.pins.cutout = true ∧ s.image.edge = .levelLow ∧
    ({ s with image := { s.image with source := .panel } }).image.source = .panel ∧
    (let edge := fun (e : EdgeSelect) (low path : Bool) =>
       { s with
         image := { s.image with source := .either, edge := e }, pins := { s.pins with paddle := low }
         water := { s.water with path := if path then .dispensing else .idle } }
     let u := fun (x : State) => State.resolve { x.atMoment 5 with switches := { x.switches with paddle := { level := x.pins.paddle, timer := none } } }
     (u (edge .falling true false)).running = true ∧ (u (edge .falling true false)).mode ≠ .showroom ∧
     (u (edge .falling true false)).water.path = .idle ∧ (u (edge .falling true false)).water.lineHold = false ∧
     (u (edge .rising false true)).water.path = .dispensing ∧
     (u (withWater (edge .rising false true) fun w => { w with lineHold := true })).water.lineHold = true ∧
     (u { dispensing with image := (edge .levelLow false true).image }).water.dispense.isSome = true) := by decide +kernel

theorem witness_WatchDelayMovesItsPoint :
    let s := fun c f => { run with watch := run.watch.set 15 { WatchPoint.blank with computed := c, delay := .running 5, forced := f } }
    ((s .making .none).watch[(15 : Fin 16)].delay = .running 5 ∧ (s .making .none).watch[(15 : Fin 16)].computed = .making) ∧
    (s .making .inactive).watch[(15 : Fin 16)].forced ≠ .none ∧ (s .breaking .none).watch[(15 : Fin 16)].computed = .breaking := by
  decide +kernel

/-- Watch point 15 on the part's F, tripping above 10 with a hysteresis of 2, with the record `w` and F at `v`. -/
def watching (cfg : WatchConfig) (w : WatchPoint) (v : Int) : State :=
  { run with
    image := { run.image with watch := run.image.watch.set 15 cfg }
    watch := run.watch.set 15 w
    store := { run.store with values := run.store.values.set OwnTag.frostIndex.idx v } }
def plainPoint : WatchConfig :=
  { source := some (.own .frostIndex), sense := .above, threshold := 10, tracking := none, hysteresis := 2, makeDelay := 3
    breakDelay := 0, latch := false, inhibit := false, entry := .none, whileAct := .none }

theorem witness_WatchDelayMovesItsPoint_hear :
    let own : Source := .own .frostIndex
    let tracked := { plainPoint with tracking := some { reference := some (.peer 4 4), offset := 5 } }
    let follows := { plainPoint with tracking := some { reference := some own, offset := 5 } }
    (plainPoint.source = some own ∧ plainPoint.reference ≠ some own ∧ (watching plainPoint .blank 11).sourceValue own = some 11 ∧
      (10 : Int) < 11 ∧ ¬ (10 : Int) < 10) ∧
    (let level : Int := 10
     (8 : Int) ≤ level - plainPoint.hysteresis ∧ ¬ (9 : Int) ≤ level - plainPoint.hysteresis) ∧
    (tracked.tracking ≠ none ∧ tracked.reference ≠ some own ∧ WatchPoint.blank.known = false) ∧
    (watching { plainPoint with source := some (.peer 4 4) } .blank 0).sourceValue (.peer 4 4) = none ∧
    (follows.reference = some own ∧ follows.source = some own ∧ (watching follows .blank 7).sourceValue own = some 7 ∧
      own.signed = false) := by decide +kernel

theorem witness_MeteringStepsCountTheWater :
    (dispensing.running = true ∧ dispensing.anyValveOpen = true ∧ dispensing.water.path = .dispensing ∧ dispensing.isOn .dv = true ∧
      dispensing.meteredValve ≠ none ∧ dispensing.water.openedAt + 2000000 ≤ { dispensing with now := 2000000 }.now ∧
      256 + dispensing.image.meterK < 512 ∧ dispensing.water.estimate = some 5) ∧
    512 ≤ 384 + dispensing.image.meterK ∧
    (filling.water.path = .filling ∧ filling.isOn aFill.mold.valve = true ∧ aFill.owed ≤ filling.image.meterK ∧
      filling.water.held = none ∧ filling.water.queue = [] ∧ filling.image.meterK < 129) ∧
    (run.anyValveOpen = false ∧ run.water.armed = false ∧ (withWater run fun w => { w with armed := true }).water.armed = true ∧
      run.water.closedVolume + run.image.meterK < 5120 ∧
      5120 ≤ (withWater run fun w => { w with closedVolume := 4992 }).water.closedVolume + run.image.meterK ∧
      run.fault.isSet .runaway = false) ∧
    State.reset.running = false ∧ (withWater run fun w => { w with silence := some 5 }).water.silence = some 5 ∧
    (withWater run fun w => { w with allClosed := some 5 }).water.allClosed = some 5 ∧
    (withWater run fun w => { w with runawayHold := some 5 }).water.runawayHold = some 5 := by decide +kernel

theorem witness_LimitsAndSettlingEndDeliveries :
    (filling.water.fillLimit = some 5 ∧ filling.water.current = some aFill ∧ filling.water.held = none ∧ filling.water.queue = [] ∧
      0 < aFill.owed ∧ filling.image.fillTargetMl * 256 ≤ 4 * (filling.image.fillTargetMl * 256 - aFill.owed)) ∧
    (4 * (filling.image.fillTargetMl * 256 - 23041) < filling.image.fillTargetMl * 256) ∧
    (filling.mayFill ∧ (withWater filling fun w => { w with queue := [aFill] }).water.queue = { aFill with openMs := 0 } :: []) ∧
    (dispensing.water.dispenseLimit = some 5 ∧ dispensing.water.dispense ≠ none) ∧
    (let s := withWater run fun w => { w with settling := some 5, held := some { aFill with openMs := 14999 } }
     s.water.settling = some 5 ∧ s.mayFill ∧ s.water.held = some { aFill with openMs := 14999 }) ∧
    (let s := withWater run fun w => { w with settling := some 5, queue := [aFill] }
     s.water.held = none ∧ s.water.queue = [aFill] ∧ ¬ (showroom s).mayFill) := by
  simp only [State.mayFill]
  decide +kernel

theorem witness_RelaxationMovesTheReservoirTowardsTheFridge :
    let s := fun t => withWater run fun w => { w with relaxation := some 5, tRes := t }
    (s 0).water.relaxation = some 5 ∧ 0 ≤ (s 0).water.tRes ∧ (s 300).water.tRes ≤ (s 300).image.tIn ∧ 150 ≤ (s 0).image.tIn := by
  decide +kernel

/-- Mold A's record changed, its state tag with it. -/
def moldState (g : MoldRecord → MoldRecord) : State := withMold run .a g

theorem witness_MoldAndAugerTimersMoveTheirUnit :
    (let s := moldState fun r => { r with state := .fillWait, fillRetry := some 5 }
     s.tagAgrees .a ∧ (s.mold .a).fillRetry = some 5 ∧ s.fillKnown .a = false ∧ s.mayFill ∧ s.water.path = .idle ∧
     s.water.held = none ∧ s.water.queue = [] ∧ s.water.current = none ∧
     (withWater s fun w => { w with path := .settling }).water.path ≠ .idle ∧
     (withWater s fun w => { w with held := some aFill }).fillKnown .a = true) ∧
    (let s := moldState fun r => { r with leastFreeze := some 5, timedFreeze := some 5 }
     let good := { s with sensors := s.sensors.set .moldA { state := .normal, badCount := 0, hold := none, sample := none } }
     s.tagAgrees .a ∧ s.substituted .moldA = true ∧ good.substituted .moldA = false ∧ good.watchActive 1 = false ∧
     ({ good with watch := good.watch.set 1 { WatchPoint.blank with forced := .active } }).watchActive 1 = true ∧
     s.running = true ∧ (s.mold .a).state = .freezing ∧ (s.mold .a).timedFreeze ≠ none) ∧
    (let s := fun (n : Nat) (e : Bool) =>
       moldState fun r => { r with state := .harvestHeat, heatSecond := some 5, heatSeconds := n, resumeEject := e }
     (s 0 false).tagAgrees .a ∧ ((s 0 false).mold .a).heatSecond = some 5 ∧ ((s 0 false).mold .a).suspended = false ∧
     150 ≤ ((s 149 false).mold .a).heatSeconds + 1 ∧ ((s 0 true).mold .a).resumeEject = true) ∧
    (let s := fun (n : Nat) => moldState fun r => { r with eject := some 5, stallWait := some 5, stalls := n }
     (s 0).tagAgrees .a ∧ ((s 0).mold .a).eject = some 5 ∧ ((s 0).mold .a).stalls = 0 ∧ ((s 1).mold .a).stalls ≠ 0 ∧
     ((s 0).mold .a).stallWait = some 5 ∧ (s 0).asksFreely .mha) ∧
    (let s := { run with ice := { run.ice with auger := .running, runTimer := some 5 } }
     s.ice.runTimer = some 5 ∧ s.ice.auger = .running) := by
  simp only [State.tagAgrees, State.mayFill, State.asksFreely]
  decide +kernel

theorem witness_PhaseTimersAndNoticeRepeats :
    (let s := fun (p : GenPhase) => { run with out := { run.out with gens := run.out.gens.set 0 { phase := p, timer := some 5 } } }
     (s .pullIn).out.gens[(0 : Fin 4)].timer = some 5 ∧ (s .onPhase).out.gens[(0 : Fin 4)].phase ≠ .idle) ∧
    (let s := { classAState with fault := { classAState.fault with noticeTimer := some 5 } }
     s.fault.noticeTimer = some 5 ∧ s.classA = true ∧ s.line.mode ≠ .stuck ∧ s.line.full = false ∧ s.fault.isSet .leak = true ∧
     FaultId.leak.code = 1) ∧
    (let s := { run with fault := { run.fault with noticeTimer := some 5 } }
     s.fault.noticeTimer = some 5 ∧ s.fault.aFlags = 0) := by decide +kernel

theorem witness_ClassARaiseReleasesLocksAndSwitchesOff :
    let captured := fun f : FaultId => some ({ fault := f, seconds := 0, defrost := 0, moldA := 0, moldB := 0, path := 0, f := 0, lastEvent := 0 } : Detail)
    (FaultId.overtemp.isA = true ∧ run.fault.isSet .overtemp = false ∧ run.fault.record = none) ∧
    (FaultId.flowSilent.isA = false ∧ run.fault.isSet .flowSilent = false) ∧ classAState.fault.isSet .leak = true ∧
    ({ run.fault with record := captured .flowSilent }.record = captured .flowSilent ∧ FaultId.leak.code < FaultId.overtemp.code) ∧
    (let q : Qualified := { level := false, timer := some 5 }
     let s := { run with
       switches := { run.switches with leak := q, cutout := q }, pins := { run.pins with leak := true, cutout := true } }
     s.switches.leak.timer = some 5 ∧ s.pins.leak = true ∧ s.switches.cutout.timer = some 5 ∧ s.pins.cutout = true) := by
  decide +kernel

/-- A request of the panel that passes the checks at `s`. -/
theorem passes_of (s : State) (kind : Nat) (args : List Byte) (h : s.peerHeard 3) (k : (s.hears 3).firstFailure kind (req args) = none) :
    s.passes kind (req args) := ⟨h, rfl, k⟩

theorem peerHeard_three : run.peerHeard 3 := ⟨rfl, by decide, by decide, by decide⟩

theorem witness_RequestsPassTheirChecksInOrder :
    (State.reset.running = false ∧ State.reset.firstFailure 1 (req []) = some 10 ∧ run.firstFailure 0 (req []) = some 8 ∧
      run.firstFailure 17 (req []) = some 8 ∧ run.firstFailure 1 (req [0]) = some 7 ∧
      run.firstFailure 5 { req [] with src := 2 } = some 9 ∧ run.firstFailure 15 (req [0, 0, 0]) = some 4) ∧
    ([15, 13, 14, 1].map fun cond => run.firstFailure 2 { req [] with cond := cond }) = [some 7, none, some 3, some 3] ∧
    (Instr.dispenseStop (req [])).request = some (2, req []) ∧ run.peerHeard (req []).src := by
  refine ⟨?_, ?_, rfl, peerHeard_three⟩ <;> decide +kernel

theorem witness_WaterIceAndDefrostRequestsAct :
    let held := { dispensing with view := (heard [] [(8, 1)]).view }
    (run.passes 1 (req [0xD0, 7]) ∧ run.passes 2 (req []) ∧ run.passes 3 (req []) ∧ run.passes 4 (req []) ∧ run.passes 5 (req []) ∧
      run.passes 6 (req [0xE0, 1]) ∧ run.passes 7 (req [1, 0]) ∧ run.passes 7 (req [2, 0]) ∧ held.passes 1 (req [1, 0])) ∧
    (arg16 [0xD0, 7] 0 = 2000 ∧ arg16 [0xE0, 1] 0 = 480 ∧ ((heard [] [(8, 1)]).hears 3).sourceReady = true ∧
      ((heard [] [(9, 1)]).hears 3).paddleTest = true ∧ (run.hears 3).sourceReady = false ∧ (run.hears 3).holdsFor .aug = false) ∧
    (held.hears 3).water.path = .dispensing ∧
    ((held.hears 3).water.dispense.map fun p => (p.owner, p.counted)) = some (.panel, 1 * 256) := by
  intro held
  refine ⟨⟨?_, ?_, ?_, ?_, ?_, ?_, ?_, ?_, ?_⟩, ?_⟩
  on_goal 10 => decide +kernel
  all_goals exact passes_of _ _ _ ⟨rfl, by decide, by decide, by decide⟩ (by decide +kernel)

theorem witness_ModeFaultAndWatchRequestsAct :
    (run.passes 8 (req [3]) ∧ run.passes 8 (req [4]) ∧ run.passes 9 (req [255]) ∧ run.passes 9 (req [1]) ∧ run.passes 10 (req [15]) ∧
      run.passes 10 (req [254]) ∧ run.passes 11 (req [15, 2])) ∧
    ((classAState.hears 3).fault.isSet .leak = true ∧ (classAState.hears 3).conditionHolds .leak = false ∧
      (classAState.hears 3).fault.aFlags.toNat < 8) ∧
    (let s := { classAState with switches := { run.switches with leak := { level := true, timer := none } } }
     (s.hears 3).conditionHolds .leak = true) ∧
    ((flagged run .runaway).hears 3).fault.isSet .runaway = true ∧
    (let s := fun cfg => watching cfg { WatchPoint.blank with computed := .latched, condition := .isTrue } 11
     ((s plainPoint).hears 3).watch[(15 : Fin 16)].computed = .latched ∧ ((s plainPoint).hears 3).watch[(15 : Fin 16)].condition = .isTrue ∧
     ((s plainPoint).hears 3).pointHolds 15 = false ∧
     ((s { plainPoint with source := some (.peer 4 4) }).hears 3).pointHolds 15 = true ∧
     (∀ k : Fin 16, ((s plainPoint).hears 3).image.watch[k].source ≠ some (.own .watchStates) ∧
       ((s plainPoint).hears 3).image.watch[k].source ≠ some (.own .conditionFlags) ∧
       ((s plainPoint).hears 3).image.watch[k].reference = none)) := by
  refine ⟨⟨?_, ?_, ?_, ?_, ?_, ?_, ?_⟩, ?_⟩
  on_goal 8 => decide +kernel
  all_goals exact passes_of _ _ _ peerHeard_three (by decide +kernel)

theorem witness_ReadingPublishingAndServiceRequestsAct :
    (run.passes 12 (req [0, 0x22]) ∧ run.passes 12 (req [14, 0xFF]) ∧ run.passes 12 (req [14, 0xFD]) ∧ run.passes 12 (req [15, 0]) ∧
      run.passes 13 (req []) ∧ run.passes 14 (req [14]) ∧ run.passes 14 (req [15]) ∧ run.passes 16 (req []) ∧
      service.passes 15 (req [11, 4, 5])) ∧
    (testValueOf 4 5 = some (.follow 5) ∧ testValueOf 4 6 = none ∧ isKnownTag 0xFD = false) ∧
    ((service.hears 3).valveTestFails .lmp (.follow 5) = false ∧ ((switchedOn service .dv).hears 3).valveTestFails .fva .on = true) ∧
    (run.hears 3).line.waiting TxFrame.isStatus = false ∧ (run.hears 3).line.full = false ∧ ((full run).hears 3).line.full = true ∧
    (run.hears 3).start.restart ≠ .due ∧ (run.hears 3).record 3 ≠ none := by
  refine ⟨⟨?_, ?_, ?_, ?_, ?_, ?_, ?_, ?_, ?_⟩, ?_⟩
  on_goal 10 => decide +kernel
  all_goals exact passes_of _ _ _ ⟨rfl, by decide, by decide, by decide⟩ (by decide +kernel)

end Sys2Proof.Tests
end

