-- ==== Sys2Proof/Proofs/FrostAccounting.lean ====
section
/-! PROOF. The frost account at the end of a defrost (R93 to R96), and a write of F before and after it (R97). -/

namespace Sys2Proof.Machine

/-! ### Adaptation of T (R94) -/

/-- A clamped value is within the clamp already. -/
theorem clampNat_idem (lo hi x : Nat) : clampNat lo hi (clampNat lo hi x) = clampNat lo hi x := by
  unfold clampNat; omega

theorem clampNat_eq_self {lo hi x : Nat} (h : lo ≤ x) (k : x ≤ hi) : clampNat lo hi x = x := by
  unfold clampNat; omega

theorem clampNat_mono {lo hi x y : Nat} (h : x ≤ y) : clampNat lo hi x ≤ clampNat lo hi y :=
  max_le_max_left lo (min_le_min_left hi h)

/-- 900 equivalent seconds, 1800 half-seconds, leave a T in its range as it was. -/
theorem adaptedT_of_predicted {t : Nat} (low : 1200 ≤ t) (high : t ≤ 12000) : adaptedT t 1800 = t := by
  have t1 : t * 1800 / max 1800 120 = t := Nat.mul_div_cancel t (by decide)
  have t2 : clampNat (3 * t / 4) (5 * t / 4) t = t := clampNat_eq_self (by omega) (by omega)
  rw [adaptedT, t1, t2]
  exact clampNat_eq_self low high

/-- The longer the defrost heated, the lower the adapted T. -/
theorem adaptedT_antitone (t : Nat) {q q' : Nat} (h : q ≤ q') : adaptedT t q' ≤ adaptedT t q := by
  have t1 : t * 1800 / max q' 120 ≤ t * 1800 / max q 120 :=
    Nat.div_le_div_left (max_le_max_right 120 h) (by omega)
  exact clampNat_mono (clampNat_mono t1)

/-! ### What a class B raise does (R170) -/

theorem FaultId.bit_lt (f : FaultId) : f.bit < 16 := by cases f <;> decide

/-- A flag put on is set. -/
theorem FaultUnit.isSet_put_self (u : FaultUnit) (f : FaultId) : (u.put f true).isSet f = true := by
  have bitSet : (BitVec.ofNat 16 (2 ^ f.bit)).getLsbD f.bit = true := by
    rw [BitVec.getLsbD_ofNat, Nat.testBit_two_pow_self, decide_eq_true f.bit_lt]; rfl
  by_cases h : f.isA = true <;>
    simp only [FaultUnit.put, FaultUnit.isSet, h, if_true, if_false, Bool.false_eq_true, BitVec.getLsbD_or, bitSet, Bool.or_true]

variable (s : State)

@[simp] theorem State.capture_frost (f : FaultId) : (s.capture f).frost = s.frost := by
  unfold State.capture; split <;> rfl

@[simp] theorem State.setFlag_frost (f : FaultId) : (s.setFlag f).frost = s.frost := by
  simp [State.setFlag, State.writeFlags, State.writeEvent]

theorem State.setFlag_isSet (f : FaultId) : (s.setFlag f).fault.isSet f = true := by
  simp [State.setFlag, State.writeFlags, State.writeEvent, FaultUnit.isSet_put_self]

@[simp] theorem State.raiseB_frost (f : FaultId) : (s.raiseB f).frost = s.frost := by
  unfold State.raiseB
  split
  · exact State.write_frost ..
  · exact s.setFlag_frost f

/-- After a raise, new or repeated, the flag is set. -/
theorem State.raiseB_isSet (f : FaultId) : (s.raiseB f).fault.isSet f = true := by
  unfold State.raiseB
  split
  case isTrue already => rwa [State.writeEvent, State.write_fault]
  case isFalse => exact s.setFlag_isSet f

/-! ### The setters of F, T and the hours (R82, R88) -/

@[simp] theorem State.setF_frost (f : Nat) : (s.setF f).frost = { s.frost with f := min 65535 f } := by
  simp [State.setF]

@[simp] theorem State.setT_frost (t : Nat) : (s.setT t).frost = { s.frost with t := clampNat 1200 12000 t } := by
  simp [State.setT, Config.thresholdLow, Config.thresholdHigh]

@[simp] theorem State.setHours_frost (h : Nat) : (s.setHours h).frost = { s.frost with hours := min 65535 h } := by
  simp [State.setHours]

@[simp] theorem State.setF_now (f : Nat) : (s.setF f).now = s.now := by simp [State.setF]
@[simp] theorem State.setT_now (t : Nat) : (s.setT t).now = s.now := by simp [State.setT]
@[simp] theorem State.setHours_now (h : Nat) : (s.setHours h).now = s.now := by simp [State.setHours]

/-! ### A completed defrost (R93) -/

/-- The whole frost record after a COMPLETE, OVERTIME or TIMED report. -/
theorem State.frostCompleted_frost (rep : EndReport) (tEq2 : Nat) :
    (s.frostCompleted rep tEq2).frost =
      { s.frost with
        f := 0, t := clampNat 1200 12000 (reportedT rep s.frost.t tEq2), hours := 0
        hourTimer := some (s.now + 3600000000), gap := .minGap, retryTimer := none } := by
  cases rep <;> simp [State.frostCompleted, State.timer, Config.hour, Config.sec]

/-- An OVERTIME report raises DEFROST_OVERTIME (R95). -/
theorem State.frostCompleted_overtime_isSet (tEq2 : Nat) :
    (s.frostCompleted .overtime tEq2).fault.isSet .defrostOvertime = true :=
  State.raiseB_isSet _ _

/-- T after a COMPLETE report is the adapted T, within its range already. -/
theorem State.frostCompleted_complete_t (tEq2 : Nat) :
    (s.frostCompleted .complete tEq2).frost.t = adaptedT s.frost.t tEq2 := by
  rw [s.frostCompleted_frost]
  exact clampNat_idem ..

/-- A TIMED report leaves a T in its range as it was (R96). -/
theorem State.frostCompleted_timed_t (tEq2 : Nat) (low : 1200 ≤ s.frost.t) (high : s.frost.t ≤ 12000) :
    (s.frostCompleted .timed tEq2).frost.t = s.frost.t := by
  rw [s.frostCompleted_frost]
  exact clampNat_eq_self low high

/-- An OVERTIME report lowers T by a quarter, not below 1200 (R95). -/
theorem State.frostCompleted_overtime_t (tEq2 : Nat) (high : s.frost.t ≤ 12000) :
    (s.frostCompleted .overtime tEq2).frost.t = max 1200 (3 * s.frost.t / 4) := by
  rw [s.frostCompleted_frost]
  exact clampNat_eq_self (le_max_left ..) (max_le (by decide) (by omega))

/-! ### A demand leaves the frost account as it was (R100 to R104) -/

@[simp] theorem State.offerOwnRequest_frost (kind : Nat) (args : List Byte) :
    (s.offerOwnRequest kind args).frost = s.frost := State.offer_frost ..

@[simp] theorem State.fan_frost : s.fan.frost = s.frost := by
  unfold State.fan; split <;> exact State.command_frost ..

@[simp] theorem State.setDefrost_frost (d : DefrostState) : (s.setDefrost d).frost = s.frost := by
  unfold State.setDefrost; dsimp only; split <;> simp

@[simp] theorem State.enterPumpDown_frost (hold : HoldState) : (s.enterPumpDown hold).frost = s.frost :=
  State.setDefrost_frost ..

@[simp] theorem State.holdCheck_frost : s.holdCheck.frost = s.frost := by
  unfold State.holdCheck; repeat' split
  all_goals simp

@[simp] theorem State.beginHold_frost : s.beginHold.frost = s.frost := by
  unfold State.beginHold; dsimp only; split <;> simp [State.offerHold]

@[simp] theorem State.leaveTest_frost : s.leaveTest.frost = s.frost := by
  unfold State.leaveTest
  split
  · exact s.beginHold_frost
  · rfl

@[simp] theorem State.demand_frost : s.demand.frost = s.frost := by
  unfold State.demand; split <;> simp

@[simp] theorem State.demandIf_frost (c : Bool) : (s.demandIf c).frost = s.frost := by
  unfold State.demandIf; split <;> simp

/-- WRITE_FROST_INDEX changes F alone in the frost account, whether or not a demand follows (R97). -/
theorem State.writeFrostIndex_frost (v : Nat) : (s.writeFrostIndex v).frost = { s.frost with f := min 65535 v } := by
  simp [State.writeFrostIndex]

/-- Settles O42: each clause is read off the frost record after the report; the adapted T falls as t_eq2 grows and is T itself at t_eq2 1800. -/
theorem completedDefrostAdaptsTheThreshold : Obligations.CompletedDefrostAdaptsTheThreshold := by
  refine ⟨fun rep tEq2 s => ?_, fun _ => rfl⟩
  have record := s.frostCompleted_frost rep tEq2
  refine ⟨congrArg Frost.f record, congrArg Frost.hours record, congrArg Frost.hourTimer record, congrArg Frost.gap record,
    congrArg Frost.retryTimer record, ?complete, ?timedOrOvertime, ?overtimeFault, ?write⟩
  case complete =>
    rintro rfl
    rw [s.frostCompleted_complete_t]
    refine ⟨rfl, fun low high => ?_⟩
    have predicted := adaptedT_of_predicted low high
    exact ⟨fun h => h ▸ predicted, fun h => predicted.ge.trans (adaptedT_antitone _ h),
      fun h => (adaptedT_antitone _ h).trans predicted.le⟩
  case timedOrOvertime =>
    intro low high
    exact ⟨fun timed => timed ▸ s.frostCompleted_timed_t tEq2 low high,
      fun overtime => overtime ▸ s.frostCompleted_overtime_t tEq2 high⟩
  case overtimeFault =>
    rintro rfl
    exact s.frostCompleted_overtime_isSet tEq2
  case write =>
    intro v bound
    constructor
    · exact congrArg Frost.f (State.frostCompleted_frost ..)
    · rw [State.writeFrostIndex_frost]
      exact min_eq_right bound

end Sys2Proof.Machine
end

