-- ==== Sys2Proof/Proofs/WaterPath.lean ====
section
/-! PROOF. The relaxation step of the reservoir estimate (R136). -/

namespace Sys2Proof.Machine

/-! ### The change of T_res (R136) -/

/-- Towards zero, a 32nd of a gap has the gap's sign and is no greater than it. -/
theorem truncDiv_of_gap {gap : Int} (h : 0 ≤ gap) : 0 ≤ truncDiv gap 32 ∧ truncDiv gap 32 ≤ gap :=
  ⟨Int.tdiv_nonneg h (by decide), Int.tdiv_le_self 32 h⟩

/-- A warming step and a cooling step mirror each other. -/
theorem relaxed_neg (tRes tFr : Int) : relaxed (-tRes) (-tFr) = -relaxed tRes tFr := by
  have mirrored : truncDiv (-tFr - -tRes) 32 = -truncDiv (tFr - tRes) 32 := by
    rw [show -tFr - -tRes = -(tFr - tRes) by omega]
    exact Int.neg_tdiv ..
  unfold relaxed
  rw [mirrored]
  dsimp only
  repeat' split
  all_goals omega

/-- A reservoir no warmer than the fridge warms, and not past it. -/
theorem relaxed_warms {tRes tFr : Int} (h : tRes ≤ tFr) : tRes ≤ relaxed tRes tFr ∧ relaxed tRes tFr ≤ tFr := by
  obtain ⟨nonneg, within⟩ := truncDiv_of_gap (Int.sub_nonneg_of_le h)
  unfold relaxed
  dsimp only
  repeat' split
  all_goals omega

/-- A reservoir no colder than the fridge cools, and not past it. -/
theorem relaxed_cools {tRes tFr : Int} (h : tFr ≤ tRes) : tFr ≤ relaxed tRes tFr ∧ relaxed tRes tFr ≤ tRes := by
  obtain ⟨upper, lower⟩ := relaxed_warms (Int.neg_le_neg h)
  rw [relaxed_neg] at upper lower
  exact ⟨Int.neg_le_neg_iff.mp lower, Int.neg_le_neg_iff.mp upper⟩

/-- A range that holds T_res and T_fr holds the relaxed T_res. -/
theorem relaxed_mem_range {lo hi tRes tFr : Int} (loRes : lo ≤ tRes) (resHi : tRes ≤ hi) (loFr : lo ≤ tFr) (frHi : tFr ≤ hi) :
    lo ≤ relaxed tRes tFr ∧ relaxed tRes tFr ≤ hi := by
  rcases Int.le_total tRes tFr with colder | warmer
  · obtain ⟨above, below⟩ := relaxed_warms colder
    exact ⟨loRes.trans above, below.trans frHi⟩
  · obtain ⟨above, below⟩ := relaxed_cools warmer
    exact ⟨loFr.trans above, below.trans resHi⟩

/-! ### T_fr and the expiry (R136) -/

/-- T_fr lies within 0 to 150, the substitute 40 too. -/
theorem State.fridgeTemp_range (s : State) : 0 ≤ s.fridgeTemp ∧ s.fridgeTemp ≤ 150 := by
  unfold State.fridgeTemp clampInt
  split <;> omega

/-- The expiry restarts the timer from its moment and writes the relaxed T_res; the clock plays no part in T_fr. -/
theorem relaxationExpiry_does {d : Nat} {s : State} (running : s.water.relaxation = some d) :
    Does .relaxationExpiry s
      (State.write
        { s.atMoment d with water :=
          { s.water with relaxation := some (max s.now d + 60000000), tRes := relaxed s.water.tRes s.fridgeTemp } }
        .reservoirEst (relaxed s.water.tRes s.fridgeTemp)) := by
  have acts : onExpiry s.water.relaxation State.relax s = (s.atMoment d).relax := by rw [running, onExpiry_some]
  exact congrArg State.done acts

/-- Settles O53: the statement spells `relaxed` and `State.fridgeTemp` out; the relaxed T_res lies between T_res and T_fr, and T_fr lies within 0 to the least T_in. -/
theorem relaxationMovesTheReservoirTowardsTheFridge : Obligations.RelaxationMovesTheReservoirTowardsTheFridge := by
  intro d s running nonneg atMostIn leastIn
  obtain ⟨frNonneg, frAtMost⟩ := s.fridgeTemp_range
  exact ⟨relaxationExpiry_does running, relaxed_warms, relaxed_cools,
    relaxed_mem_range nonneg atMostIn frNonneg (frAtMost.trans leastIn)⟩

end Sys2Proof.Machine
end

/-! PROOF. What every operation of the part may touch: the facets of State, and for each operation the facets that it may not keep.

Most lemmas below have an inclusion of two explicit lists of facets as a last argument, which `decide` finds. Its default is written
`autoParam (P ⊆ Q) Rat.normalize._auto_1`: the same as `P ⊆ Q := by decide`, with the library's constant for `by decide`.
A constant of this text's own would make every use of the lemma wait for the kernel to have checked all that stands before it. -/

section
namespace Sys2Proof.Machine

/-- What an operation may keep of a state: a part of it as it was (most facets), or a property that held before (the last five). -/
inductive Facet where
  | now | pins | start | restart | image | rawImage | view | sensors | switches | watch | mode | agenda | pending
  | wire | queue | offers | clearing
  | grants | claims | flight | tagCounter | suspended | reclaim | shedDelay | dhClass
  | own (t : OwnTag) | changed
  | frostF | frostT | hours | gap | hourTimer | minute | harvests
  | defrost
  | meter | reservoir | closed | relaxation | path | fills | dispense
  | mold (m : Mold) | auger
  | job (o : Output) | tests | outputs
  | fault
  | flag (f : FaultId) | safe | range | budget | bounded
deriving DecidableEq

/-- The start-up block is as it was but for the progress of a RESTART. -/
def StartKept (s t : State) : Prop := t.start = { s.start with restart := t.start.restart }

/-- The line interface is as it was but for what an offered frame may touch. -/
def WireKept (s t : State) : Prop :=
  t.line = { s.line with
    queue := t.line.queue, orderCount := t.line.orderCount, period := t.line.period, rotation := t.line.rotation
    statusOwed := t.line.statusOwed, clearing := t.line.clearing }

theorem StartKept.trans {s t u : State} (h : StartKept s t) (k : StartKept t u) : StartKept s u := by
  unfold StartKept at *; rw [k, h]

theorem WireKept.trans {s t u : State} (h : WireKept s t) (k : WireKept t u) : WireKept s u := by
  unfold WireKept at *; rw [k, h]

/-- The facet is kept from one state to another. -/
def Facet.kept : Facet → State → State → Prop
  | .now, s, t => t.now = s.now
  | .pins, s, t => t.pins = s.pins
  | .start, s, t => StartKept s t
  | .restart, s, t => t.start.restart = s.start.restart
  | .image, s, t => t.image = s.image
  | .rawImage, s, t => t.rawImage = s.rawImage
  | .view, s, t => t.view = s.view
  | .sensors, s, t => t.sensors = s.sensors
  | .switches, s, t => t.switches = s.switches
  | .watch, s, t => t.watch = s.watch
  | .mode, s, t => t.mode = s.mode
  | .agenda, s, t => t.agenda = s.agenda
  | .pending, s, t => t.pending = s.pending
  | .wire, s, t => WireKept s t
  | .queue, s, t => t.line.queue = s.line.queue
  | .offers, s, t => t.line.orderCount = s.line.orderCount ∧ t.line.period = s.line.period ∧
      t.line.rotation = s.line.rotation ∧ t.line.statusOwed = s.line.statusOwed
  | .clearing, s, t => t.line.clearing = s.line.clearing
  | .grants, s, t => t.share.grants = s.share.grants
  | .claims, s, t => t.share.queue = s.share.queue
  | .flight, s, t => t.share.flight = s.share.flight
  | .tagCounter, s, t => t.share.tagCounter = s.share.tagCounter
  | .suspended, s, t => t.share.suspended = s.share.suspended
  | .reclaim, s, t => t.share.reclaim = s.share.reclaim
  | .shedDelay, s, t => t.share.shedDelay = s.share.shedDelay
  | .dhClass, s, t => t.share.dhClass = s.share.dhClass ∧ t.share.dhRefusals = s.share.dhRefusals
  | .own u, s, t => t.own u = s.own u
  | .changed, s, t => t.store.changed = s.store.changed
  | .frostF, s, t => t.frost.f = s.frost.f
  | .frostT, s, t => t.frost.t = s.frost.t
  | .hours, s, t => t.frost.hours = s.frost.hours
  | .gap, s, t => t.frost.gap = s.frost.gap ∧ t.frost.retryTimer = s.frost.retryTimer
  | .hourTimer, s, t => t.frost.hourTimer = s.frost.hourTimer
  | .minute, s, t => t.frost.secondTimer = s.frost.secondTimer ∧ t.frost.seconds = s.frost.seconds ∧ t.frost.r = s.frost.r ∧
      t.frost.dz = s.frost.dz ∧ t.frost.dr = s.frost.dr ∧ t.frost.freezerMark = s.frost.freezerMark ∧
      t.frost.fridgeMark = s.frost.fridgeMark
  | .harvests, s, t => t.frost.h = s.frost.h
  | .defrost, s, t => t.defrost = s.defrost
  | .meter, s, t => t.water.rate = s.water.rate ∧ t.water.pulses = s.water.pulses ∧ t.water.openedAt = s.water.openedAt ∧
      t.water.silence = s.water.silence ∧ t.water.estimate = s.water.estimate ∧ t.water.allClosed = s.water.allClosed ∧
      t.water.armed = s.water.armed
  | .reservoir, s, t => t.water.draw = s.water.draw ∧ t.water.tRes = s.water.tRes
  | .closed, s, t => t.water.estimated = s.water.estimated ∧ t.water.closedVolume = s.water.closedVolume ∧
      t.water.runawayHold = s.water.runawayHold
  | .relaxation, s, t => t.water.relaxation = s.water.relaxation
  | .path, s, t => t.water.path = s.water.path
  | .fills, s, t => t.water.queue = s.water.queue ∧ t.water.current = s.water.current ∧ t.water.held = s.water.held ∧
      t.water.fillLimit = s.water.fillLimit
  | .dispense, s, t => t.water.dispense = s.water.dispense ∧ t.water.lineHold = s.water.lineHold ∧
      t.water.dispenseLimit = s.water.dispenseLimit ∧ t.water.settling = s.water.settling
  | .mold m, s, t => t.mold m = s.mold m
  | .auger, s, t => t.ice.auger = s.ice.auger ∧ t.ice.runTimer = s.ice.runTimer
  | .job o, s, t => (t.channel o).job = (s.channel o).job
  | .tests, s, t => ∀ o, (t.channel o).test = (s.channel o).test
  | .outputs, s, t => t.out = s.out
  | .fault, s, t => t.fault = s.fault
  | .flag f, s, t => s.fault.isSet f = true → t.fault.isSet f = true
  | .safe, s, t => s.outputsSafe → t.outputsSafe
  | .range, s, t => s.frostInRange → t.frostInRange
  | .budget, s, t => s.withinBudget → t.withinBudget
  | .bounded, s, t => s.queueBounded → t.queueBounded

/-- Every facet but those listed is kept from `s` to `t`. -/
def Touches (P : List Facet) (s t : State) : Prop := ∀ x, x ∉ P → x.kept s t

theorem Facet.kept_refl (x : Facet) (s : State) : x.kept s s := by
  cases x <;> simp [Facet.kept, StartKept, WireKept]

theorem Facet.kept_trans (x : Facet) {s t u : State} (h : x.kept s t) (k : x.kept t u) : x.kept s u := by
  cases x
  case start => exact StartKept.trans h k
  case wire => exact WireKept.trans h k
  case flag | safe | range | budget | bounded => exact fun held => k (h held)
  case tests => exact fun o => (k o).trans (h o)
  case offers | dhClass | gap | minute | meter | reservoir | closed | fills | dispense | auger =>
    simp only [Facet.kept] at h k ⊢; simp only [k, h, and_self]
  all_goals exact Eq.trans k h

theorem Touches.refl (P : List Facet) (s : State) : Touches P s s := fun x _ => x.kept_refl s

theorem Touches.trans {P : List Facet} {s t u : State} (h : Touches P s t) (k : Touches P t u) : Touches P s u :=
  fun x hx => x.kept_trans (h x hx) (k x hx)

theorem Touches.mono {P Q : List Facet} {s t : State} (h : Touches P s t) (sub : autoParam (P ⊆ Q) Rat.normalize._auto_1) : Touches Q s t :=
  fun x hx => h x fun k => hx (sub k)

theorem Touches.foldl {P : List Facet} {α : Type} {f : State → α → State} (keep : ∀ s a, Touches P s (f s a)) (l : List α) (s : State) :
    Touches P s (l.foldl f s) := foldl_keeps (Touches.refl P) Touches.trans keep l s

end Sys2Proof.Machine
end

section
/-! ### Single updates of State -/

namespace Sys2Proof.Machine
section
variable {R : List Facet} (s : State)

theorem Touches.now (n : Nat) (h : autoParam (.now ∈ R) Rat.normalize._auto_1) :
    Touches R s { s with now := n } := by
  intro x hx; have same := x.kept_refl s; cases x
  case now => exact absurd h hx
  all_goals exact same

theorem Touches.pins (p : Pins) (h : autoParam (.pins ∈ R) Rat.normalize._auto_1) :
    Touches R s { s with pins := p } := by
  intro x hx; have same := x.kept_refl s; cases x
  case pins => exact absurd h hx
  all_goals exact same

theorem Touches.view (v : Vector (Option StationRecord) 16) (h : autoParam (.view ∈ R) Rat.normalize._auto_1) :
    Touches R s { s with view := v } := by
  intro x hx; have same := x.kept_refl s; cases x
  case view => exact absurd h hx
  all_goals exact same

theorem Touches.sensors (c : PerChannel ChannelRecord) (h : autoParam (.sensors ∈ R) Rat.normalize._auto_1) :
    Touches R s { s with sensors := c } := by
  intro x hx; have same := x.kept_refl s; cases x
  case sensors => exact absurd h hx
  all_goals exact same

theorem Touches.switches (q : Switches) (h : autoParam (.switches ∈ R) Rat.normalize._auto_1) :
    Touches R s { s with switches := q } := by
  intro x hx; have same := x.kept_refl s; cases x
  case switches => exact absurd h hx
  all_goals exact same

theorem Touches.mode (m : OpMode) (h : autoParam (.mode ∈ R) Rat.normalize._auto_1) :
    Touches R s { s with mode := m } := by
  intro x hx; have same := x.kept_refl s; cases x
  case mode => exact absurd h hx
  all_goals exact same

theorem Touches.agenda (a : List Signal) (h : autoParam (.agenda ∈ R) Rat.normalize._auto_1) :
    Touches R s { s with agenda := a } := by
  intro x hx; have same := x.kept_refl s; cases x
  case agenda => exact absurd h hx
  all_goals exact same

theorem Touches.watch (w : Vector WatchPoint 16) (h : autoParam (.watch ∈ R) Rat.normalize._auto_1) :
    Touches R s { s with watch := w } := by
  intro x hx; have same := x.kept_refl s; cases x
  case watch => exact absurd h hx
  all_goals exact same

theorem Touches.start (b : StartUp) (h : autoParam ([.start, .restart] ⊆ R) Rat.normalize._auto_1) :
    Touches R s { s with start := b } := by
  intro x hx; have same := x.kept_refl s; cases x
  case start | restart => exact absurd (h (by simp)) hx
  all_goals exact same

theorem Touches.restart (p : RestartPhase) (h : autoParam (.restart ∈ R) Rat.normalize._auto_1) :
    Touches R s { s with start := { s.start with restart := p } } := by
  intro x hx; have same := x.kept_refl s; cases x
  case restart => exact absurd h hx
  case start => exact rfl
  all_goals exact same

theorem Touches.defrost (d : Defrost) (h : autoParam (.defrost ∈ R) Rat.normalize._auto_1) :
    Touches R s { s with defrost := d } := by
  intro x hx; have same := x.kept_refl s; cases x
  case defrost => exact absurd h hx
  all_goals exact same

theorem Touches.claims (q : List ClaimEntry) (h : autoParam (.claims ∈ R) Rat.normalize._auto_1) :
    Touches R s { s with share := { s.share with queue := q } } := by
  intro x hx; have same := x.kept_refl s; cases x
  case claims => exact absurd h hx
  all_goals exact same

theorem Touches.flight (c : Option Claim) (h : autoParam (.flight ∈ R) Rat.normalize._auto_1) :
    Touches R s { s with share := { s.share with flight := c } } := by
  intro x hx; have same := x.kept_refl s; cases x
  case flight => exact absurd h hx
  all_goals exact same

theorem Touches.tagCounter (b : Byte) (h : autoParam (.tagCounter ∈ R) Rat.normalize._auto_1) :
    Touches R s { s with share := { s.share with tagCounter := b } } := by
  intro x hx; have same := x.kept_refl s; cases x
  case tagCounter => exact absurd h hx
  all_goals exact same

theorem Touches.suspended (l : List Suspension) (h : autoParam (.suspended ∈ R) Rat.normalize._auto_1) :
    Touches R s { s with share := { s.share with suspended := l } } := by
  intro x hx; have same := x.kept_refl s; cases x
  case suspended => exact absurd h hx
  all_goals exact same

theorem Touches.reclaim (d : Timer) (h : autoParam (.reclaim ∈ R) Rat.normalize._auto_1) :
    Touches R s { s with share := { s.share with reclaim := d } } := by
  intro x hx; have same := x.kept_refl s; cases x
  case reclaim => exact absurd h hx
  all_goals exact same

theorem Touches.shedDelay (d : Timer) (h : autoParam (.shedDelay ∈ R) Rat.normalize._auto_1) :
    Touches R s { s with share := { s.share with shedDelay := d } } := by
  intro x hx; have same := x.kept_refl s; cases x
  case shedDelay => exact absurd h hx
  all_goals exact same

theorem Touches.dhClass (c n : Nat) (h : autoParam (.dhClass ∈ R) Rat.normalize._auto_1) :
    Touches R s { s with share := { s.share with dhClass := c, dhRefusals := n } } := by
  intro x hx; have same := x.kept_refl s; cases x
  case dhClass => exact absurd h hx
  all_goals exact same

theorem Touches.gap (g : GapState) (d : Timer) (h : autoParam (.gap ∈ R) Rat.normalize._auto_1) :
    Touches R s { s with frost := { s.frost with gap := g, retryTimer := d } } := by
  intro x hx; have same := x.kept_refl s; cases x
  case gap => exact absurd h hx
  all_goals exact same

theorem Touches.hourTimer (d : Timer) (h : autoParam (.hourTimer ∈ R) Rat.normalize._auto_1) :
    Touches R s { s with frost := { s.frost with hourTimer := d } } := by
  intro x hx; have same := x.kept_refl s; cases x
  case hourTimer => exact absurd h hx
  all_goals exact same

theorem Touches.harvests (n : Nat) (h : autoParam (.harvests ∈ R) Rat.normalize._auto_1) :
    Touches R s { s with frost := { s.frost with h := n } } := by
  intro x hx; have same := x.kept_refl s; cases x
  case harvests => exact absurd h hx
  all_goals exact same

theorem Touches.minute (d : Timer) (n r dz dr : Nat) (a b : Bool) (h : autoParam (.minute ∈ R) Rat.normalize._auto_1) :
    Touches R s { s with
      frost := { s.frost with
        secondTimer := d, seconds := n, r := r, dz := dz, dr := dr, freezerMark := a, fridgeMark := b } } := by
  intro x hx; have same := x.kept_refl s; cases x
  case minute => exact absurd h hx
  all_goals exact same

theorem Touches.meter (rate : Nat) (pulses : List Nat) (at' : Nat) (silence estimate closed : Timer) (armed : Bool) (h : autoParam (.meter ∈ R) Rat.normalize._auto_1) :
    Touches R s { s with
      water := { s.water with
        rate := rate, pulses := pulses, openedAt := at', silence := silence, estimate := estimate
        allClosed := closed, armed := armed } } := by
  intro x hx; have same := x.kept_refl s; cases x
  case meter => exact absurd h hx
  all_goals exact same

theorem Touches.reservoir (draw : Nat) (tRes : Int) (h : autoParam (.reservoir ∈ R) Rat.normalize._auto_1) :
    Touches R s { s with water := { s.water with draw := draw, tRes := tRes } } := by
  intro x hx; have same := x.kept_refl s; cases x
  case reservoir => exact absurd h hx
  all_goals exact same

theorem Touches.closed (e : Bool) (v : Nat) (d : Timer) (h : autoParam (.closed ∈ R) Rat.normalize._auto_1) :
    Touches R s { s with water := { s.water with estimated := e, closedVolume := v, runawayHold := d } } := by
  intro x hx; have same := x.kept_refl s; cases x
  case closed => exact absurd h hx
  all_goals exact same

theorem Touches.relaxation (d : Timer) (h : autoParam (.relaxation ∈ R) Rat.normalize._auto_1) :
    Touches R s { s with water := { s.water with relaxation := d } } := by
  intro x hx; have same := x.kept_refl s; cases x
  case relaxation => exact absurd h hx
  all_goals exact same

theorem Touches.path (p : PathState) (h : autoParam (.path ∈ R) Rat.normalize._auto_1) :
    Touches R s { s with water := { s.water with path := p } } := by
  intro x hx; have same := x.kept_refl s; cases x
  case path => exact absurd h hx
  all_goals exact same

theorem Touches.fills (q : List Fill) (current held : Option Fill) (d : Timer) (h : autoParam (.fills ∈ R) Rat.normalize._auto_1) :
    Touches R s { s with water := { s.water with queue := q, current := current, held := held, fillLimit := d } } := by
  intro x hx; have same := x.kept_refl s; cases x
  case fills => exact absurd h hx
  all_goals exact same

theorem Touches.dispense (p : Option Dispense) (hold : Bool) (limit settling : Timer) (h : autoParam (.dispense ∈ R) Rat.normalize._auto_1) :
    Touches R s { s with water := { s.water with dispense := p, lineHold := hold, dispenseLimit := limit, settling := settling } } := by
  intro x hx; have same := x.kept_refl s; cases x
  case dispense => exact absurd h hx
  all_goals exact same

theorem Touches.auger (a : AugerState) (d : Timer) (h : autoParam (.auger ∈ R) Rat.normalize._auto_1) :
    Touches R s { s with ice := { s.ice with auger := a, runTimer := d } } := by
  intro x hx; have same := x.kept_refl s; cases x
  case auger => exact absurd h hx
  case mold m => cases m <;> exact same
  all_goals exact same

theorem Touches.offers (n : Stamp) (d : Timer) (r : Option OwnTag) (o : Bool) (h : autoParam (.offers ∈ R) Rat.normalize._auto_1) :
    Touches R s { s with line := { s.line with orderCount := n, period := d, rotation := r, statusOwed := o } } := by
  intro x hx; have same := x.kept_refl s; cases x
  case offers => exact absurd h hx
  case wire => exact rfl
  all_goals exact same

theorem Touches.clearing (l : List OwnTag) (h : autoParam (.clearing ∈ R) Rat.normalize._auto_1) :
    Touches R s { s with line := { s.line with clearing := l } } := by
  intro x hx; have same := x.kept_refl s; cases x
  case clearing => exact absurd h hx
  case wire => exact rfl
  all_goals exact same

theorem Touches.changed (v : Vector Bool 19) (h : autoParam (.changed ∈ R) Rat.normalize._auto_1) :
    Touches R s { s with store := { s.store with changed := v } } := by
  intro x hx; have same := x.kept_refl s; cases x
  case changed => exact absurd h hx
  all_goals exact same

end
end Sys2Proof.Machine
end

section
/-! ### Updates that keep an invariant under a condition -/

namespace Sys2Proof.Machine
section
variable {R : List Facet} (s : State)

@[simp] theorem PerMold.get_set_self {α : Type} (p : PerMold α) (m : Mold) (x : α) : (p.set m x).get m = x := by
  cases m <;> rfl

theorem PerMold.get_set_ne {α : Type} (p : PerMold α) {m n : Mold} (x : α) (h : n ≠ m) : (p.set m x).get n = p.get n := by
  cases m <;> cases n <;> first | rfl | exact absurd rfl h

theorem Touches.mold (m : Mold) (r : MoldRecord) (h : autoParam (.mold m ∈ R) Rat.normalize._auto_1) :
    Touches R s { s with ice := { s.ice with molds := s.ice.molds.set m r } } := by
  intro x hx; have same := x.kept_refl s; cases x
  case mold n => exact PerMold.get_set_ne _ _ fun e => hx (e ▸ h)
  case auger => cases m <;> exact same
  all_goals exact same

theorem Touches.queue (q : List TxFrame) (bound : s.queueBounded → q.length ≤ Config.queueCapacity) (h : autoParam (.queue ∈ R) Rat.normalize._auto_1) :
    Touches R s { s with line := { s.line with queue := q } } := by
  intro x hx; have same := x.kept_refl s; cases x
  case queue => exact absurd h hx
  case bounded => exact bound
  case wire => exact rfl
  all_goals exact same

/-- Any change of the line interface that does not lengthen the transmit queue. -/
theorem Touches.line (l : Line) (bound : l.queue.length ≤ s.line.queue.length)
    (h : autoParam ([.wire, .queue, .offers, .clearing] ⊆ R) Rat.normalize._auto_1) : Touches R s { s with line := l } := by
  intro x hx; have same := x.kept_refl s; cases x
  case wire | queue | offers | clearing => exact absurd (h (by simp)) hx
  case bounded => exact bound.trans
  all_goals exact same

/-- Any change of the line interface but for what an offered frame may touch. -/
theorem Touches.wire (l : Line)
    (same : autoParam (l.queue = s.line.queue ∧ l.orderCount = s.line.orderCount ∧ l.period = s.line.period ∧
      l.rotation = s.line.rotation ∧ l.statusOwed = s.line.statusOwed ∧ l.clearing = s.line.clearing) List.nodup_range'._auto_1)
    (h : autoParam (.wire ∈ R) Rat.normalize._auto_1) : Touches R s { s with line := l } := by
  obtain ⟨queue, count, period, rotation, owed, clearing⟩ := same
  intro x hx; have same := x.kept_refl s; cases x
  case wire => exact absurd h hx
  case queue => exact queue
  case offers => exact ⟨count, period, rotation, owed⟩
  case clearing => exact clearing
  case bounded => intro held; rw [State.queueBounded, queue]; exact held
  all_goals exact same

theorem Touches.grants (l : List Grant) (bound : s.withinBudget → sumAmps (l.map Grant.amps) ≤ s.image.budget)
    (h : autoParam (.grants ∈ R) Rat.normalize._auto_1) : Touches R s { s with share := { s.share with grants := l } } := by
  intro x hx; have same := x.kept_refl s; cases x
  case grants => exact absurd h hx
  case budget => exact fun held => ⟨bound held, held.2⟩
  all_goals exact same

theorem Touches.frostF (f : Nat) (bound : f ≤ 65535) (h : autoParam (.frostF ∈ R) Rat.normalize._auto_1) :
    Touches R s { s with frost := { s.frost with f := f } } := by
  intro x hx; have same := x.kept_refl s; cases x
  case frostF => exact absurd h hx
  case range => exact fun ⟨_, rest⟩ => ⟨bound, rest⟩
  all_goals exact same

theorem Touches.frostT (t : Nat) (low : Config.thresholdLow ≤ t) (high : t ≤ Config.thresholdHigh) (h : autoParam (.frostT ∈ R) Rat.normalize._auto_1) :
    Touches R s { s with frost := { s.frost with t := t } } := by
  intro x hx; have same := x.kept_refl s; cases x
  case frostT => exact absurd h hx
  case range => exact fun ⟨f, _, _, rest⟩ => ⟨f, low, high, rest⟩
  all_goals exact same

theorem Touches.hours (n : Nat) (bound : n ≤ 65535) (h : autoParam (.hours ∈ R) Rat.normalize._auto_1) :
    Touches R s { s with frost := { s.frost with hours := n } } := by
  intro x hx; have same := x.kept_refl s; cases x
  case hours => exact absurd h hx
  case range => exact fun ⟨f, low, high, _, rest⟩ => ⟨f, low, high, bound, rest⟩
  all_goals exact same

/-- A change of the fault unit that leaves the flags. -/
theorem Touches.faultNotes (u : FaultUnit) (a : autoParam (u.aFlags = s.fault.aFlags) List.nodup_range'._auto_1)
    (b : autoParam (u.bFlags = s.fault.bFlags) List.nodup_range'._auto_1)
    (h : autoParam (.fault ∈ R) Rat.normalize._auto_1) : Touches R s { s with fault := u } := by
  have flags (f : FaultId) : u.isSet f = s.fault.isSet f := by simp only [FaultUnit.isSet, a, b]
  have classA : State.classA { s with fault := u } = s.classA := by simp only [State.classA, a]
  intro x hx; have same := x.kept_refl s; cases x
  case fault => exact absurd h hx
  case flag f => exact fun held => (flags f).trans held
  case safe =>
    rintro ⟨fan, valve, off⟩
    exact ⟨fan, valve, by rw [State.forcedOff, classA]; exact off⟩
  all_goals exact same

end

/-! ### The flags (R170) -/

theorem FaultId.eq_of_bit {f g : FaultId} (a : f.isA = g.isA) (b : f.bit = g.bit) : f = g := by
  cases f <;> cases g <;> simp_all [FaultId.isA, FaultId.bit]

/-- A flag after another has been set or cleared. -/
theorem FaultUnit.isSet_put (u : FaultUnit) (f g : FaultId) (on : Bool) :
    (u.put f on).isSet g = if g = f then on else u.isSet g := by
  have bitOf : (BitVec.ofNat 16 (2 ^ f.bit)).getLsbD g.bit = decide (f.bit = g.bit) := by
    rw [BitVec.getLsbD_ofNat, decide_eq_true g.bit_lt, Nat.testBit_two_pow, Bool.true_and]
  unfold FaultUnit.put FaultUnit.isSet
  generalize BitVec.ofNat 16 (2 ^ f.bit) = mask at bitOf
  by_cases e : g = f
  · subst e
    cases on <;> cases k : g.isA <;> simp [bitOf, g.bit_lt]
  · have apart : f.isA = g.isA → f.bit ≠ g.bit := fun a b => e (FaultId.eq_of_bit a b).symm
    cases on <;> cases k : f.isA <;> cases l : g.isA <;> simp_all [g.bit_lt]

/-! ### Words, writes and resolutions (R6, R165) -/

/-- What a report of WATCH_STATES or CONDITION_FLAGS may touch. -/
def wordFacets : List Facet := [.own .watchStates, .own .conditionFlags, .changed, .clearing, .watch, .agenda]

/-- What a write of an own tag may touch. -/
def writeFacets (t : OwnTag) : List Facet := .own t :: wordFacets

/-- What a resolution may touch, but for `safe`: it makes the outputs safe. -/
def resolveFacets : List Facet := [.outputs, .meter, .reservoir, .own .reservoirEst] ++ wordFacets

theorem unreported_iff (u : OwnTag) : u.unreported ↔ u ≠ .watchStates ∧ u ≠ .conditionFlags := by
  cases u <;> simp [OwnTag.unreported, OwnTag.idx]

theorem WriteOnly.touches {R : List Facet} {s t : State} (only : WriteOnly s t)
    (own : ∀ u, Facet.own u ∉ R → t.own u = s.own u)
    (h : autoParam ([.changed, .clearing, .watch, .agenda] ⊆ R) Rat.normalize._auto_1) : Touches R s t := by
  obtain ⟨store, clearing, watch, agenda, rfl⟩ : ∃ st cl w ag, t =
      { s with store := st, line := { s.line with clearing := cl }, watch := w, agenda := ag } := ⟨_, _, _, _, only⟩
  intro x hx; have same := x.kept_refl s; cases x
  case changed | clearing | watch | agenda => exact absurd (h (by simp)) hx
  case own u => exact own u hx
  case wire => exact rfl
  all_goals exact same

section
variable (s : State)

theorem State.reportWords_touches : Touches wordFacets s s.reportWords := by
  refine (State.reportWords_writeOnly s).touches fun u hu => State.own_reportWords s ((unreported_iff u).mpr ⟨?_, ?_⟩) <;>
    rintro rfl <;> exact absurd (by decide) hu

theorem State.notify_touches (src : Source) : Touches wordFacets s (s.notify src) := by
  refine (State.notify_writeOnly s src).touches fun u hu => State.own_notify s src ((unreported_iff u).mpr ⟨?_, ?_⟩) <;>
    rintro rfl <;> exact absurd (by decide) hu

theorem OwnTag.idx_inj {t u : OwnTag} (h : t.idx = u.idx) : t = u := by
  cases t <;> cases u <;> first | rfl | simp [OwnTag.idx] at h

theorem State.write_touches (t : OwnTag) (v : Int) : Touches (writeFacets t) s (s.write t v) := by
  refine (State.write_writeOnly s t v).touches (fun u hu => ?_) (List.Subset.trans (by decide) (List.subset_cons_self _ wordFacets))
  have apart : u ≠ t := by rintro rfl; exact hu (.head _)
  have unreported : u.unreported := by
    refine (unreported_iff u).mpr ⟨?_, ?_⟩ <;> rintro rfl <;> exact hu (List.mem_cons_of_mem _ (by decide))
  rw [State.own_write s t v unreported, if_neg fun e => apart (OwnTag.idx_inj e.symm)]

end

end Sys2Proof.Machine
end

section
/-! ### Resolutions and job commands (R165 to R167) -/

namespace Sys2Proof.Machine
section
variable (s : State)

theorem State.own_closedWatch (b : Bool) (u : OwnTag) : (s.closedWatch b).own u = s.own u := by
  unfold State.closedWatch; repeat' split
  all_goals rfl

theorem State.own_meterTimers (b : Option Output) (u : OwnTag) : (s.meterTimers b).own u = s.own u := by
  unfold State.meterTimers; dsimp only; repeat' split
  all_goals rfl

theorem State.own_mixRemainder {u : OwnTag} (h : u.unreported) (k : u ≠ .reservoirEst) : s.mixRemainder.own u = s.own u := by
  unfold State.mixRemainder; split
  · rfl
  · rw [State.mixStep, State.setTRes, State.own_write _ _ _ h, if_neg fun e => k (OwnTag.idx_inj e.symm)]
    rfl

/-- No part of what follows from a resolution writes another own quantity. -/
theorem State.own_afterResolve (t : State) (mixes wasOpen : Bool) (m : Option Output) (hot : State → Bool) (v : State)
    (hv : v = ((if mixes then t.mixRemainder else t).closedWatch wasOpen).meterTimers m)
    {u : OwnTag} (h : u.unreported) (k : u ≠ .reservoirEst) :
    (if hot v then { v with agenda := v.agenda ++ [.overtemp] } else v).own u = t.own u := by
  have quiet : v.own u = t.own u := by
    rw [hv, State.own_meterTimers, State.own_closedWatch]
    split
    · exact t.own_mixRemainder h k
    · rfl
  split <;> exact quiet

theorem State.own_resolveFrom (m : Option Output) {u : OwnTag} (h : u.unreported) (k : u ≠ .reservoirEst) :
    (s.resolveFrom m).own u = s.own u := by
  unfold State.resolveFrom
  dsimp only
  exact State.own_afterResolve { s with out := _ } _ _ m (fun t => heaters.any fun h => !s.isOn h && t.overtempOf h) _ rfl h k

/-! What a resolution makes of the outputs, from any state. -/

theorem State.layerResult_of_safetyOff {o : Output} (h : s.safetyOff o = true) : s.layerResult o = .off := by
  simp [State.layerResult, h]

/-- A resolved output is off where its layers say so. -/
theorem State.resolveOne_of_layer_off {o : Output} (h : s.layerResult o = .off) : s.resolveOne o = .off := by
  unfold State.resolveOne
  repeat' split
  all_goals simp_all

/-- A valve that the interlock does not open is off. -/
theorem State.resolveOne_valve {v : Output} (valve : v.isValve = true) (h : s.openValve ≠ some v) : s.resolveOne v = .off := by
  have notFan : v ≠ .ef := by rintro rfl; simp [Output.isValve] at valve
  simp [State.resolveOne, notFan, valve, h]

theorem State.isOn_resolveFrom (m : Option Output) (o : Output) : (s.resolveFrom m).isOn o = (s.resolveOne o != .off) := by
  rw [State.isOn, State.resolveFrom_resolved]

theorem State.resolveFrom_classA (m : Option Output) : (s.resolveFrom m).classA = s.classA := by
  simp [State.classA]

theorem State.resolveFrom_fanInterlock (m : Option Output) : (s.resolveFrom m).fanInterlock = true := by
  unfold State.fanInterlock
  rw [State.isOn_resolveFrom, State.isOn_resolveFrom]
  by_cases h : s.layerResult .dh = .off <;> simp [State.resolveOne, Output.isValve, h]

/-- At most one of two valves is open. -/
theorem State.resolveFrom_notBoth (m : Option Output) {v w : Output} (hv : v.isValve = true) (hw : w.isValve = true) (apart : v ≠ w) :
    ((s.resolveFrom m).isOn v && (s.resolveFrom m).isOn w) = false := by
  rw [State.isOn_resolveFrom, State.isOn_resolveFrom]
  by_cases h : s.openValve = some v
  · have : s.resolveOne w = .off := s.resolveOne_valve hw (by rw [h]; exact fun e => apart (Option.some.inj e))
    simp [this]
  · simp [s.resolveOne_valve hv h]

theorem State.resolveFrom_forcedOff (m : Option Output) : (s.resolveFrom m).forcedOff = true := by
  unfold State.forcedOff
  rw [State.resolveFrom_classA]
  by_cases h : s.classA = true
  · simp only [h, Bool.not_true, Bool.false_or, List.all_eq_true, Bool.or_eq_true, Bool.not_eq_true']
    intro o _
    by_cases k : o.hasSafety = true
    · right
      rw [State.isOn_resolveFrom, s.resolveOne_of_layer_off (s.layerResult_of_safetyOff (by simp [State.safetyOff, h, k]))]
      rfl
    · exact .inl (by simpa using k)
  · simp [h]

/-- From any state a resolution leads to safe outputs (R163, R166, R167). -/
theorem State.resolveFrom_safe (m : Option Output) : (s.resolveFrom m).outputsSafe := by
  refine ⟨s.resolveFrom_fanInterlock m, ?_, s.resolveFrom_forcedOff m⟩
  have notBoth {v w : Output} := s.resolveFrom_notBoth m (v := v) (w := w)
  simp [State.valveInterlock, notBoth (v := .fva) (w := .fvb) rfl rfl (by decide),
    notBoth (v := .fva) (w := .dv) rfl rfl (by decide), notBoth (v := .fvb) (w := .dv) rfl rfl (by decide)]

end

/-- A resolution may touch what `resolveFacets` lists, and heals a breach of the outputs that came before it. -/
theorem Touches.resolveFrom {R : List Facet} {s t : State} (before : Touches (.safe :: R) s t) (m : Option Output)
    (h : autoParam (resolveFacets ⊆ R) Rat.normalize._auto_1) : Touches R s (t.resolveFrom m) := by
  have resolved : Touches (.safe :: R) t (t.resolveFrom m) := by
    have only := t.resolveFrom_resolveOnly m
    have sub {x : Facet} (hx : x ∉ Facet.safe :: R) : x ∉ resolveFacets := fun k => hx (.tail _ (h k))
    obtain ⟨out, rate, pulses, at', silence, estimate, closed, armed, draw, tRes, store, clearing, watch, agenda, e⟩ :
        ∃ o a b c d f g i j k l n p q, t.resolveFrom m = { t with
          out := o
          water := { t.water with
            rate := a, pulses := b, openedAt := c, silence := d, estimate := f, allClosed := g, armed := i, draw := j, tRes := k }
          store := l, line := { t.line with clearing := n }, watch := p, agenda := q } :=
      ⟨_, _, _, _, _, _, _, _, _, _, _, _, _, _, only⟩
    intro x hx
    have same := x.kept_refl t
    cases x
    case outputs | meter | reservoir | changed | clearing | watch | agenda => exact absurd (by decide) (sub hx)
    case safe => exact absurd (.head _) hx
    case own u =>
      refine t.own_resolveFrom m ((unreported_iff u).mpr ⟨?_, ?_⟩) ?_ <;> rintro rfl <;> exact absurd (by decide) (sub hx)
    case job o => exact t.resolveFrom_job m o
    case tests => exact fun o => t.resolveFrom_test m o
    case wire => rw [e]; rfl
    all_goals rw [e]; exact same
  intro x hx
  by_cases k : x = .safe
  · subst k; exact fun _ => t.resolveFrom_safe m
  · have hx' : x ∉ Facet.safe :: R := by simp [k, hx]
    exact x.kept_trans (before x hx') (resolved x hx')

section
variable (s : State)

theorem State.resolve_touches : Touches resolveFacets s s.resolve := Touches.resolveFrom (.refl _ s) _

/-- What a job command may touch. -/
def commandFacets (o : Output) : List Facet := .job o :: resolveFacets

/-- A job command is given, before the resolution that follows it. -/
theorem State.setJob_touches (o : Output) (d : Drive) :
    Touches (.safe :: commandFacets o) s
      { s with out := { s.out with channels := s.out.channels.set o.idx { s.channel o with job := d } } } := by
  have other {p : Output} (k : p ≠ o) : State.channel { s with out := { s.out with
      channels := s.out.channels.set o.idx { s.channel o with job := d } } } p = s.channel p := by
    have : o.idx.val ≠ p.idx.val := fun e => k (Output.idx_inj (Fin.ext e)).symm
    simp [State.channel, this]
  intro x hx; have same := x.kept_refl s; cases x
  case outputs => exact absurd (List.mem_cons_of_mem _ (List.mem_cons_of_mem _ (by decide))) hx
  case safe => exact absurd (.head _) hx
  case job p =>
    have k : p ≠ o := by rintro rfl; exact hx (.tail _ (.head _))
    exact congrArg OutputChannel.job (other k)
  case tests =>
    intro p
    by_cases k : p = o
    · subst k; simp [State.channel]
    · rw [other k]
  all_goals exact same

theorem State.command_touches (o : Output) (d : Drive) : Touches (commandFacets o) s (s.command o d) := by
  unfold State.command; split
  · exact .refl _ s
  · exact Touches.resolveFrom (s.setJob_touches o d) _ (List.subset_cons_self _ _)

theorem State.lamp_touches : Touches (commandFacets .lmp) s s.lamp := s.command_touches _ _

end
end Sys2Proof.Machine
end

section
/-! ### Offering frames (R35, R41, R42, R53) -/

namespace Sys2Proof.Machine

theorem insertFrame_length (f : TxFrame) (l : List TxFrame) : (insertFrame f l).length = l.length + 1 := by
  induction l with
  | nil => rfl
  | cons g l ih => unfold insertFrame; split <;> simp [ih]

theorem Line.length_of_not_full {l : Line} (h : ¬ l.full = true) : l.queue.length + 1 ≤ Config.queueCapacity := by
  simpa [Line.full] using h

section
variable (s : State)

theorem State.assemble_touches : Touches [.offers, .clearing] s s.assemble := by
  unfold State.assemble
  intro x hx; have same := x.kept_refl s; cases x
  case offers | clearing => exact absurd (by decide) hx
  case wire => exact rfl
  all_goals exact same

theorem State.clearMarks_touches : Touches [.changed, .clearing] s s.clearMarks := by
  unfold State.clearMarks
  intro x hx; have same := x.kept_refl s; cases x
  case changed | clearing => exact absurd (by decide) hx
  case wire => exact rfl
  all_goals exact same

theorem State.countFrame_touches : Touches [.offers] s s.countFrame := Touches.offers s _ _ _ _

theorem State.openClaim_touches : Touches [.flight] s s.openClaim := by
  unfold State.openClaim; split
  · exact Touches.flight s _
  · exact .refl _ s

/-- What the report of a frame sent may touch. -/
def sentFacets : List Facet := [.offers, .clearing, .changed, .flight, .restart]

theorem State.reportSent_touches (f : TxFrame) : Touches sentFacets s (s.reportSent f) := by
  unfold State.reportSent; split
  · exact s.clearMarks_touches.mono.trans (Touches.offers _ _ _ _ _)
  · exact s.openClaim_touches.mono
  · exact Touches.restart s _
  · exact .refl _ s

theorem State.sendStuck_touches (f : TxFrame) : Touches sentFacets s (s.sendStuck f) := by
  have assembled : Touches sentFacets s (if f.isStatus then s.assemble else s) := by
    split
    · exact s.assemble_touches.mono
    · exact .refl _ s
  exact (assembled.trans (State.countFrame_touches _).mono).trans (State.reportSent_touches _ f)

/-- What an offered frame may touch. -/
def offerFacets : List Facet := .queue :: sentFacets

theorem State.enqueue_touches (f : TxFrame) (room : ¬ s.line.full = true) : Touches [.queue] s (s.enqueue f) :=
  Touches.queue s _ fun _ => by rw [insertFrame_length]; exact Line.length_of_not_full room

theorem State.offer_touches (f : TxFrame) : Touches offerFacets s (s.offer f) := by
  unfold State.offer; split
  · exact (s.sendStuck_touches f).mono
  · split
    · exact .refl _ s
    · exact (s.enqueue_touches f ‹_›).mono

theorem State.offerStatus_touches : Touches offerFacets s s.offerStatus := by
  unfold State.offerStatus; split
  · exact (s.sendStuck_touches _).mono
  · repeat' split
    · exact .refl _ s
    · exact Touches.offers s _ _ _ _
    · exact (s.enqueue_touches _ ‹_›).mono

/-- Where a frame waits that `p` names, taking the waiting ones out makes room for one. -/
theorem Line.length_without_waiting {l : Line} {p : TxFrame → Bool} (h : l.waiting p = true) :
    (l.queue.filter fun g => !(p g && !g.sending)).length + 1 ≤ l.queue.length := by
  obtain ⟨f, mem, hf⟩ := List.any_eq_true.mp h
  exact Nat.succ_le_of_lt (List.length_filter_lt_length_iff_exists.mpr ⟨f, mem, by simpa using hf⟩)

theorem State.offerNotice_touches (cls : Nat) (code c : Byte) : Touches offerFacets s (s.offerNotice cls code c) := by
  unfold State.offerNotice; dsimp only; split
  · exact (s.sendStuck_touches _).mono
  · split
    · rename_i waits
      split
      · refine Touches.queue s _ fun held => ?_
        rw [insertFrame_length]
        exact (Line.length_without_waiting waits).trans held
      · exact .refl _ s
    · split
      · exact .refl _ s
      · exact (s.enqueue_touches _ ‹_›).mono

theorem State.publishRequest_touches : Touches offerFacets s s.publishRequest := s.offerStatus_touches

theorem State.offerRelease_touches (tag : Byte) (cls : Nat) : Touches offerFacets s (s.offerRelease tag cls) := s.offer_touches _

theorem State.offerAnswer_touches (target : Addr) (kind seq : Byte) (code : Nat) (bytes : List Byte) :
    Touches offerFacets s (s.offerAnswer target kind seq code bytes) := s.offer_touches _

/-- What one of the part's own requests may touch. -/
def ownRequestFacets : List Facet := .defrost :: offerFacets

theorem State.offerOwnRequest_touches (kind : Nat) (args : List Byte) :
    Touches ownRequestFacets s (s.offerOwnRequest kind args) := by
  unfold State.offerOwnRequest
  exact (s.offer_touches _).mono.trans (Touches.defrost _ _)

end

/-! ### Flags (R170) -/

/-- What a raise of a class B fault may touch. -/
def flagFacets : List Facet := [.fault, .own .faultAFlags, .own .faultBFlags, .own .lastEvent] ++ wordFacets

/-- A flag put on breaches at most the SAFETY layer. -/
theorem Touches.putFlag (s : State) (f : FaultId) : Touches [.fault, .safe] s { s with fault := s.fault.put f true } := by
  intro x hx; have same := x.kept_refl s; cases x
  case fault | safe => exact absurd (by decide) hx
  case flag g => intro held; rw [FaultUnit.isSet_put]; split <;> simp_all
  all_goals exact same

/-- A class B flag put on leaves the SAFETY layer as it was. -/
theorem Touches.putFlagB (s : State) {f : FaultId} (b : f.isA = false) : Touches [.fault] s { s with fault := s.fault.put f true } := by
  intro x hx
  by_cases safe : x = .safe
  case neg => exact Touches.putFlag s f x (by simp_all)
  case pos =>
    subst safe
    have classA : State.classA { s with fault := s.fault.put f true } = s.classA := by simp [State.classA, FaultUnit.put, b]
    rintro ⟨fan, valve, off⟩
    exact ⟨fan, valve, by rw [State.forcedOff, classA]; exact off⟩

section
variable (s : State)

theorem State.writeEvent_touches (code : Int) : Touches (writeFacets .lastEvent) s (s.writeEvent code) := s.write_touches _ _

theorem State.capture_touches (f : FaultId) : Touches [.fault] s (s.capture f) := by
  unfold State.capture; split
  · exact Touches.faultNotes s _
  · exact .refl _ s

theorem State.writeFlags_touches : Touches flagFacets s s.writeFlags :=
  (s.write_touches .faultAFlags _).mono.trans (State.write_touches _ .faultBFlags _).mono

/-- A new flag, with the capture before it and LAST_EVENT after it; class A breaches the SAFETY layer until the next resolution. -/
theorem State.setFlag_touches (f : FaultId) : Touches (.safe :: flagFacets) s (s.setFlag f) :=
  (((s.capture_touches f).mono.trans (Touches.putFlag _ f).mono).trans (State.writeFlags_touches _).mono).trans
    (State.writeEvent_touches _ _).mono

theorem State.raiseB_touches {f : FaultId} (b : f.isA = false) : Touches flagFacets s (s.raiseB f) := by
  unfold State.raiseB; split
  · exact (s.writeEvent_touches _).mono
  · exact (((s.capture_touches f).mono.trans (Touches.putFlagB _ b).mono).trans (State.writeFlags_touches _)).trans
      (State.writeEvent_touches _ _).mono

end
end Sys2Proof.Machine
end

section
/-! ### Setters of published states (R6, R69, R99, R119, R141) -/

namespace Sys2Proof.Machine
section
variable (s : State)

/-- What a change of the path state may touch. -/
def pathFacets : List Facet := .path :: .own .waterPathState :: commandFacets .lmp

theorem State.setPath_touches (p : PathState) : Touches pathFacets s (s.setPath p) :=
  ((Touches.path s p).trans (State.write_touches _ _ _).mono).trans (State.lamp_touches _).mono

/-- What a change of a mold record may touch. -/
def moldFacets (m : Mold) : List Facet := .mold m :: writeFacets m.tag

theorem State.setMold_touches (m : Mold) (r : MoldRecord) : Touches (moldFacets m) s (s.setMold m r) :=
  (Touches.mold s m r (.head _)).trans ((State.write_touches _ _ _).mono (List.subset_cons_self _ _))

theorem State.setAuger_touches (a : AugerState) : Touches (.auger :: commandFacets .lmp) s (s.setAuger a) :=
  (Touches.auger s a s.ice.runTimer).trans (State.lamp_touches _).mono

theorem State.setF_touches (f : Nat) : Touches (.frostF :: writeFacets .frostIndex) s (s.setF f) :=
  (Touches.frostF s (min 65535 f) (Nat.min_le_left ..)).trans (State.write_touches _ _ _).mono

theorem State.setT_touches (t : Nat) : Touches (.frostT :: writeFacets .defrostThreshold) s (s.setT t) :=
  (Touches.frostT s (clampNat Config.thresholdLow Config.thresholdHigh t) (by simp [clampNat])
      (by simp [clampNat]; decide)).trans
    (State.write_touches _ _ _).mono

theorem State.setHours_touches (h : Nat) : Touches (.hours :: writeFacets .hoursSinceDefrost) s (s.setHours h) :=
  (Touches.hours s (min 65535 h) (Nat.min_le_left ..)).trans (State.write_touches _ _ _).mono

theorem State.fan_touches : Touches (commandFacets .ef) s s.fan := by
  unfold State.fan; split <;> exact s.command_touches _ _

/-- What an entry to a defrost state may touch. -/
def defrostEntryFacets : List Facet := .defrost :: .own .defrostState :: .dhClass :: commandFacets .ef

theorem State.setDefrost_touches (d : DefrostState) : Touches defrostEntryFacets s (s.setDefrost d) := by
  have entered : Touches defrostEntryFacets s
      ({ s with defrost := { s.defrost with state := d } }.write .defrostState d.code) :=
    (Touches.defrost s _).trans (State.write_touches _ _ _).mono
  unfold State.setDefrost
  dsimp only
  refine Touches.trans ?_ (State.fan_touches _).mono
  split
  · exact entered.trans (Touches.dhClass _ _ _)
  · exact entered

end

/-! ### The share unit but for its reports (R58 to R61, R68, R80) -/

theorem sumAmps_eq_sum (l : List Nat) : sumAmps l = l.sum := List.sum_eq_foldl_nat.symm

/-- Grants taken out of a list lower its sum. -/
theorem sumAmps_filter_le (p : Grant → Bool) (l : List Grant) :
    sumAmps ((l.filter p).map Grant.amps) ≤ sumAmps (l.map Grant.amps) := by
  rw [sumAmps_eq_sum, sumAmps_eq_sum]
  exact (List.filter_sublist.map _).sum_le_sum fun _ _ => Nat.zero_le _

section
variable (s : State)

/-- Grants taken out of the own list. -/
theorem Touches.fewerGrants {R : List Facet} (p : Grant → Bool) (h : autoParam (.grants ∈ R) Rat.normalize._auto_1) :
    Touches R s { s with share := { s.share with grants := s.share.grants.filter p } } :=
  Touches.grants s _ (fun held => (sumAmps_filter_le p _).trans held.1) h

theorem State.recomputeExcess_touches : Touches [.shedDelay] s s.recomputeExcess := by
  unfold State.recomputeExcess; split
  · exact Touches.shedDelay s _
  · exact .refl _ s

theorem State.enqueueClaim_touches (e : ClaimEntry) : Touches [.claims] s (s.enqueueClaim e) := Touches.claims s _

theorem State.reevaluateDh_touches : Touches [.dhClass, .claims] s s.reevaluateDh := by
  unfold State.reevaluateDh
  dsimp only
  repeat' split
  all_goals
    intro x hx; have same := x.kept_refl s; cases x
    case dhClass | claims => exact absurd (by decide) hx
    all_goals exact same

/-- What an ask may touch. -/
def askFacets : List Facet := [.dhClass, .claims, .flight, .suspended]

theorem State.placeAsk_touches (op : LoadOp) (amps : Nat) : Touches [.claims, .flight, .suspended] s (s.placeAsk op amps) := by
  unfold State.placeAsk
  split
  · split <;> exact Touches.flight s _
  case h_5 => exact (s.enqueueClaim_touches _).mono
  all_goals
    intro x hx; have same := x.kept_refl s; cases x
    case claims | flight | suspended => exact absurd (by decide) hx
    all_goals exact same

theorem State.ask_touches (op : LoadOp) (amps : Nat) : Touches askFacets s (s.ask op amps) := by
  unfold State.ask; repeat' split
  · exact .refl _ s
  · exact .refl _ s
  · exact s.reevaluateDh_touches.mono.trans (State.placeAsk_touches _ _ _).mono
  · exact (s.placeAsk_touches _ _).mono

/-- An ask for another load than DH leaves the DH class. -/
theorem State.ask_touches_of_ne (op : LoadOp) (amps : Nat) (h : op ≠ .dh) :
    Touches [.claims, .flight, .suspended] s (s.ask op amps) := by
  unfold State.ask; rw [if_neg h]; repeat' split
  · exact .refl _ s
  · exact .refl _ s
  · exact s.placeAsk_touches _ _

/-- What the release of a grant may touch. -/
def releaseFacets : List Facet := .grants :: .shedDelay :: offerFacets

theorem State.releaseLoad_touches (op : LoadOp) : Touches releaseFacets s (s.releaseLoad op) := by
  unfold State.releaseLoad; split
  · exact .refl _ s
  · exact (((Touches.fewerGrants s _).trans (State.offerRelease_touches _ _ _).mono).trans
      (State.publishRequest_touches _).mono).trans (State.recomputeExcess_touches _).mono

theorem State.endFlight_touches : Touches [.flight, .claims] s s.endFlight := by
  unfold State.endFlight; split
  · exact .refl _ s
  · dsimp only; split
    · exact Touches.flight s _
    · exact (Touches.flight s _).trans (State.enqueueClaim_touches _ _).mono

theorem State.cancelFlight_touches : Touches [.flight, .queue] s s.cancelFlight := by
  unfold State.cancelFlight; repeat' split
  · exact .refl _ s
  · exact Touches.trans (Touches.queue s (s.line.queue.filter fun f => !f.isClaim) fun held => (List.length_filter_le ..).trans held)
      (Touches.flight { s with line := { s.line with queue := _ } } none)
  · exact Touches.flight s _

theorem State.startReclaim_touches : Touches [.reclaim] s s.startReclaim := Touches.reclaim s _

theorem State.dropSuspension_touches (op : LoadOp) : Touches [.suspended, .reclaim] s (s.dropSuspension op) := by
  unfold State.dropSuspension; dsimp only; repeat' split
  · exact Touches.suspended s _
  · exact (Touches.suspended s _).trans (State.startReclaim_touches _).mono
  · exact .refl _ s

theorem State.dropEntry_touches (op : LoadOp) : Touches [.claims] s (s.dropEntry op) := Touches.claims s _

/-- What a withdrawal, or a general release, may touch. -/
def withdrawFacets : List Facet := .claims :: .suspended :: .reclaim :: releaseFacets

theorem State.withdraw_touches (op : LoadOp) : Touches withdrawFacets s (s.withdraw op) := by
  unfold State.withdraw
  dsimp only
  refine Touches.trans (Touches.trans ?_ (State.releaseLoad_touches _ _).mono) (State.dropSuspension_touches _ _).mono
  split
  · exact (s.dropEntry_touches op).mono.trans (State.cancelFlight_touches _).mono
  · exact (s.dropEntry_touches op).mono

theorem State.releaseAll_touches : Touches (.grants :: offerFacets) s s.releaseAll := by
  unfold State.releaseAll
  dsimp only
  exact (Touches.fewerGrants s _).trans (Touches.foldl (fun t (g : Grant) => (t.offerRelease_touches g.tag g.cls).mono) _ _)

theorem State.generalRelease_touches : Touches withdrawFacets s s.generalRelease := by
  have ended : Touches withdrawFacets s s.releaseAll.cancelFlight :=
    s.releaseAll_touches.mono.trans (State.cancelFlight_touches _).mono
  have emptied (t : State) : Touches withdrawFacets t
      { t with share := { t.share with queue := [], suspended := [], reclaim := none } } := by
    intro x hx; have same := x.kept_refl t; cases x
    case claims | suspended | reclaim => exact absurd (by decide) hx
    all_goals exact same
  unfold State.generalRelease
  dsimp only
  refine Touches.trans ?_ (State.recomputeExcess_touches _).mono
  split
  · exact (ended.trans (emptied _)).trans (State.publishRequest_touches _).mono
  · exact ended.trans (emptied _)

end
end Sys2Proof.Machine
end

section
/-! ### Frost accounting and the defrost controller (R83 to R118) -/

namespace Sys2Proof.Machine
section
variable (s : State)

theorem State.clearMinute_touches : Touches [.minute, .harvests] s s.clearMinute := by
  unfold State.clearMinute
  intro x hx; have same := x.kept_refl s; cases x
  case minute | harvests => exact absurd (by decide) hx
  all_goals exact same

theorem State.frostSamples_touches : Touches [.minute] s s.frostSamples := Touches.minute s _ _ _ _ _ _ _

theorem State.reportHarvest_touches : Touches [.harvests] s s.reportHarvest := Touches.harvests s _

/-- What an accounted end of a defrost may touch. -/
def endReportFacets : List Facet :=
  [.frostF, .frostT, .hours, .gap, .hourTimer, .own .frostIndex, .own .defrostThreshold, .own .hoursSinceDefrost] ++ flagFacets

theorem State.frostCompleted_touches (rep : EndReport) (tEq2 : Nat) : Touches endReportFacets s (s.frostCompleted rep tEq2) := by
  have counted : Touches endReportFacets s (((s.setT (reportedT rep s.frost.t tEq2)).setF 0).setHours 0) :=
    ((s.setT_touches _).mono.trans (State.setF_touches _ _).mono).trans (State.setHours_touches _ _).mono
  have opened (t : State) : Touches endReportFacets t
      { t with frost := { t.frost with hourTimer := t.timer Config.hour, gap := .minGap, retryTimer := none } } := by
    intro x hx; have same := x.kept_refl t; cases x
    case hourTimer | gap => exact absurd (by decide) hx
    all_goals exact same
  unfold State.frostCompleted
  dsimp only
  split
  · exact (counted.trans (opened _)).trans (State.raiseB_touches _ rfl).mono
  · exact counted.trans (opened _)

theorem State.frostNotCompleted_touches : Touches [.gap] s s.frostNotCompleted := Touches.gap s _ _

/-- What the compressor hold may touch. -/
def holdFacets : List Facet := defrostEntryFacets ++ offerFacets

theorem State.enterPumpDown_touches (hold : HoldState) : Touches defrostEntryFacets s (s.enterPumpDown hold) :=
  (Touches.defrost s _).trans (State.setDefrost_touches _ _)

theorem State.holdCheck_touches : Touches defrostEntryFacets s s.holdCheck := by
  unfold State.holdCheck; repeat' split
  · exact s.enterPumpDown_touches _
  · exact s.enterPumpDown_touches _
  · exact .refl _ s
  · exact .refl _ s

theorem State.offerHold_touches : Touches ownRequestFacets s s.offerHold := s.offerOwnRequest_touches _ _

theorem State.offerReleaseCompressor_touches : Touches ownRequestFacets s s.offerReleaseCompressor := s.offerOwnRequest_touches _ _

theorem State.beginHold_touches : Touches holdFacets s s.beginHold := by
  have asked : Touches holdFacets s
      (({ s with defrost := { s.defrost with hold := .asked, answered := false } }.setDefrost .holdWait).offerHold) :=
    ((Touches.defrost s _).trans (State.setDefrost_touches _ _).mono).trans (State.offerHold_touches _).mono
  unfold State.beginHold
  dsimp only
  split
  · exact (asked.trans (Touches.defrost _ _)).trans (State.holdCheck_touches _).mono
  · exact asked.trans (Touches.defrost _ _)

theorem State.leaveTest_touches : Touches holdFacets s s.leaveTest := by
  unfold State.leaveTest; split
  · exact s.beginHold_touches
  · exact .refl _ s

theorem State.failHold_touches : Touches (holdFacets ++ flagFacets) s s.failHold := by
  unfold State.failHold; dsimp only; split
  · exact (((Touches.defrost s _).trans (State.offerReleaseCompressor_touches _).mono).trans (Touches.defrost _ _)).trans
      (State.setDefrost_touches _ _).mono
  · exact (((Touches.defrost s _).trans (State.raiseB_touches _ rfl).mono).trans (Touches.defrost _ _)).trans
      (State.enterPumpDown_touches _ _).mono

theorem State.demand_touches : Touches holdFacets s s.demand := by
  unfold State.demand; split
  · exact ((Touches.defrost s _).trans (State.setDefrost_touches _ _).mono).trans (State.leaveTest_touches _)
  · exact .refl _ s

theorem State.demandIf_touches (c : Bool) : Touches holdFacets s (s.demandIf c) := by
  unfold State.demandIf; split
  · exact s.demand_touches
  · exact .refl _ s

theorem State.writeFrostIndex_touches (v : Nat) :
    Touches (.frostF :: .own .frostIndex :: holdFacets) s (s.writeFrostIndex v) :=
  (s.setF_touches v).mono.trans (State.demandIf_touches _ _).mono

theorem State.heaterOff_touches : Touches (.defrost :: commandFacets .dh) s s.heaterOff :=
  (s.command_touches .dh .off).mono.trans (Touches.defrost _ _)

/-- What an entry to DRIP may touch. -/
def dripFacets : List Facet := .job .dr :: defrostEntryFacets

theorem State.enterDrip_touches : Touches dripFacets s s.enterDrip :=
  ((s.setDefrost_touches _).mono.trans (State.command_touches _ _ _).mono).trans (Touches.defrost _ _)

theorem State.endRecovery_touches : Touches defrostEntryFacets s s.endRecovery :=
  (Touches.defrost s _).trans (State.setDefrost_touches _ _)

theorem State.enterRecovery_touches : Touches holdFacets s s.enterRecovery := by
  have entered : Touches holdFacets s
      ({ s.offerReleaseCompressor with
        defrost := { s.offerReleaseCompressor.defrost with renew := none, hold := .none } }.setDefrost .recovery) :=
    (s.offerReleaseCompressor_touches.mono.trans (Touches.defrost _ _)).trans (State.setDefrost_touches _ _).mono
  unfold State.enterRecovery
  dsimp only
  split
  · exact (entered.trans (Touches.defrost _ _)).trans (State.endRecovery_touches _).mono
  · exact entered.trans (Touches.defrost _ _)

/-- What an entry to HEATING, and an end of it, may touch. -/
def heatingFacets : List Facet := .job .dh :: dripFacets ++ releaseFacets ++ endReportFacets

theorem State.endHeating_touches (rep : EndReport) : Touches heatingFacets s (s.endHeating rep) :=
  ((s.heaterOff_touches.mono.trans (State.releaseLoad_touches _ _).mono).trans (State.frostCompleted_touches _ _ _).mono).trans
    (State.enterDrip_touches _).mono

/-- What the defrost controller may touch at the steps that withdraw its claim. -/
def defrostFacets : List Facet := heatingFacets ++ withdrawFacets

theorem State.terminate_touches : Touches defrostFacets s s.terminate := by
  unfold State.terminate; split
  · exact (s.endHeating_touches _).mono
  · exact (s.withdraw_touches _).mono.trans (State.endHeating_touches _ _).mono
  · exact .refl _ s

theorem State.limitTest_touches : Touches heatingFacets s s.limitTest := by
  unfold State.limitTest; repeat' split
  · exact s.endHeating_touches _
  · exact s.endHeating_touches _
  · exact .refl _ s
  · exact .refl _ s

theorem State.evapSubstituted_touches : Touches heatingFacets s s.evapSubstituted := by
  unfold State.evapSubstituted; split
  · exact s.endHeating_touches _
  · exact .refl _ s

theorem State.enterHeating_touches : Touches heatingFacets s s.enterHeating := by
  have entered (d : Duty) : Touches heatingFacets s
      (State.command { (s.setDefrost .heating) with
        defrost := { (s.setDefrost .heating).defrost with heatSecond := (s.setDefrost .heating).timer Config.sec } } .dh d.drive) :=
    ((s.setDefrost_touches _).mono.trans (Touches.defrost _ _)).trans (State.command_touches _ _ _).mono
  unfold State.enterHeating
  dsimp only
  split
  · exact (entered _).trans (State.endHeating_touches _ _)
  · exact (entered _).trans (State.limitTest_touches _)

theorem State.dhGranted_touches (amps : Nat) (context : Option SavedContext) : Touches heatingFacets s (s.dhGranted amps context) := by
  unfold State.dhGranted; dsimp only; split
  · exact (Touches.defrost s _).trans (State.enterHeating_touches _)
  · exact ((Touches.defrost s _).trans (Touches.defrost _ _)).trans (State.enterHeating_touches _)
  · exact (Touches.defrost s _).trans (State.enterHeating_touches _)
  · exact .refl _ s

theorem State.dhRefused_touches (n : Nat) : Touches (.defrost :: askFacets) s (s.dhRefused n) := by
  unfold State.dhRefused; dsimp only; repeat' split
  · exact Touches.defrost s _
  · exact (Touches.defrost s _).trans (State.ask_touches _ _ _).mono
  · exact .refl _ s

theorem State.dhShed_touches : Touches (.job .dh :: defrostEntryFacets) s s.dhShed := by
  unfold State.dhShed; split
  · exact s.heaterOff_touches.mono.trans (State.setDefrost_touches _ _).mono
  · exact s.heaterOff_touches.mono

theorem State.dhAbandoned_touches : Touches (.gap :: dripFacets) s s.dhAbandoned := by
  unfold State.dhAbandoned; split
  · exact s.frostNotCompleted_touches.mono.trans (State.enterDrip_touches _).mono
  · exact .refl _ s

theorem State.enterHeatClaim_touches : Touches defrostFacets s s.enterHeatClaim := by
  have entered (d : Defrost) : Touches defrostFacets s ({ s with defrost := d }.setDefrost .heatClaim) :=
    (Touches.defrost s d).trans (State.setDefrost_touches _ _).mono
  unfold State.enterHeatClaim
  dsimp only
  split
  · exact ((entered _).trans (State.ask_touches _ _ _).mono).trans (State.dhGranted_touches _ _ _).mono
  · exact (entered _).trans (State.ask_touches _ _ _).mono

theorem State.abortDefrost_touches : Touches defrostFacets s s.abortDefrost := by
  unfold State.abortDefrost; split
  · exact ((((Touches.defrost s _).trans (State.offerReleaseCompressor_touches _).mono).trans (Touches.defrost _ _)).trans
      (State.frostNotCompleted_touches _).mono).trans (State.setDefrost_touches _ _).mono
  iterate 4
    exact ((((Touches.defrost s _).trans (State.heaterOff_touches _).mono).trans (State.withdraw_touches _ _).mono).trans
      (State.frostNotCompleted_touches _).mono).trans (State.enterRecovery_touches _).mono
  · exact ((s.command_touches .dr .off).mono.trans (Touches.defrost _ _)).trans (State.enterRecovery_touches _).mono
  · exact .refl _ s

theorem State.showroomDefrost_touches : Touches defrostFacets s s.showroomDefrost := by
  unfold State.showroomDefrost; split
  iterate 3
    exact ((((Touches.defrost s _).trans (State.withdraw_touches _ _).mono).trans (State.offerReleaseCompressor_touches _).mono).trans
      (Touches.defrost _ _)).trans (State.setDefrost_touches _ _).mono
  iterate 2 exact ((s.heaterOff_touches.mono.trans (State.withdraw_touches _ _).mono).trans (State.enterDrip_touches _).mono)
  · exact .refl _ s

end
end Sys2Proof.Machine
end

section
/-! ### The ice controller and the auger (R141 to R159) -/

namespace Sys2Proof.Machine
section
variable (s : State) (m : Mold)

theorem moldOp_ne_dh : m.op ≠ .dh := by cases m <;> simp [Mold.op]

/-- What a mold's heating and ejecting may touch. -/
def ejectFacets (m : Mold) : List Facet := .job m.heater :: .job m.ejector :: moldFacets m ++ resolveFacets

/-- What a mold's way from FREEZING to EJECT may touch. -/
def harvestFacets (m : Mold) : List Facet := .claims :: .flight :: .suspended :: ejectFacets m

theorem State.moldOff_touches : Touches (.job m.heater :: .job m.ejector :: resolveFacets) s (s.moldOff m) :=
  ((s.command_touches _ _).mono (by cases m <;> decide)).trans ((State.command_touches _ _ _).mono (by cases m <;> decide))

theorem State.setMold_ejects (r : MoldRecord) : Touches (ejectFacets m) s (s.setMold m r) :=
  (s.setMold_touches m r).mono (by cases m <;> decide)

theorem State.heater_ejects (d : Drive) : Touches (ejectFacets m) s (s.command m.heater d) :=
  (s.command_touches _ d).mono (by cases m <;> decide)

theorem State.ejector_ejects (d : Drive) : Touches (ejectFacets m) s (s.command m.ejector d) :=
  (s.command_touches _ d).mono (by cases m <;> decide)

theorem State.enterEject_touches : Touches (ejectFacets m) s (s.enterEject m) :=
  ((s.setMold_ejects m _).trans (State.heater_ejects _ m _)).trans (State.ejector_ejects _ m _)

theorem State.heatEndTest_touches (atSecond : Bool) : Touches (ejectFacets m) s (s.heatEndTest m atSecond) := by
  unfold State.heatEndTest; split
  · exact s.enterEject_touches m
  · exact .refl _ s

theorem State.enterHarvestHeat_touches : Touches (ejectFacets m) s (s.enterHarvestHeat m) :=
  ((s.setMold_ejects m _).trans (State.heater_ejects _ m _)).trans (State.heatEndTest_touches _ m _)

theorem Touches.harvests_of_ejects {s t : State} {m : Mold} (h : Touches (ejectFacets m) s t) : Touches (harvestFacets m) s t :=
  h.mono (by cases m <;> decide)

theorem State.enterHarvestClaim_touches : Touches (harvestFacets m) s (s.enterHarvestClaim m) := by
  have asked (r : MoldRecord) : Touches (harvestFacets m) s ((s.setMold m r).ask m.op ((s.setMold m r).image.ampsOf m.op)) :=
    (s.setMold_ejects m r).harvests_of_ejects.trans
      ((State.ask_touches_of_ne _ _ _ (moldOp_ne_dh m)).mono (by cases m <;> decide))
  unfold State.enterHarvestClaim
  dsimp only
  split
  · exact (asked _).trans (State.enterHarvestHeat_touches _ m).harvests_of_ejects
  · exact asked _

theorem State.holdTestMold_touches : Touches (harvestFacets m) s (s.holdTestMold m) := by
  unfold State.holdTestMold; split
  · exact (s.setMold_ejects m _).harvests_of_ejects.trans (State.enterHarvestClaim_touches _ m)
  · exact .refl _ s

/-- What the hold tests of both molds may touch. -/
def harvestsFacets : List Facet :=
  [.claims, .flight, .suspended, .job .mha, .job .eja, .job .mhb, .job .ejb, .mold .a, .mold .b, .own .moldAState,
    .own .moldBState] ++ resolveFacets

theorem State.holdTests_touches : Touches harvestsFacets s s.holdTests :=
  (s.holdTestMold_touches .a).mono.trans (State.holdTestMold_touches _ .b).mono

theorem State.enterHarvestPending_touches : Touches (harvestFacets m) s (s.enterHarvestPending m) :=
  (s.setMold_ejects m _).harvests_of_ejects.trans (State.holdTestMold_touches _ m)

theorem State.freezeTest_touches : Touches (harvestFacets m) s (s.freezeTest m) := by
  unfold State.freezeTest; split
  · exact (s.setMold_ejects m _).harvests_of_ejects.trans (State.enterHarvestPending_touches _ m)
  · exact .refl _ s

theorem State.enterFreezing_touches : Touches (harvestFacets m) s (s.enterFreezing m) :=
  (s.setMold_ejects m _).harvests_of_ejects.trans (State.freezeTest_touches _ m)

theorem State.moldChannelChange_touches : Touches (harvestFacets m) s (s.moldChannelChange m) :=
  (s.freezeTest_touches m).trans (State.heatEndTest_touches _ m false).harvests_of_ejects

theorem State.moldGranted_touches (context : Option SavedContext) : Touches (ejectFacets m) s (s.moldGranted m context) := by
  unfold State.moldGranted; dsimp only; repeat' split
  · exact (s.setMold_ejects m _).trans (State.enterHarvestHeat_touches _ m)
  · exact (s.setMold_ejects m _).trans (State.enterHarvestHeat_touches _ m)
  · exact s.enterHarvestHeat_touches m
  · exact .refl _ s

theorem State.moldShed_touches : Touches (ejectFacets m) s (s.moldShed m) :=
  ((s.moldOff_touches m).mono (by cases m <;> decide)).trans (State.setMold_ejects _ m _)

theorem State.moldAbandoned_touches : Touches (harvestFacets m) s (s.moldAbandoned m) := by
  unfold State.moldAbandoned; split
  · exact (s.setMold_ejects m _).harvests_of_ejects.trans (State.enterHarvestPending_touches _ m)
  · exact .refl _ s

/-- What the end of a mold's harvest, by class A or by a mode, may touch. -/
def abortFacets (m : Mold) : List Facet := withdrawFacets ++ harvestFacets m

theorem State.abortMold_touches : Touches (abortFacets m) s (s.abortMold m) := by
  unfold State.abortMold; split
  · exact ((((s.moldOff_touches m).mono (by cases m <;> decide)).trans
      ((State.withdraw_touches _ _).mono (by cases m <;> decide))).trans
      ((State.setMold_touches _ m _).mono (by cases m <;> decide))).trans
      ((State.enterHarvestPending_touches _ m).mono (by cases m <;> decide))
  · exact .refl _ s

/-- What the ends of both molds' harvests may touch. -/
def abortsFacets : List Facet := withdrawFacets ++ harvestsFacets

theorem State.abortMolds_touches : Touches abortsFacets s s.abortMolds :=
  (s.abortMold_touches .a).mono.trans (State.abortMold_touches _ .b).mono

/-- What the auger's runs and stops may touch. -/
def augerFacets : List Facet := .auger :: .job .aug :: commandFacets .lmp

theorem State.augerOff_touches : Touches augerFacets s s.augerOff :=
  ((s.command_touches .aug .off).mono.trans (Touches.auger _ _ _)).trans (State.setAuger_touches _ _).mono

theorem State.endAuger_touches : Touches (augerFacets ++ withdrawFacets) s s.endAuger := by
  unfold State.endAuger; split
  · exact (s.withdraw_touches .aug).mono.trans (State.augerOff_touches _).mono
  · exact ((s.command_touches .aug .off).mono.trans (State.releaseLoad_touches _ _).mono).trans (State.augerOff_touches _).mono
  · exact .refl _ s

theorem State.augerGranted_touches : Touches augerFacets s s.augerGranted := by
  unfold State.augerGranted; split
  · exact ((s.command_touches .aug .on).mono.trans (Touches.auger _ _ _)).trans (State.setAuger_touches _ _).mono
  · exact .refl _ s

theorem State.augerShed_touches : Touches (.own .lastEvent :: augerFacets) s s.augerShed := by
  unfold State.augerShed; split
  · exact s.augerOff_touches.mono.trans (State.writeEvent_touches _ _).mono
  · exact s.augerOff_touches.mono

theorem State.augerAborted_touches : Touches augerFacets s s.augerAborted := by
  unfold State.augerAborted; split
  · exact .refl _ s
  · exact s.augerOff_touches

end
end Sys2Proof.Machine
end

section
/-! ### The water path and the ice controller's fills (R119 to R142, R148, R155) -/

namespace Sys2Proof.Machine
section
variable (s : State) (m : Mold)

/-- What the reservoir's mixing may touch. -/
def mixFacets : List Facet := .reservoir :: writeFacets .reservoirEst

theorem State.setTRes_touches (v : Int) : Touches mixFacets s (s.setTRes v) :=
  (Touches.reservoir s s.water.draw v).trans (State.write_touches _ _ _).mono

theorem State.mixStep_touches (volume : Nat) : Touches mixFacets s (s.mixStep volume) := s.setTRes_touches _

theorem State.mixRemainder_touches : Touches mixFacets s s.mixRemainder := by
  unfold State.mixRemainder; split
  · exact .refl _ s
  · exact (Touches.reservoir s _ _).trans (State.mixStep_touches _ _)

theorem State.mixFull_touches (n : Nat) : Touches mixFacets s (State.mixFull n s) := by
  induction n generalizing s with
  | zero => exact .refl _ s
  | succ n ih => exact ((Touches.reservoir s _ _).trans (State.mixStep_touches _ _)).trans (ih _)

theorem State.addDraw_touches (volume : Nat) : Touches mixFacets s (s.addDraw volume) :=
  (Touches.reservoir s _ s.water.tRes).trans (State.mixFull_touches _ _)

/-- What the opening of a mold's fill may touch. -/
def openFacets (m : Mold) : List Facet := .fills :: .job m.valve :: pathFacets ++ moldFacets m

theorem State.fillOpened_touches : Touches (moldFacets m) s (s.fillOpened m) := by
  unfold State.fillOpened; split
  · exact s.setMold_touches m _
  · exact .refl _ s

theorem State.openValveJob_touches (v : Output) : Touches (commandFacets v) s (s.openValveJob v) := s.command_touches _ _

theorem State.openFill_touches (f : Fill) : Touches (openFacets f.mold) s (s.openFill f) := by
  have opened (current : Option Fill) (d : Timer) : Touches (openFacets f.mold) s
      ({ s with water := { s.water with current := current, fillLimit := d } }.setPath .filling) :=
    (Touches.fills s _ _ _ _ (.head _)).trans ((State.setPath_touches _ _).mono (by cases f.mold <;> decide))
  exact ((opened _ _).trans ((State.openValveJob_touches _ _).mono (by cases f.mold <;> decide))).trans
    ((State.fillOpened_touches _ _).mono (by cases f.mold <;> decide))

/-- What a start test may touch. -/
def startTestFacets : List Facet :=
  [.fills, .job .fva, .job .fvb, .mold .a, .mold .b, .own .moldAState, .own .moldBState] ++ pathFacets

theorem State.openFill_starts (f : Fill) : Touches startTestFacets s (s.openFill f) :=
  (s.openFill_touches f).mono (by cases f.mold <;> decide)

theorem State.startTest_touches : Touches startTestFacets s s.startTest := by
  unfold State.startTest; repeat' split
  · exact (Touches.fills s _ _ _ _).trans (State.openFill_starts _ _)
  · exact (Touches.fills s _ _ _ _).trans (State.openFill_starts _ _)
  · exact (s.setPath_touches _).mono
  · exact (s.setPath_touches _).mono

theorem State.fillRequest_touches : Touches startTestFacets s (s.fillRequest m) := by
  unfold State.fillRequest; dsimp only; repeat' split
  · exact .refl _ s
  · exact (Touches.fills s _ _ _ _).trans (State.startTest_touches _)
  · exact Touches.fills s _ _ _ _

/-- What the closing of a fill may touch, but for the valve's job. -/
def closeFacets : List Facet := .fills :: resolveFacets

theorem State.closeFill_touches (f : Fill) : Touches (.job f.mold.valve :: closeFacets) s (s.closeFill f) := by
  exact (((s.command_touches f.mold.valve .off).mono (by cases f.mold <;> decide)).trans
    (Touches.fills _ _ _ _ _ (.tail _ (.head _)))).trans ((State.mixRemainder_touches _).mono (by cases f.mold <;> decide))

/-- What the closing of either mold's fill may touch. -/
def closesFacets : List Facet := .job .fva :: .job .fvb :: closeFacets

theorem State.closeFill_closes (f : Fill) : Touches closesFacets s (s.closeFill f) :=
  (s.closeFill_touches f).mono (by cases f.mold <;> decide)

/-- What a grade may touch. -/
def gradeFacets : List Facet := harvestsFacets ++ flagFacets

theorem State.takeGrade_touches (f : Fill) (g : Grade) : Touches gradeFacets s (s.takeGrade f g) := by
  unfold State.takeGrade
  obtain ⟨m, owed, attempt, openMs⟩ := f
  cases g <;> dsimp only
  case full | short =>
    exact ((s.setMold_touches m _).mono (by cases m <;> decide)).trans ((State.enterFreezing_touches _ m).mono (by cases m <;> decide))
  case retry => exact (s.setMold_touches m _).mono (by cases m <;> decide)
  case noWater =>
    exact (State.raiseB_touches s rfl).mono.trans ((State.setMold_touches _ m _).mono (by cases m <;> decide))

/-- What the end of a fill may touch. -/
def endFillFacets : List Facet := closesFacets ++ gradeFacets ++ startTestFacets

theorem State.endFill_touches : Touches endFillFacets s s.endFill := by
  unfold State.endFill; split
  · exact .refl _ s
  · exact (((s.closeFill_closes _).mono.trans (Touches.fills _ _ _ _ _)).trans (State.takeGrade_touches _ _ _).mono).trans
      (State.startTest_touches _).mono

theorem State.withdrawFill_touches : Touches (closesFacets ++ startTestFacets) s (s.withdrawFill m) := by
  have out (q : List Fill) (h : Option Fill) : Touches (closesFacets ++ startTestFacets) s
      { s with water := { s.water with queue := q, held := h } } := Touches.fills s _ _ _ _
  unfold State.withdrawFill
  dsimp only
  split
  · split
    · exact (((out _ _).trans (State.closeFill_closes _ _).mono).trans (Touches.fills _ _ _ _ _)).trans (State.startTest_touches _).mono
    · exact out _ _
  · exact out _ _

/-! Dispensing (R124 to R130). -/

theorem State.clearLineHold_touches : Touches [.dispense] s s.clearLineHold := by
  unfold State.clearLineHold; split
  · exact .refl _ s
  · exact Touches.dispense s _ _ _ _

theorem State.writeDispensed_touches (n : Nat) : Touches (writeFacets .dispensedVolume) s (s.writeDispensed n) := s.write_touches _ _

/-- What the closing of a dispense may touch. -/
def closeDispenseFacets : List Facet := .dispense :: .own .dispensedVolume :: commandFacets .dv

theorem State.closeDispense_touches (d : Dispense) : Touches closeDispenseFacets s (s.closeDispense d) :=
  (((((s.command_touches .dv .off).mono.trans (Touches.dispense _ _ _ _ _)).trans (State.mixRemainder_touches _).mono).trans
    (State.writeDispensed_touches _ _).mono).trans (State.clearLineHold_touches _).mono).trans (Touches.dispense _ _ _ _ _)

/-- What the stop of a dispense may touch. -/
def stopFacets : List Facet := closeDispenseFacets ++ pathFacets

theorem State.stopDispense_touches : Touches stopFacets s s.stopDispense := by
  unfold State.stopDispense; split
  · exact .refl _ s
  · exact ((s.closeDispense_touches _).mono.trans (Touches.dispense _ _ _ _ _)).trans (State.setPath_touches _ _).mono

theorem State.holdTest_touches : Touches stopFacets s s.holdTest := by
  unfold State.holdTest; split
  · exact s.stopDispense_touches
  · exact .refl _ s

theorem State.clearPanelHold_touches : Touches stopFacets s s.clearPanelHold := by
  unfold State.clearPanelHold; repeat' split
  · exact (Touches.dispense s _ _ _ _).trans (State.holdTest_touches _)
  · exact .refl _ s
  · exact .refl _ s

theorem State.paddleWaterChange_touches : Touches stopFacets s s.paddleWaterChange := by
  unfold State.paddleWaterChange; split
  · exact s.clearPanelHold_touches
  · exact .refl _ s

theorem State.paddleIceChange_touches : Touches (augerFacets ++ withdrawFacets) s s.paddleIceChange := by
  unfold State.paddleIceChange; split
  · exact s.endAuger_touches
  · exact .refl _ s

theorem State.preempt_touches : Touches closesFacets s s.preempt := by
  unfold State.preempt; split
  · exact .refl _ s
  · exact (s.closeFill_closes _).trans (Touches.fills _ _ _ _ _)

/-- What a start or an update of a dispense may touch. -/
def dispenseFacets : List Facet := closesFacets ++ stopFacets

theorem State.startDispense_touches (owner : DispenseOwner) (ml : Nat) : Touches dispenseFacets s (s.startDispense owner ml) := by
  have preempted : Touches dispenseFacets s (if s.water.path = .filling then s.preempt else s) := by
    split
    · exact s.preempt_touches.mono
    · exact .refl _ s
  have begun (t : State) (d : Option Dispense) (limit : Timer) : Touches dispenseFacets t
      ((({ t with water := { t.water with dispense := d, settling := none, dispenseLimit := limit } }.writeDispensed 0).setPath
        .dispensing).openValveJob .dv) :=
    (((Touches.dispense t _ _ _ _).trans (State.writeDispensed_touches _ _).mono).trans (State.setPath_touches _ _).mono).trans
      (State.openValveJob_touches _ _).mono
  exact preempted.trans (begun _ _ _)

theorem State.updateDispense_touches (d : Dispense) (ml : Nat) : Touches stopFacets s (s.updateDispense d ml) := by
  have updated (d : Dispense) : Touches stopFacets s { s with water := { s.water with dispense := some d } } :=
    Touches.dispense s _ _ _ _
  unfold State.updateDispense
  dsimp only
  generalize (if d.capped then min (requestedLimit ml) warmCap else requestedLimit ml) = limit
  split
  · exact (updated _).trans (State.stopDispense_touches _)
  · exact updated _

theorem State.lineStart_touches : Touches dispenseFacets s s.lineStart := by
  unfold State.lineStart; repeat' split
  all_goals first
    | exact .refl _ s
    | exact s.clearLineHold_touches.mono
    | exact s.startDispense_touches _ _

theorem State.setLineHold_touches (present : Bool) : Touches dispenseFacets s (s.setLineHold present) := by
  unfold State.setLineHold; dsimp only; split
  · exact (Touches.dispense s _ _ _ _).trans (State.lineStart_touches _)
  · exact (Touches.dispense s _ _ _ _).trans (State.holdTest_touches _).mono

theorem State.paddleEdge_touches (low : Bool) : Touches dispenseFacets s (s.paddleEdge low) := by
  unfold State.paddleEdge; repeat' split
  all_goals first
    | exact .refl _ s
    | exact s.setLineHold_touches _

/-! Metering (R131 to R134). -/

theorem State.countStep_touches (volume : Nat) :
    Touches (.fills :: .dispense :: writeFacets .dispensedVolume) s (s.countStep volume) := by
  unfold State.countStep; repeat' split
  · exact (Touches.dispense s _ _ _ _).trans (State.writeDispensed_touches _ _).mono
  · exact .refl _ s
  · exact Touches.fills s _ _ _ _
  · exact .refl _ s
  · exact .refl _ s

/-- What a metering step may touch. -/
def meteringFacets : List Facet := stopFacets ++ endFillFacets

theorem State.stepLimits_touches : Touches meteringFacets s s.stepLimits := by
  unfold State.stepLimits; repeat' split
  · exact s.stopDispense_touches.mono
  · exact .refl _ s
  · exact s.endFill_touches.mono
  · exact .refl _ s
  · exact .refl _ s

theorem State.meteringStep_touches (volume : Nat) : Touches meteringFacets s (s.meteringStep volume) :=
  ((s.countStep_touches _).mono.trans (State.addDraw_touches _ _).mono).trans (State.stepLimits_touches _)

theorem State.ratePulse_touches : Touches [.meter] s s.ratePulse := by
  unfold State.ratePulse; split
  · exact .refl _ s
  · exact Touches.meter s _ _ _ _ _ _ _

theorem State.toCounted_touches : Touches [.meter, .closed] s s.toCounted := by
  unfold State.toCounted
  intro x hx; have same := x.kept_refl s; cases x
  case meter | closed => exact absurd (by decide) hx
  all_goals exact same

theorem State.closedPulse_touches : Touches [.closed] s s.closedPulse := Touches.closed s _ _ _

/-! Class A and the path (R138, R139). -/

/-- What the locking of the path may touch of fills. -/
def returnFacets : List Facet := [.fills, .mold .a, .mold .b, .own .moldAState, .own .moldBState] ++ wordFacets

theorem State.returnFill_touches (f : Fill) : Touches returnFacets s (s.returnFill f) := by
  have returned (q : List Fill) : Touches returnFacets s
      { s with water := { s.water with queue := q, current := none, held := none } } := Touches.fills s _ _ _ _
  unfold State.returnFill
  dsimp only
  split
  · exact (returned _).trans ((State.setMold_touches _ f.mold _).mono (by cases f.mold <;> decide))
  · exact returned _

theorem State.returnHeld_touches : Touches returnFacets s s.returnHeld := by
  unfold State.returnHeld; split
  · exact s.returnFill_touches _
  · exact .refl _ s

/-- What the locking of the path may touch. -/
def lockFacets : List Facet := returnFacets ++ stopFacets ++ closesFacets

theorem State.lockPath_touches : Touches lockFacets s s.lockPath := by
  unfold State.lockPath; repeat' split
  · exact .refl _ s
  · exact s.returnHeld_touches.mono.trans (State.setPath_touches _ _).mono
  · exact ((s.closeDispense_touches _).mono.trans (State.returnHeld_touches _).mono).trans (State.setPath_touches _ _).mono
  · exact s.returnHeld_touches.mono.trans (State.setPath_touches _ _).mono
  · exact ((Touches.dispense s _ _ _ _).trans (State.returnHeld_touches _).mono).trans (State.setPath_touches _ _).mono
  · exact ((s.closeFill_closes _).mono.trans (State.returnFill_touches _ _).mono).trans (State.setPath_touches _ _).mono
  · exact (s.setPath_touches _).mono

theorem State.unlockPath_touches : Touches startTestFacets s s.unlockPath := by
  unfold State.unlockPath; split
  · exact (s.setPath_touches _).mono.trans (State.startTest_touches _)
  · exact .refl _ s

/-! The ice controller's fills, completion and enabling. -/

/-- What the completion or a stall of a harvest may touch. -/
def completeFacets : List Facet := .harvests :: releaseFacets ++ harvestsFacets ++ startTestFacets ++ flagFacets

theorem State.moldOff_completes : Touches completeFacets s (s.moldOff m) := (s.moldOff_touches m).mono (by cases m <;> decide)

theorem State.setMold_completes (r : MoldRecord) : Touches completeFacets s (s.setMold m r) :=
  (s.setMold_touches m r).mono (by cases m <;> decide)

theorem State.completeHarvest_touches : Touches completeFacets s (s.completeHarvest m) :=
  (((((s.moldOff_completes m).trans (State.setMold_completes _ m _)).trans (State.releaseLoad_touches _ _).mono).trans
    (State.reportHarvest_touches _).mono).trans (State.setMold_completes _ m _)).trans (State.fillRequest_touches _ m).mono

theorem State.homeEdge_touches (home : Bool) : Touches completeFacets s (s.homeEdge m home) := by
  unfold State.homeEdge; dsimp only; repeat' split
  · exact s.completeHarvest_touches m
  · exact .refl _ s
  · exact s.setMold_completes m _
  · exact .refl _ s

theorem State.stall_touches : Touches completeFacets s (s.stall m) := by
  have released : Touches completeFacets s ((s.moldOff m).releaseLoad m.op) :=
    (s.moldOff_completes m).trans (State.releaseLoad_touches _ _).mono
  unfold State.stall
  dsimp only
  split
  · exact released.trans (State.setMold_completes _ m _)
  · exact (released.trans (State.raiseB_touches _ rfl).mono).trans (State.setMold_completes _ m _)

/-- What MOLD_ENABLE may touch. -/
def enableFacets : List Facet := withdrawFacets ++ closesFacets ++ startTestFacets ++ harvestsFacets

theorem State.disableMold_touches : Touches enableFacets s (s.disableMold m) := by
  have put (t : State) (r : MoldRecord) : Touches enableFacets t (t.setMold m r) :=
    (t.setMold_touches m r).mono (by cases m <;> decide)
  unfold State.disableMold
  split
  · exact .refl _ s
  · exact (((((s.moldOff_touches m).mono (by cases m <;> decide)).trans (put _ _)).trans
      (State.withdrawFill_touches _ m).mono).trans (State.withdraw_touches _ _).mono).trans (put _ _)

theorem State.enableMold_touches : Touches enableFacets s (s.enableMold m) := by
  unfold State.enableMold; split
  · exact ((s.setMold_touches m _).mono (by cases m <;> decide)).trans ((State.enterFreezing_touches _ m).mono (by cases m <;> decide))
  · exact .refl _ s

end
end Sys2Proof.Machine
end

section
/-! ### The fault unit and the share unit's decisions (R54, R55, R62 to R80, R170 to R179) -/

namespace Sys2Proof.Machine

/-- The jobs of all outputs. -/
def jobFacets : List Facet := outputs.map .job

/-- The own quantities that the blocks write; the sensors' and MODE are not among them. -/
def ownFacets : List Facet :=
  [.reservoirEst, .frostIndex, .defrostThreshold, .defrostState, .moldAState, .moldBState, .waterPathState, .dispensedVolume,
    .conditionFlags, .faultAFlags, .faultBFlags, .lastEvent, .watchStates, .hoursSinceDefrost].map .own

/-- What the consequences inside an event may touch, a class A raise among them. -/
def eventFacets : List Facet :=
  [.watch, .agenda, .restart, .queue, .offers, .clearing, .changed, .grants, .claims, .flight, .tagCounter, .suspended, .reclaim,
    .shedDelay, .dhClass, .frostF, .frostT, .hours, .gap, .hourTimer, .harvests, .defrost, .meter, .reservoir, .path, .fills,
    .dispense, .mold .a, .mold .b, .auger, .outputs, .fault] ++ jobFacets ++ ownFacets

section
variable (s : State)

theorem State.startNoticeRepeat_touches : Touches [.fault] s s.startNoticeRepeat := Touches.faultNotes s _

/-- What an announcement may touch. -/
def noticeFacets : List Facet := .fault :: offerFacets

theorem State.announce_touches (f : FaultId) : Touches noticeFacets s (s.announce f) :=
  (s.offerNotice_touches _ _ _).mono.trans (State.startNoticeRepeat_touches _).mono

/-- A new flag and the resolution that makes the outputs safe again (R172). -/
theorem State.setFlag_resolve_touches (f : FaultId) : Touches (flagFacets ++ resolveFacets) s (s.setFlag f).resolve :=
  Touches.resolveFrom ((s.setFlag_touches f).mono) _

theorem State.raiseA_touches (f : FaultId) : Touches eventFacets s (s.raiseA f) := by
  unfold State.raiseA; split
  · exact (s.writeEvent_touches _).mono
  · exact (((((((s.setFlag_resolve_touches f).mono.trans (State.generalRelease_touches _).mono).trans
      (State.lockPath_touches _).mono).trans (State.abortDefrost_touches _).mono).trans (State.abortMolds_touches _).mono).trans
      (State.augerAborted_touches _).mono).trans (State.announce_touches _ _).mono)

theorem State.freeRecord_touches (f : FaultId) : Touches [.fault] s (s.freeRecord f) := by
  unfold State.freeRecord; repeat' split
  · exact Touches.faultNotes s _
  · exact .refl _ s
  · exact .refl _ s

/-- A flag taken off leaves the others, and the outputs as safe as they were. -/
theorem Touches.clearFlag (f : FaultId) : Touches [.fault, .flag f] s { s with fault := s.fault.put f false } := by
  intro x hx; have same := x.kept_refl s; cases x
  case fault => exact absurd (.head _) hx
  case flag g =>
    intro held
    have apart : g ≠ f := by rintro rfl; exact hx (.tail _ (.head _))
    rw [FaultUnit.isSet_put, if_neg apart]; exact held
  case safe =>
    rintro ⟨fan, valve, off⟩
    refine ⟨fan, valve, ?_⟩
    by_cases classA : State.classA { s with fault := s.fault.put f false } = true
    · have before : s.classA = true := by
        rw [State.classA] at classA ⊢
        by_contra none
        have zero : s.fault.aFlags = 0 := by simpa using none
        cases k : f.isA <;> simp [FaultUnit.put, k, zero] at classA
      rw [State.forcedOff, before] at off
      rw [State.forcedOff, classA]; exact off
    · rw [State.forcedOff, Bool.eq_false_of_not_eq_true classA]; rfl
  all_goals exact same

/-- What a clear of one flag may touch. -/
def clearFacets (f : FaultId) : List Facet := .flag f :: noticeFacets ++ flagFacets

theorem State.clearFlag_touches (f : FaultId) : Touches (clearFacets f) s (s.clearFlag f) := by
  have freed : Touches (clearFacets f) s (s.freeRecord f) := (s.freeRecord_touches f).mono (by cases f <;> decide)
  have again : Touches (clearFacets f) s (((s.freeRecord f).capture f).writeEvent (raiseEvent f)) :=
    (freed.trans ((State.capture_touches _ f).mono (by cases f <;> decide))).trans
      ((State.writeEvent_touches _ _).mono (by cases f <;> decide))
  unfold State.clearFlag
  dsimp only
  repeat' split
  · exact again.trans ((State.announce_touches _ f).mono (by cases f <;> decide))
  · exact again
  · exact (freed.trans ((Touches.clearFlag _ f).mono (by cases f <;> decide))).trans
      ((State.writeFlags_touches _).mono (by cases f <;> decide))

theorem State.lastClassACleared_touches : Touches eventFacets s s.lastClassACleared :=
  (((Touches.faultNotes s _).trans (State.resolve_touches _).mono |>.trans (State.unlockPath_touches _).mono).trans
    (State.leaveTest_touches _).mono).trans (State.holdTests_touches _).mono

theorem State.afterClear_touches (hadA : Bool) : Touches eventFacets s (s.afterClear hadA) := by
  unfold State.afterClear; split
  · exact s.lastClassACleared_touches
  · exact .refl _ s

/-! Reports to the jobs (section 3.2). -/

/-- What a grant's report to its job may touch. -/
def grantedFacets : List Facet := .auger :: .job .aug :: pathFacets ++ heatingFacets ++ ejectFacets .a ++ ejectFacets .b

theorem State.reportGranted_touches (op : LoadOp) (amps : Nat) (context : Option SavedContext) :
    Touches grantedFacets s (s.reportGranted op amps context) := by
  unfold State.reportGranted; cases op
  · exact (s.dhGranted_touches _ _).mono
  · exact (s.moldGranted_touches .a _).mono
  · exact (s.moldGranted_touches .b _).mono
  · exact s.augerGranted_touches.mono

/-- What a shed's report to its job may touch. -/
def shedFacets : List Facet := .own .lastEvent :: augerFacets ++ .job .dh :: defrostEntryFacets ++ ejectFacets .a ++ ejectFacets .b

theorem State.reportShed_touches (op : LoadOp) : Touches shedFacets s (s.reportShed op) := by
  unfold State.reportShed; cases op
  · exact s.dhShed_touches.mono
  · exact (s.moldShed_touches .a).mono
  · exact (s.moldShed_touches .b).mono
  · exact s.augerShed_touches.mono

/-- What an abandonment's report to its job may touch. -/
def abandonedFacets : List Facet := .gap :: dripFacets ++ harvestsFacets ++ augerFacets

theorem State.reportAbandoned_touches (op : LoadOp) : Touches abandonedFacets s (s.reportAbandoned op) := by
  unfold State.reportAbandoned; cases op
  · exact s.dhAbandoned_touches.mono
  · exact (s.moldAbandoned_touches .a).mono
  · exact (s.moldAbandoned_touches .b).mono
  · exact s.augerAborted_touches.mono

/-! Grants and refusals (R66, R67). -/

/-- What the joining of a grant may touch. -/
def joinFacets : List Facet := [.grants, .flight, .dhClass, .suspended, .reclaim]

/-- A claim that passes the test in force keeps the own total within the budget (R66). -/
theorem State.joinGrant_touches (c : Claim) {stamp : Stamp} (passes : s.admits c.cls c.amps stamp = true) :
    Touches joinFacets s (s.joinGrant c) := by
  have room : s.ownTotal + c.amps ≤ s.image.budget := by
    rw [State.admits, State.committed, Bool.and_eq_true, decide_eq_true_iff] at passes; omega
  have joined (op : Option LoadOp) (n : Nat) : Touches joinFacets s
      { s with share := { s.share with
        grants := s.share.grants ++ [{ op := op, cls := c.cls, amps := c.amps, tag := c.tag }], flight := none, dhRefusals := n } } := by
    intro x hx; have same := x.kept_refl s; cases x
    case grants | flight | dhClass => exact absurd (by decide) hx
    case budget =>
      rintro ⟨_, baseline⟩
      refine ⟨?_, baseline⟩
      simpa [State.ownTotal, sumAmps_eq_sum] using room
    all_goals exact same
  unfold State.joinGrant
  dsimp only
  split
  · exact (joined _ _).trans (State.dropSuspension_touches _ _).mono
  · exact joined _ _

/-- What a grant may touch. -/
def grantFacets : List Facet := joinFacets ++ grantedFacets

theorem State.grantClaim_touches (c : Claim) {stamp : Stamp} (passes : s.admits c.cls c.amps stamp = true) :
    Touches grantFacets s (s.grantClaim c) :=
  (((s.joinGrant_touches c passes).mono.trans (State.reportGranted_touches _ _ _ _).mono).trans
    (State.publishRequest_touches _).mono).trans (State.recomputeExcess_touches _).mono

theorem State.countRefusal_touches (op : LoadOp) : Touches [.dhClass, .claims] s (s.countRefusal op) := by
  unfold State.countRefusal; split
  · exact (Touches.dhClass s _ _).trans (State.reevaluateDh_touches _)
  · exact .refl _ s

theorem State.requeue_touches (c : Claim) : Touches [.claims, .suspended, .reclaim] s (s.requeue c) := by
  unfold State.requeue; split
  · exact (Touches.suspended s _).trans (State.startReclaim_touches _).mono
  · exact Touches.claims s _

/-- What a refusal may touch. -/
def refuseFacets : List Facet := .defrost :: .reclaim :: askFacets ++ offerFacets

theorem State.refuseClaim_touches (c : Claim) (heard : Bool) : Touches refuseFacets s (s.refuseClaim c heard) := by
  have offered : Touches refuseFacets s (if heard then s.offerRelease c.tag c.cls else s) := by
    split
    · exact (s.offerRelease_touches _ _).mono
    · exact .refl _ s
  have refused (t : State) : Touches refuseFacets t
      ((State.countRefusal { t with share := { t.share with flight := none } } c.op).requeue c) :=
    ((Touches.flight t none).trans (State.countRefusal_touches _ _).mono).trans (State.requeue_touches _ _).mono
  unfold State.refuseClaim
  dsimp only
  generalize (if heard = true then s.offerRelease c.tag c.cls else s) = t at offered ⊢
  split
  · exact (offered.trans (refused t)).trans (State.dhRefused_touches _ _).mono
  · exact offered.trans (refused t)

theorem State.decideClaim_touches : Touches (grantFacets ++ refuseFacets) s s.decideClaim := by
  unfold State.decideClaim; repeat' split
  · exact .refl _ s
  · exact .refl _ s
  · exact (s.offerRelease_touches _ _).mono.trans (State.endFlight_touches _).mono
  · exact (s.grantClaim_touches _ ‹_›).mono
  · exact (s.refuseClaim_touches _ _).mono

theorem State.offerEntry_touches (e : ClaimEntry) : Touches (.tagCounter :: refuseFacets) s (s.offerEntry e) := by
  have begun (q : List ClaimEntry) (c : Option Claim) (n : Byte) : Touches (.tagCounter :: refuseFacets) s
      { s with share := { s.share with queue := q, flight := c, tagCounter := n } } := by
    intro x hx; have same := x.kept_refl s; cases x
    case claims | flight | tagCounter => exact absurd (by decide) hx
    all_goals exact same
  unfold State.offerEntry
  dsimp only
  split
  · exact (begun _ _ _).trans (State.offer_touches _ _).mono
  · exact (begun _ _ _).trans (State.refuseClaim_touches _ _ _).mono

theorem State.offerNextClaim_touches : Touches (.tagCounter :: refuseFacets) s s.offerNextClaim := by
  unfold State.offerNextClaim; repeat' split
  · exact .refl _ s
  · exact s.reevaluateDh_touches.mono.trans (State.offerEntry_touches _ _)
  · exact s.offerEntry_touches _

/-! Sheds, re-claims and abandonment (R71 to R79). -/

/-- What a shed may touch. -/
def shedOpFacets : List Facet := .suspended :: .reclaim :: releaseFacets ++ shedFacets

theorem State.shedOp_touches (op : LoadOp) : Touches shedOpFacets s (s.shedOp op) := by
  have left (p : Grant → Bool) (tag : Byte) (cls : Nat) : Touches shedOpFacets s
      ((State.offerRelease { s with share := { s.share with grants := s.share.grants.filter p } } tag cls).reportShed op) :=
    ((Touches.fewerGrants s p).trans (State.offerRelease_touches _ _ _).mono).trans (State.reportShed_touches _ _).mono
  unfold State.shedOp
  dsimp only
  repeat' split
  · exact .refl _ s
  · exact ((left _ _ _).trans (Touches.suspended _ _)).trans (State.startReclaim_touches _).mono
  · exact left _ _ _

theorem State.shedWalk_touches : Touches shedOpFacets s s.shedWalk := by
  unfold State.shedWalk; repeat' split
  · exact .refl _ s
  · exact ((Touches.foldl State.shedOp_touches _ s).trans (State.publishRequest_touches _).mono).trans
      (State.recomputeExcess_touches _).mono
  · exact .refl _ s

theorem State.islandSheds_touches : Touches shedOpFacets s s.islandSheds := by
  unfold State.islandSheds
  refine Touches.foldl (fun t op => ?_) _ s
  split
  · exact t.shedOp_touches op
  · exact .refl _ t

theorem State.islandShed_touches : Touches shedOpFacets s s.islandShed := by
  unfold State.islandShed; split
  · exact (s.islandSheds_touches.trans (State.publishRequest_touches _).mono).trans (State.recomputeExcess_touches _).mono
  · exact .refl _ s

/-- What the entry to island operation may touch. -/
def islandFacets : List Facet := .wire :: shedOpFacets

theorem State.enterIsland_touches : Touches islandFacets s s.enterIsland := by
  unfold State.enterIsland; split
  · exact .refl _ s
  · exact ((((Touches.wire s _).trans (State.reportWords_touches _).mono).trans (State.publishRequest_touches _).mono).trans
      (State.islandShed_touches _).mono).trans (State.holdCheck_touches _).mono

/-- What the exit from island operation may touch. -/
def exitIslandFacets : List Facet := .wire :: .reclaim :: wordFacets ++ offerFacets

theorem State.exitIsland_touches : Touches exitIslandFacets s s.exitIsland := by
  have ended : Touches exitIslandFacets s
      ({ s with line := { s.line with island := false, goodTimer := none } }.reportWords.publishRequest) :=
    ((Touches.wire s _).trans (State.reportWords_touches _).mono).trans (State.publishRequest_touches _).mono
  have published (t : State) (v : Vector Bool 19) (d : Timer) : Touches exitIslandFacets t
      { t with store := { t.store with changed := v }, line := { t.line with clearing := [], returnListen := d } } := by
    intro x hx; have same := x.kept_refl t; cases x
    case changed | clearing | wire => exact absurd (by decide) hx
    all_goals exact same
  unfold State.exitIsland
  dsimp only
  split
  · exact ended.trans (published _ _ _)
  · exact (ended.trans (published _ _ _)).trans (State.startReclaim_touches _).mono

theorem State.reclaimHead_touches : Touches [.dhClass, .claims] s s.reclaimHead := by
  unfold State.reclaimHead; dsimp only; repeat' split
  · exact .refl _ s
  · exact .refl _ s
  · exact s.reevaluateDh_touches.trans (State.enqueueClaim_touches _ _).mono
  · exact (s.enqueueClaim_touches _).mono

/-- What an abandonment may touch. -/
def abandonFacets : List Facet := .claims :: .flight :: .queue :: .suspended :: .reclaim :: abandonedFacets

theorem State.abandon_touches (op : LoadOp) : Touches abandonFacets s (s.abandon op) := by
  have dropped : Touches abandonFacets s ((s.dropSuspension op).dropEntry op) :=
    (s.dropSuspension_touches op).mono.trans (State.dropEntry_touches _ _).mono
  unfold State.abandon
  dsimp only
  split
  · exact (dropped.trans (State.cancelFlight_touches _).mono).trans (State.reportAbandoned_touches _ _).mono
  · exact dropped.trans (State.reportAbandoned_touches _ _).mono

end
end Sys2Proof.Machine
end

section
/-! ### The station view, sending, and the consequences inside an event (R32 to R55, R25 to R29) -/

namespace Sys2Proof.Machine
section
variable (s : State) (a : Addr)

theorem State.setRecord_touches (r : Option StationRecord) : Touches [.view] s (s.setRecord a r) := Touches.view s _

theorem State.modifyRecord_touches (g : StationRecord → StationRecord) : Touches [.view] s (s.modifyRecord a g) := by
  unfold State.modifyRecord; split
  · exact s.setRecord_touches a _
  · exact .refl _ s

/-- What the jobs may touch at a change of a peer quantity. -/
def jobsHearFacets : List Facet := defrostEntryFacets ++ stopFacets ++ augerFacets ++ withdrawFacets

theorem State.jobsHear_touches (tag : Byte) : Touches jobsHearFacets s (s.jobsHear a tag) := by
  unfold State.jobsHear; repeat' split
  · exact s.holdCheck_touches.mono.trans (State.fan_touches _).mono
  · exact s.paddleWaterChange_touches.mono
  · exact s.paddleIceChange_touches.mono
  · exact .refl _ s

theorem State.peerChanged_touches (tag : Byte) : Touches jobsHearFacets s (s.peerChanged a tag) :=
  (s.notify_touches _).mono.trans (State.jobsHear_touches _ a tag)

theorem State.freshnessChanged_touches : Touches jobsHearFacets s (s.freshnessChanged a) := by
  unfold State.freshnessChanged; dsimp only; split
  · exact (s.recomputeExcess_touches.mono.trans (State.paddleWaterChange_touches _).mono).trans (State.paddleIceChange_touches _).mono
  · exact s.recomputeExcess_touches.mono

/-- What the content of a frame, and the ageing of a record, may touch. -/
def viewFacets : List Facet := .view :: jobsHearFacets

theorem State.takeItem_touches (q : QuantityItem) : Touches viewFacets s (State.takeItem a s q) := by
  unfold State.takeItem; dsimp only; repeat' split
  · exact .refl _ s
  · exact (s.modifyRecord_touches a _).mono.trans (State.peerChanged_touches _ a _).mono
  · exact .refl _ s

theorem State.quantitiesLost_touches (held : List (Byte × Int)) : Touches jobsHearFacets s (s.quantitiesLost a held) :=
  Touches.foldl (f := fun t (q : Byte × Int) => t.peerChanged a q.1) (fun t q => t.peerChanged_touches a q.1) held s

theorem State.aloneTest_touches : Touches [.wire] s s.aloneTest := by
  unfold State.aloneTest; split
  · exact .refl _ s
  · exact Touches.wire s _

theorem State.becomeStale_touches : Touches viewFacets s (s.becomeStale a) :=
  (s.modifyRecord_touches a _).mono.trans (State.freshnessChanged_touches _ a).mono

theorem State.dropLive_touches (held : List (Byte × Int)) (left : Option StationRecord) :
    Touches (.wire :: viewFacets) s (s.dropLive a held left) :=
  (((s.setRecord_touches a left).mono.trans (State.aloneTest_touches _).mono).trans (State.quantitiesLost_touches _ a held).mono).trans
    (State.freshnessChanged_touches _ a).mono

theorem State.becomeLost_touches : Touches (.wire :: viewFacets) s (s.becomeLost a) := by
  unfold State.becomeLost; split
  · exact s.dropLive_touches a _ _
  · exact .refl _ s

theorem State.forget_touches : Touches (.wire :: viewFacets) s (s.forget a) := by
  unfold State.forget; repeat' split
  · exact s.dropLive_touches a _ _
  · exact (s.setRecord_touches a _).mono.trans (State.freshnessChanged_touches _ a).mono
  · exact .refl _ s

theorem State.recessiveFromNow_touches : Touches [.wire] s s.recessiveFromNow := Touches.wire s _

theorem State.lineActivity_touches : Touches [.wire] s s.lineActivity := by
  unfold State.lineActivity; dsimp only; split
  · exact Touches.wire s _
  · exact (Touches.wire s _).trans (State.recessiveFromNow_touches _)

theorem State.frameTaken_touches : Touches [.wire] s s.frameTaken := by
  unfold State.frameTaken; split
  · exact s.lineActivity_touches
  · exact Touches.wire s _

theorem State.refresh_touches : Touches (.wire :: viewFacets) s (s.refresh a) := by
  have heard (r : Option StationRecord) (l : Line) (h : l = { s.line with alone := none }) :
      Touches (.wire :: viewFacets) s { (s.setRecord a r) with line := l } :=
    (s.setRecord_touches a r).mono.trans (Touches.wire _ l (by subst h; simp))
  unfold State.refresh
  dsimp only
  split
  · exact heard _ _ rfl
  · exact (heard _ _ rfl).trans (State.freshnessChanged_touches _ a).mono

theorem State.islandExitTest_touches : Touches exitIslandFacets s s.islandExitTest := by
  unfold State.islandExitTest; split
  · exact s.exitIsland_touches
  · exact .refl _ s

/-- What a frame from a peer may touch before its content is taken. -/
def hearFacets : List Facet := .wire :: viewFacets

theorem State.hears_touches : Touches hearFacets s (s.hears a) :=
  ((s.frameTaken_touches.mono.trans (State.countFrame_touches _).mono).trans (State.refresh_touches _ a).mono).trans
    (State.islandExitTest_touches _).mono

/-- A frame heard touches what its content may, beside the sender's record and the line. -/
theorem State.receive_touches {R : List Facet} {content : State → State} (h : ∀ t, Touches R t (content t))
    (sub : autoParam (hearFacets ++ flagFacets ⊆ R) Rat.normalize._auto_1) : Touches R s (s.receive a content) := by
  unfold State.receive; repeat' split
  · exact s.frameTaken_touches.mono (List.Subset.trans (by decide) sub)
  · exact (s.frameTaken_touches.mono (List.Subset.trans (by decide) sub)).trans
      ((State.raiseB_touches _ rfl).mono (List.Subset.trans (by decide) sub))
  · exact ((s.hears_touches a).mono (List.Subset.trans (by decide) sub)).trans (h _)
  · exact .refl _ s

theorem State.takeStatus_touches (grants : List GrantItem) (items : List QuantityItem) :
    Touches viewFacets s (s.takeStatus a grants items) :=
  ((s.modifyRecord_touches a _).mono.trans (Touches.foldl (fun t q => t.takeItem_touches a q) items _)).trans
    (State.recomputeExcess_touches _).mono

theorem State.takeHoldAnswer_touches (result : Byte) : Touches (holdFacets ++ flagFacets) s (s.takeHoldAnswer result) := by
  unfold State.takeHoldAnswer; dsimp only; repeat' split
  · exact ((Touches.defrost s _).trans (Touches.defrost _ _)).trans (State.holdCheck_touches _).mono
  · exact Touches.defrost s _
  · exact (Touches.defrost s _).trans (State.failHold_touches _)
  · exact Touches.defrost s _

theorem State.takeAnswer_touches (kind seq result : Byte) : Touches (holdFacets ++ flagFacets) s (s.takeAnswer a kind seq result) := by
  unfold State.takeAnswer; split
  · exact s.takeHoldAnswer_touches _
  · exact .refl _ s

end

/-! Sending (R33 to R35, R53). -/

theorem length_replaceFirst_le (p : TxFrame → Bool) (new : Option TxFrame) (l : List TxFrame) :
    (replaceFirst p new l).length ≤ l.length := by
  induction l with
  | nil => simp [replaceFirst]
  | cons f rest ih =>
    unfold replaceFirst; repeat' split
    all_goals simp
    exact ih

section
variable (s : State)

/-- What a change of the line interface may touch. -/
def lineFacets : List Facet := [.wire, .queue, .offers, .clearing]

theorem State.startSending_touches : Touches lineFacets s s.startSending := by
  unfold State.startSending; split
  · exact .refl _ s
  · rename_i f rest h
    dsimp only
    split
    · exact s.assemble_touches.mono.trans (Touches.line _ _ (by simp [h, State.assemble]))
    · exact Touches.line s _ (by simp [h])

theorem State.endAttempt_touches (new : Option TxFrame) : Touches lineFacets s (s.endAttempt new) :=
  Touches.line s _ (length_replaceFirst_le ..)

theorem State.dropWaitingStatus_touches : Touches lineFacets s s.dropWaitingStatus := Touches.line s _ (List.length_filter_le ..)

theorem State.dropWaitingNotice_touches : Touches lineFacets s s.dropWaitingNotice := Touches.line s _ (List.length_filter_le ..)

theorem State.dropCancelledClaim_touches : Touches (.flight :: .claims :: lineFacets) s s.dropCancelledClaim := by
  unfold State.dropCancelledClaim; repeat' split
  · exact (Touches.line s _ (List.length_filter_le ..)).trans (State.endFlight_touches _).mono
  · exact .refl _ s
  · exact .refl _ s

theorem State.keepNotice_touches (f : TxFrame) (retries : Nat) : Touches lineFacets s (s.keepNotice f retries) := by
  unfold State.keepNotice; split
  · exact s.endAttempt_touches _
  · exact s.dropWaitingNotice_touches.trans (State.endAttempt_touches _ _)

theorem State.keepFrame_touches (f : TxFrame) (retries : Nat) : Touches (.flight :: .claims :: lineFacets) s (s.keepFrame f retries) := by
  have dropped : Touches (.flight :: .claims :: lineFacets) s (if f.isStatus then s.dropWaitingStatus else s) := by
    split
    · exact s.dropWaitingStatus_touches.mono
    · exact .refl _ s
  unfold State.keepFrame
  split
  · exact (s.keepNotice_touches f retries).mono
  · dsimp only
    generalize (if f.isStatus = true then s.dropWaitingStatus else s) = t at dropped ⊢
    split
    · exact (dropped.trans (t.endAttempt_touches _).mono).trans (State.dropCancelledClaim_touches _)
    · exact dropped.trans (t.endAttempt_touches _).mono

/-- What the end of an attempt may touch. -/
def attemptFacets : List Facet := .restart :: refuseFacets ++ lineFacets

theorem State.reportNotSent_touches (f : TxFrame) : Touches attemptFacets s (s.reportNotSent f) := by
  unfold State.reportNotSent; repeat' split
  · exact Touches.offers s _ _ _ _
  · exact s.endFlight_touches.mono
  · exact (s.refuseClaim_touches _ _).mono
  · exact .refl _ s
  · exact Touches.restart s _
  · exact .refl _ s

theorem State.giveUp_touches (f : TxFrame) : Touches attemptFacets s (s.giveUp f) := by
  have dropped : Touches attemptFacets s (if f.isStatus then s.dropWaitingStatus else s) := by
    split
    · exact s.dropWaitingStatus_touches.mono
    · exact .refl _ s
  exact (dropped.trans (State.endAttempt_touches _ _).mono).trans (State.reportNotSent_touches _ f)

theorem State.loseArbitration_touches : Touches attemptFacets s s.loseArbitration := by
  unfold State.loseArbitration; split
  · exact .refl _ s
  · exact (s.keepFrame_touches _ _).mono

theorem State.bitError_touches : Touches attemptFacets s s.bitError := by
  unfold State.bitError; repeat' split
  · exact .refl _ s
  · exact s.giveUp_touches _
  · exact (s.keepFrame_touches _ _).mono

theorem State.frameSent_touches : Touches (.wire :: offerFacets) s s.frameSent := by
  unfold State.frameSent; split
  · exact .refl _ s
  · exact (((Touches.line s _ (length_replaceFirst_le ..)).trans (State.countFrame_touches _).mono).trans
      (State.reportSent_touches _ _).mono).trans (State.lineActivity_touches _).mono

theorem State.holdOff_touches : Touches attemptFacets s s.holdOff := by
  unfold State.holdOff; dsimp only; split
  · exact ((Touches.wire s _).trans (Touches.wire _ _)).trans (State.bitError_touches _)
  · exact Touches.wire s _

theorem State.flushQueue_touches : Touches (.wire :: offerFacets) s s.flushQueue :=
  (Touches.line s _ (Nat.zero_le _)).trans (Touches.foldl (fun t f => (t.sendStuck_touches f).mono) _ _)

theorem State.enterStuck_touches : Touches (islandFacets ++ flagFacets) s s.enterStuck :=
  (((State.raiseB_touches s rfl).mono.trans (Touches.wire _ _)).trans (State.flushQueue_touches _).mono).trans
    (State.enterIsland_touches _).mono

theorem FramerOnly.touches {t : State} (h : FramerOnly s t) : Touches [.wire] s t := by
  rw [FramerOnly] at h; rw [h]; exact Touches.wire s _

theorem State.lineSamples_touches : Touches [.wire] s s.lineSamples := s.lineSamples_framerOnly.touches

theorem State.lineSample_touches : Touches [.wire] s s.lineSample := s.lineSample_framerOnly.touches

theorem State.lineFalls_touches : Touches [.wire] s s.lineFalls := Touches.wire s _

theorem State.lineRises_touches : Touches [.wire] s s.lineRises := (Touches.wire s _).trans (State.recessiveFromNow_touches _)

theorem State.lineIdle_touches : Touches [.wire] s s.lineIdle := s.lineSamples_touches.trans (Touches.wire _ _)

/-! The consequences inside one event. -/

theorem State.entryAction_touches (i : Fin 16) : Touches eventFacets s (s.entryAction i) := by
  unfold State.entryAction; split
  · exact .refl _ s
  · exact (s.writeFrostIndex_touches _).mono
  · exact s.demand_touches.mono
  · exact (s.offerNotice_touches _ _ _).mono

theorem State.roleActive_touches (i : Fin 16) : Touches eventFacets s (s.roleActive i) := by
  unfold State.roleActive; split
  · exact s.terminate_touches.mono
  · exact (s.freezeTest_touches .a).mono
  · exact (s.freezeTest_touches .b).mono
  · exact (s.heatEndTest_touches .a _).mono
  · exact (s.heatEndTest_touches .b _).mono
  · split
    · exact s.endRecovery_touches.mono
    · exact .refl _ s
  · exact .refl _ s

theorem State.whileChanged_touches (i : Fin 16) : Touches eventFacets s (s.whileChanged i) := by
  unfold State.whileChanged; split
  · exact s.holdTests_touches.mono
  · exact .refl _ s

theorem State.watchBegins_touches (i : Fin 16) : Touches eventFacets s (s.watchBegins i) :=
  (((s.writeEvent_touches _).mono.trans (State.entryAction_touches _ i)).trans (State.roleActive_touches _ i)).trans
    (State.whileChanged_touches _ i)

theorem State.handle_touches (g : Signal) : Touches eventFacets s (s.handle g) := by
  unfold State.handle; split
  · exact s.watchBegins_touches _
  · exact s.whileChanged_touches _
  · exact s.raiseA_touches _

theorem State.reportOwed_touches {t : State} (h : s.reportOwed = some t) : Touches wordFacets s t := by
  have word (u : OwnTag) (w : Int) (mem : .own u ∈ wordFacets) : Touches wordFacets s (s.report u w) := by
    refine (State.report_writeOnly s u w).touches fun v hv => State.own_report_ne s w fun e => ?_
    rw [← OwnTag.idx_inj e] at hv; exact hv mem
  obtain ⟨-, ⟨-, rfl⟩ | ⟨-, -, rfl⟩⟩ := State.reportOwed_cases h
  · exact word _ _ (by decide)
  · exact word _ _ (by decide)

theorem State.settleStep_touches {t : State} (h : s.settleStep = some t) : Touches eventFacets s t := by
  unfold State.settleStep at h
  repeat' split at h
  all_goals cases h
  · exact (s.reportOwed_touches ‹_›).mono
  · exact (Touches.agenda s _).trans (State.handle_touches _ _)
  · exact (Touches.offers s _ _ _ _).trans (State.offerStatus_touches _).mono
  · exact s.offerNextClaim_touches.mono

/-- What all the consequences inside an event may touch. -/
theorem State.settle_touches (n : Nat) : Touches eventFacets s (State.settle n s) :=
  State.settle_keeps (P := Touches eventFacets s) (fun _ _ before step => before.trans (State.settleStep_touches _ step)) n s (.refl _ s)

end
end Sys2Proof.Machine
end

section
/-! ### The entry to RUN, the channels and the requests (R7 to R11, R181 to R192) -/

namespace Sys2Proof.Machine
section
variable (s : State)

theorem State.recheck_touches (i : Fin 16) : Touches [.watch, .agenda] s (s.recheck i) := by
  have only := s.recheck_watchOnly i
  intro x hx; have same := x.kept_refl s
  rw [only]
  cases x
  case watch | agenda => exact absurd (by decide) hx
  all_goals exact same

theorem State.recompute_touches (i : Fin 16) : Touches [.watch, .agenda] s (s.recompute i) := by
  have only := s.recompute_watchOnly i
  intro x hx; have same := x.kept_refl s
  rw [only]
  cases x
  case watch | agenda => exact absurd (by decide) hx
  all_goals exact same

theorem State.putWatch_touches (i : Fin 16) (w : WatchPoint) : Touches [.watch, .agenda] s (s.putWatch i w) := by
  unfold State.putWatch
  intro x hx; have same := x.kept_refl s; cases x
  case watch | agenda => exact absurd (by decide) hx
  all_goals exact same

theorem State.startWatch_touches : Touches wordFacets s s.startWatch :=
  Touches.foldl (f := fun t i => ((t.recompute i).recheck i).reportWords)
    (fun t i => ((t.recompute_touches i).mono.trans (State.recheck_touches _ i).mono).trans (State.reportWords_touches _)) _ s

/-- What the frost accountant's start may touch. -/
def startFrostFacets : List Facet := [.minute, .harvests, .hourTimer, .gap] ++ holdFacets

theorem State.startFrost_touches : Touches startFrostFacets s s.startFrost := by
  have started (t : State) (a b c : Timer) : Touches startFrostFacets t
      { t with frost := { t.frost with seconds := 0, secondTimer := a, hourTimer := b, retryTimer := c } } := by
    intro x hx; have same := x.kept_refl t; cases x
    case minute | hourTimer | gap => exact absurd (by decide) hx
    all_goals exact same
  exact (((s.clearMinute_touches.mono.trans (started _ _ _ _)).trans (State.demandIf_touches _ _).mono).trans
    (State.demandIf_touches _ _).mono).trans (State.demandIf_touches _ _).mono

theorem State.startWater_touches : Touches [.relaxation, .meter] s s.startWater := by
  unfold State.startWater
  intro x hx; have same := x.kept_refl s; cases x
  case relaxation | meter => exact absurd (by decide) hx
  all_goals exact same

theorem State.startMold_touches (m : Mold) : Touches (harvestFacets m) s (s.startMold m) := by
  unfold State.startMold; split
  · exact s.enterFreezing_touches m
  · exact .refl _ s

theorem State.announceKept_touches : Touches noticeFacets s s.announceKept := by
  unfold State.announceKept; repeat' split
  · exact s.announce_touches _
  · exact .refl _ s
  · exact .refl _ s

theorem State.testAfresh_touches : Touches eventFacets s s.testAfresh := by
  unfold State.testAfresh
  refine Touches.foldl (fun t f => ?_) _ s
  split
  · exact t.raiseA_touches f
  · exact .refl _ t

/-- What the entry to RUN may touch. -/
def runFacets : List Facet := .start :: .minute :: .relaxation :: eventFacets

theorem State.enterRun_touches : Touches runFacets s s.enterRun :=
  ((((((((Touches.start s _).trans (State.startWatch_touches _).mono).trans (State.fan_touches _).mono).trans
    (State.startFrost_touches _).mono).trans (State.startWater_touches _).mono).trans (State.startMold_touches _ .a).mono).trans
    (State.startMold_touches _ .b).mono).trans (State.announceKept_touches _).mono).trans (State.testAfresh_touches _).mono

/-! The thermistor channels (R7 to R11). -/

theorem State.setSensor_touches (c : Channel) (r : ChannelRecord) : Touches [.sensors] s (s.setSensor c r) := Touches.sensors s _

/-- What a channel's change may touch of the jobs. -/
def channelFacets : List Facet := heatingFacets ++ harvestsFacets

theorem State.channelJobs_touches (c : Channel) : Touches channelFacets s (s.channelJobs c) := by
  unfold State.channelJobs; cases c
  · exact s.evapSubstituted_touches.mono
  · exact .refl _ s
  · exact (s.moldChannelChange_touches .a).mono
  · exact (s.moldChannelChange_touches .b).mono

/-- The quantities of the thermistor channels. -/
def sampleFacets : List Facet :=
  .sensors :: [.own .evapTemp, .own .freezerAirTemp, .own .moldATemp, .own .moldBTemp] ++ channelFacets ++ flagFacets

theorem State.putOwn_touches (t : OwnTag) (v : Int) : Touches [.own t, .changed, .clearing] s (s.putOwn t v) := by
  intro x hx
  have changes : s.putOwn t v = s ∨ ∃ store clearing,
      s.putOwn t v = { s with store := store, line := { s.line with clearing := clearing } } := by
    unfold State.putOwn; split
    · exact .inl rfl
    · exact .inr ⟨_, _, rfl⟩
  obtain same | ⟨store, clearing, e⟩ := changes
  · rw [same]; exact x.kept_refl s
  · have same := x.kept_refl s
    cases x
    case changed | clearing => exact absurd (by simp) hx
    case own u =>
      have apart : t.idx ≠ u.idx := fun k => hx (by rw [OwnTag.idx_inj k]; exact .head _)
      rw [Facet.kept, State.own_putOwn, if_neg apart]
    case wire => rw [e]; rfl
    all_goals rw [e]; exact same

theorem State.overtempTest_touches (c : Channel) : Touches [.agenda] s (s.overtempTest c) := by
  unfold State.overtempTest; repeat' split
  · exact Touches.agenda s _
  · exact .refl _ s
  · exact .refl _ s

theorem State.goodReading_touches (c : Channel) (raw : Nat) : Touches sampleFacets s (s.goodReading c raw) := by
  have taken (r : ChannelRecord) (v : Int) : Touches sampleFacets s ((s.setSensor c r).putOwn c.tag v) :=
    (s.setSensor_touches c r).mono.trans ((State.putOwn_touches _ c.tag v).mono (by cases c <;> decide))
  have jobs (r : ChannelRecord) (v : Int) : Touches sampleFacets s
      (if (s.sensors.get c).state = .normal then (s.setSensor c r).putOwn c.tag v
        else ((s.setSensor c r).putOwn c.tag v).channelJobs c) := by
    split
    · exact taken r v
    · exact (taken r v).trans (State.channelJobs_touches _ c).mono
  unfold State.goodReading
  dsimp only
  refine Touches.trans ?_ (State.overtempTest_touches _ c).mono
  split
  · exact (jobs _ _).trans (State.notify_touches _ _).mono
  · exact jobs _ _

theorem State.badReading_touches (c : Channel) : Touches sampleFacets s (s.badReading c) := by
  have lost (r : ChannelRecord) : Touches sampleFacets s ((s.setSensor c r).raiseB c.fault) :=
    (s.setSensor_touches c r).mono.trans (State.raiseB_touches _ (by cases c <;> rfl)).mono
  unfold State.badReading
  dsimp only
  repeat' split
  · exact (lost _).trans (State.setSensor_touches _ c _).mono
  · exact (s.setSensor_touches c _).mono
  · exact (lost _).trans (State.setSensor_touches _ c _).mono
  · exact (s.setSensor_touches c _).mono
  · exact (s.setSensor_touches c _).mono

theorem State.takeSample_touches (c : Channel) : Touches sampleFacets s (s.takeSample c) := by
  unfold State.takeSample; dsimp only; split
  · exact (s.setSensor_touches c _).mono.trans (State.goodReading_touches _ c _)
  · exact (s.setSensor_touches c _).mono.trans (State.badReading_touches _ c)

theorem State.holdRunsOut_touches (c : Channel) : Touches sampleFacets s (s.holdRunsOut c) := by
  unfold State.holdRunsOut; dsimp only; split
  · exact (((s.setSensor_touches c _).mono.trans ((State.write_touches _ c.tag _).mono (by cases c <;> decide))).trans
      (State.notify_touches _ _).mono).trans (State.channelJobs_touches _ c).mono
  · exact (s.setSensor_touches c _).mono

/-! The requests (R181 to R190). -/

/-- What a request may touch, but for the exceptions of SET_MODE, CLEAR_FAULT and TEST_OUTPUT. -/
def requestFacets : List Facet := .wire :: .view :: eventFacets

theorem State.answer_touches (kind : Nat) (req : Request) (r : Result) : Touches offerFacets s (s.answer kind req r) :=
  s.offerAnswer_touches _ _ _ _ _

/-- A request is only heard and answered, or it passes its checks, and its act is carried out in the state that the frame has reached. -/
theorem State.request_cases (kind : Nat) (req : Request) (act : Act) :
    Touches requestFacets s (s.request kind req act) ∨
      ((s.hears req.src).firstFailure kind req = none ∧ Touches offerFacets (act (s.hears req.src)).1 (s.request kind req act)) := by
  have heard : Touches requestFacets s (s.hears req.src) := (s.hears_touches req.src).mono
  have carried : State.request s kind req act = if s.listening then
      if req.src = 0 ∨ req.src = 15 then s.frameTaken
      else if req.src = s.image.ownAddress then s.frameTaken.raiseB .addressClash
      else if req.broadcast then (s.hears req.src).carryOutBroadcast kind req act else (s.hears req.src).carryOut kind req act
    else s := rfl
  rw [carried]
  repeat' split
  · exact .inl s.frameTaken_touches.mono
  · exact .inl (s.frameTaken_touches.mono.trans (State.raiseB_touches _ rfl).mono)
  · unfold State.carryOutBroadcast; split
    · rename_i passes
      rw [Bool.and_eq_true, Option.isNone_iff_eq_none] at passes
      exact .inr ⟨passes.2, .refl _ _⟩
    · exact .inl heard
  · unfold State.carryOut; split
    · exact .inl (heard.trans (State.answer_touches _ _ _ _).mono)
    · exact .inr ⟨‹_›, State.answer_touches _ _ _ _⟩
  · exact .inl (.refl _ s)

/-- A request touches what its act may, beside what a frame heard and its ANSWER may. -/
theorem State.request_touches {R : List Facet} {act : Act} (kind : Nat) (req : Request)
    (acts : ∀ t, t.mode = s.mode → t.firstFailure kind req = none → Touches R t (act t).1) (sub : autoParam (requestFacets ⊆ R) Rat.normalize._auto_1) :
    Touches R s (s.request kind req act) := by
  obtain refused | ⟨passes, answered⟩ := s.request_cases kind req act
  · exact refused.mono sub
  · have heard := s.hears_touches req.src
    exact ((heard.mono (List.Subset.trans (by decide) sub)).trans (acts _ (heard .mode (by decide)) passes)).trans
      (answered.mono (List.Subset.trans (by decide) sub))

theorem State.actDispenseWater_touches (req : Request) : Touches dispenseFacets s (s.actDispenseWater req).1 := by
  unfold State.actDispenseWater; dsimp only; repeat' split
  all_goals first
    | exact .refl _ s
    | exact (s.updateDispense_touches _ _).mono
    | exact s.startDispense_touches _ _

theorem State.claimAuger_touches : Touches (augerFacets ++ askFacets) s s.claimAuger :=
  (s.setAuger_touches _).mono.trans (State.ask_touches _ _ _).mono

theorem State.actDispenseIce_touches : Touches (augerFacets ++ askFacets) s s.actDispenseIce.1 := by
  unfold State.actDispenseIce; repeat' split
  all_goals first
    | exact .refl _ s
    | exact s.claimAuger_touches

theorem State.actMoldEnable_touches (req : Request) : Touches enableFacets s (s.actMoldEnable req).1 := by
  unfold State.actMoldEnable; split
  · exact s.disableMold_touches _
  · exact s.enableMold_touches _
  · exact .refl _ s

theorem State.actDefrostNow_touches : Touches holdFacets s s.actDefrostNow.1 := by
  unfold State.actDefrostNow; split <;> exact s.demand_touches

theorem State.actDefrostInhibit_touches (req : Request) : Touches holdFacets s (s.actDefrostInhibit req).1 := by
  have stopped : Touches holdFacets s s.stopInhibit := by
    unfold State.stopInhibit; split
    · exact .refl _ s
    · exact (Touches.defrost s _).trans (State.leaveTest_touches _)
  unfold State.actDefrostInhibit
  dsimp only
  repeat' split
  · exact .refl _ s
  · exact stopped
  · exact Touches.defrost s _

theorem State.setTests_touches (v : Vector OutputChannel 12) (h : ∀ o : Output, v[o.idx].job = (s.channel o).job) :
    Touches [.outputs, .tests, .safe] s { s with out := { s.out with channels := v } } := by
  intro x hx; have same := x.kept_refl s; cases x
  case outputs | tests | safe => exact absurd (by decide) hx
  case job o => exact h o
  all_goals exact same

theorem State.clearTests_touches : Touches (.tests :: resolveFacets) s s.clearTests :=
  Touches.resolveFrom ((s.setTests_touches _ fun o => by simp [OutputChannel.untested, State.channel]).mono) _

theorem State.setTest_touches (o : Output) (v : TestValue) : Touches (.tests :: resolveFacets) s (s.setTest o v) := by
  refine Touches.resolveFrom ((s.setTests_touches _ fun p => ?_).mono) _
  by_cases e : p = o
  · subst e; simp [State.channel]
  · have apart : o.idx.val ≠ p.idx.val := fun k => e (Output.idx_inj (Fin.ext k)).symm
    simp [State.channel, apart]

theorem State.actTestOutput_touches (req : Request) : Touches (.tests :: resolveFacets) s (s.actTestOutput req).1 := by
  unfold State.actTestOutput; repeat' split
  · exact .refl _ s
  · exact s.setTest_touches _ _
  · exact .refl _ s

theorem State.enterShowroom_touches : Touches eventFacets s s.enterShowroom :=
  ((((s.generalRelease_touches.mono.trans (State.augerAborted_touches _).mono).trans (State.showroomDefrost_touches _).mono).trans
    (State.abortMolds_touches _).mono).trans (State.stopDispense_touches _).mono)

/-- What a change of mode may touch. -/
def modeFacets : List Facet := .mode :: .own .mode :: .tests :: eventFacets

theorem State.exitMode_touches (old : OpMode) : Touches (.tests :: eventFacets) s (s.exitMode old) := by
  unfold State.exitMode; split
  · exact s.clearTests_touches.mono
  · unfold State.startTestIdle; split
    · exact s.startTest_touches.mono
    · exact .refl _ s
  · exact .refl _ s

theorem State.enterMode_touches (new : OpMode) : Touches eventFacets s (s.enterMode new) := by
  unfold State.enterMode; split
  · exact s.enterShowroom_touches
  · exact .refl _ s

theorem State.changeMode_touches (new : OpMode) : Touches modeFacets s (s.changeMode new) :=
  ((((((Touches.mode s new).trans (State.resolve_touches _).mono).trans (State.exitMode_touches _ _).mono).trans
    (State.enterMode_touches _ _).mono).trans (State.leaveTest_touches _).mono).trans (State.holdTests_touches _).mono).trans
    (State.write_touches _ _ _).mono

theorem State.actSetMode_touches (req : Request) : Touches modeFacets s (s.actSetMode req).1 := by
  unfold State.actSetMode; repeat' split
  · exact .refl _ s
  · exact .refl _ s
  · exact s.changeMode_touches _

theorem State.clearPoint_touches (i : Fin 16) : Touches wordFacets s (s.clearPoint i) := by
  have moved (t : State) (w : WatchPoint) : Touches wordFacets t (t.movePoint i w) :=
    (t.putWatch_touches i w).mono.trans (State.reportWords_touches _)
  unfold State.clearPoint; split
  · exact (moved s _).trans (moved _ _)
  · exact .refl _ s

theorem State.clearPoints_touches (l : List (Fin 16)) : Touches wordFacets s (l.foldl State.clearPoint s) :=
  Touches.foldl State.clearPoint_touches l s

theorem State.actClearWatch_touches (req : Request) : Touches wordFacets s (s.actClearWatch req).1 := by
  unfold State.actClearWatch; dsimp only; repeat' split
  · dsimp only
    exact s.clearPoints_touches watchPoints
  · exact s.clearPoint_touches _
  · exact .refl _ s

theorem State.actForceWatch_touches (req : Request) : Touches [.watch, .agenda] s (s.actForceWatch req).1 := by
  unfold State.actForceWatch; split
  · exact s.putWatch_touches _ _
  · exact .refl _ s

theorem State.actReadQuantity_touches (req : Request) : (s.actReadQuantity req).1 = s := by
  unfold State.actReadQuantity; split <;> rfl

theorem State.actForgetStation_touches (req : Request) : Touches (.wire :: viewFacets) s (s.actForgetStation req).1 := by
  unfold State.actForgetStation; repeat' split
  · exact .refl _ s
  · exact s.forget_touches _
  · exact .refl _ s

theorem State.takeRestart_touches (req : Request) : Touches offerFacets s (s.takeRestart req) := by
  unfold State.takeRestart; repeat' split
  · exact s.answer_touches _ _ _
  · exact (Touches.restart s _).trans (State.offer_touches _ _)
  · exact Touches.restart s _

theorem State.requestRestart_touches (req : Request) : Touches requestFacets s (s.requestRestart req) := by
  refine State.receive_touches s _ fun t => ?_
  repeat' split
  · exact .refl _ t
  · exact (t.answer_touches _ _ _).mono
  · exact (t.takeRestart_touches _).mono

end

/-! CLEAR_FAULT (R178, R179): the flags it may take off. -/

/-- The flags that a list of faults may lose. -/
def lostFlags (l : List FaultId) : List Facet := l.map Facet.flag

section
variable (s : State)

/-- A clear touches the flags of what it takes, and what the end of class A may. -/
theorem State.clearFlag_loses {l : List FaultId} {f : FaultId} (h : f ∈ l) : Touches (lostFlags l ++ eventFacets) s (s.clearFlag f) := by
  refine (s.clearFlag_touches f).mono fun x hx => ?_
  obtain rfl | rest := List.mem_cons.mp hx
  · exact List.mem_append_left _ (List.mem_map_of_mem h)
  · exact List.mem_append_right _ ((by decide : noticeFacets ++ flagFacets ⊆ eventFacets) rest)

theorem State.clearFlags_lose (l : List FaultId) : Touches (lostFlags l ++ eventFacets) s (l.foldl State.clearFlag s) := by
  suffices grow : ∀ (k : List FaultId) (t : State), k ⊆ l → Touches (lostFlags l ++ eventFacets) t (k.foldl State.clearFlag t) from
    grow l s (List.Subset.refl l)
  intro k
  induction k with
  | nil => exact fun t _ => .refl _ t
  | cons f k ih =>
    intro t sub
    obtain ⟨mem, rest⟩ := List.cons_subset.mp sub
    exact (t.clearFlag_loses mem).trans (ih _ rest)

theorem Touches.ofEvent {l : List FaultId} {s t : State} (h : Touches eventFacets s t) : Touches (lostFlags l ++ eventFacets) s t :=
  h.mono (List.subset_append_right _ _)

/-- The faults that CLEAR_FAULT may clear in a mode: RUNAWAY in SERVICE alone (R178, R179). -/
def clearable (m : OpMode) : List FaultId := faultIds.filter fun f => !(f == .runaway && m != .service)

theorem mem_faultIds (f : FaultId) : f ∈ faultIds := by cases f <;> decide

theorem State.clearSingle_touches (f : FaultId) : Touches (lostFlags (clearable s.mode) ++ eventFacets) s (s.clearSingle f).1 := by
  unfold State.clearSingle; repeat' split
  · exact .refl _ s
  · exact .refl _ s
  all_goals
    have mem : f ∈ clearable s.mode := by
      simp only [clearable, List.mem_filter, mem_faultIds, true_and]; simp_all; tauto
  · exact s.clearFlag_loses mem
  · exact (s.clearFlag_loses mem).trans (State.afterClear_touches _ _).ofEvent

theorem State.clearAll_touches : Touches (lostFlags (clearable s.mode) ++ eventFacets) s s.clearAll.1 := by
  have taken : s.takenByAll ⊆ clearable s.mode := by
    intro f hf
    simp only [State.takenByAll, State.passedOver, clearable, List.mem_filter, Bool.and_eq_true] at hf ⊢
    exact ⟨hf.1, hf.2.2⟩
  unfold State.clearAll
  dsimp only
  refine ((s.clearFlags_lose s.takenByAll).mono ?_).trans (State.afterClear_touches _ _).ofEvent
  exact List.append_subset.mpr ⟨fun x hx => List.mem_append_left _ (List.map_subset _ taken hx), List.subset_append_right _ _⟩

theorem State.actClearFault_touches (req : Request) : Touches (lostFlags (clearable s.mode) ++ eventFacets) s (s.actClearFault req).1 := by
  unfold State.actClearFault; dsimp only; repeat' split
  · exact s.clearAll_touches
  · exact s.clearSingle_touches _
  · exact .refl _ s

end
end Sys2Proof.Machine
end

section
/-! ### What each command may touch -/

namespace Sys2Proof.Machine

/-- What any command but those of a start may touch. -/
def anyFacets : List Facet := [.now, .pins, .wire, .minute, .relaxation, .closed] ++ eventFacets

/-- What a command may touch beside that; CLEAR_FAULT and TEST_OUTPUT by the mode. -/
def extraFacets (m : OpMode) (c : Instr) : List Facet :=
  if c.isSwitch then [.switches]
  else if c.isSensor then [.sensors, .own .evapTemp, .own .freezerAirTemp, .own .moldATemp, .own .moldBTemp]
  else if c.isAgeing then [.view]
  else match c with
    | .setMode _ => [.view, .mode, .own .mode, .tests]
    | .clearFault _ => .view :: lostFlags (clearable m)
    | .testOutput _ => .view :: (if m = .service then [.tests] else [])
    | .listenTimerExpiry => [.start]
    | c => if c.isFrame then [.view] else []

section
variable {R : List Facet} (s : State)

/-- An expiry touches the clock and what its act may. -/
theorem onExpiry_touches {act : State → State} (d : Timer) (acts : ∀ t, Touches R t (act t)) (h : autoParam (.now ∈ R) Rat.normalize._auto_1) :
    Touches R s (onExpiry d act s) := by
  cases d with
  | none => exact .refl _ s
  | some d => exact (Touches.now s _ h).trans (acts _)

/-- A change of a pin that a switch input hears. -/
theorem State.inputEdge_touches {pin switch : State → State} (was level : Bool) (pins : ∀ t, Touches (.switches :: anyFacets) t (pin t))
    (switches : ∀ t, Touches (.switches :: anyFacets) t (switch t)) :
    Touches (.switches :: anyFacets) s (s.inputEdge was level pin switch) := by
  unfold State.inputEdge; dsimp only; repeat' split
  · exact .refl _ s
  · exact (pins s).trans (switches _)
  · exact pins s

theorem State.hourPassed_touches : Touches anyFacets s s.hourPassed :=
  (((Touches.hourTimer s _).trans (State.setHours_touches _ _).mono).trans (State.demandIf_touches _ _).mono).trans
    (State.demandIf_touches _ _).mono

theorem State.endMinute_touches : Touches anyFacets s s.endMinute := by
  have counted : Touches anyFacets s { s with frost := { s.frost with seconds := 0 } } := Touches.minute s _ _ _ _ _ _ _
  unfold State.endMinute
  dsimp only
  split
  · exact counted.trans (State.clearMinute_touches _).mono
  · exact ((counted.trans (State.setF_touches _ _).mono).trans (State.clearMinute_touches _).mono).trans (State.demandIf_touches _ _).mono

theorem State.frostSecond_touches : Touches anyFacets s s.frostSecond := by
  have sampled : Touches anyFacets s
      ({ s with frost := { s.frost with secondTimer := s.timer Config.sec } }.frostSamples) :=
    (Touches.minute s _ _ _ _ _ _ _).trans (State.frostSamples_touches _).mono
  unfold State.frostSecond
  dsimp only
  split
  · exact sampled.trans (State.endMinute_touches _)
  · exact sampled

theorem State.retryOpens_touches : Touches anyFacets s s.retryOpens :=
  (Touches.gap s _ _).trans (State.demandIf_touches _ _).mono

theorem State.answerLate_touches : Touches anyFacets s s.answerLate := by
  unfold State.answerLate; dsimp only; split
  · exact (Touches.defrost s _).trans (State.failHold_touches _).mono
  · exact Touches.defrost s _

theorem State.speedLate_touches : Touches anyFacets s s.speedLate := by
  unfold State.speedLate; dsimp only; repeat' split
  · exact (Touches.defrost s _).trans (State.enterPumpDown_touches _ _).mono
  · exact (Touches.defrost s _).trans (State.failHold_touches _).mono
  · exact Touches.defrost s _

theorem State.renewHold_touches : Touches anyFacets s s.renewHold := by
  unfold State.renewHold; dsimp only; split
  · exact s.offerHold_touches.mono.trans (Touches.defrost _ _)
  · exact Touches.defrost s _

theorem State.heatingSecond_touches : Touches anyFacets s s.heatingSecond :=
  (Touches.defrost s _).trans (State.limitTest_touches _).mono

theorem State.dripEnds_touches : Touches anyFacets s s.dripEnds :=
  ((Touches.defrost s _).trans (State.command_touches _ _ _).mono).trans (State.enterRecovery_touches _).mono

theorem State.fillRetries_touches (m : Mold) : Touches anyFacets s (s.fillRetries m) :=
  ((s.setMold_touches m _).mono (by cases m <;> decide)).trans (State.fillRequest_touches _ m).mono

theorem State.heaterSecond_touches (m : Mold) : Touches anyFacets s (s.heaterSecond m) :=
  ((s.setMold_touches m _).mono (by cases m <;> decide)).trans ((State.heatEndTest_touches _ m _).mono (by cases m <;> decide))

theorem State.phaseEnds_touches (n : Fin 4) : Touches anyFacets s (s.phaseEnds n) := by
  unfold State.phaseEnds
  intro x hx; have same := x.kept_refl s; cases x
  case outputs => exact absurd (by decide) hx
  all_goals exact same

theorem State.noticeRepeats_touches : Touches anyFacets s s.noticeRepeats := by
  unfold State.noticeRepeats; split
  · exact (s.announce_touches _).mono
  · exact Touches.faultNotes s _

theorem State.binQualified_touches : Touches (.switches :: anyFacets) s s.binQualified :=
  (((Touches.switches s _).trans (State.reportWords_touches _).mono).trans (State.resolve_touches _).mono).trans
    (State.holdTests_touches _).mono

theorem State.homeQualified_touches (m : Mold) : Touches (.switches :: anyFacets) s (s.homeQualified m) :=
  ((Touches.switches s _).trans (State.resolve_touches _).mono).trans
    ((State.homeEdge_touches _ m _).mono (Q := eventFacets)).mono

theorem State.leakQualified_touches : Touches (.switches :: anyFacets) s s.leakQualified := by
  unfold State.leakQualified; dsimp only
  refine Touches.trans ?_ (State.resolve_touches _).mono
  split
  · exact (Touches.switches s _).trans (State.raiseA_touches _ _).mono
  · exact Touches.switches s _

theorem State.cutoutQualified_touches : Touches (.switches :: anyFacets) s s.cutoutQualified := by
  unfold State.cutoutQualified; dsimp only
  refine Touches.trans ?_ (State.resolve_touches _).mono
  split
  · exact (Touches.switches s _).trans (State.raiseA_touches _ _).mono
  · exact Touches.switches s _

theorem State.paddleQualified_touches : Touches (.switches :: anyFacets) s s.paddleQualified :=
  ((Touches.switches s _).trans (State.resolve_touches _).mono).trans (State.paddleEdge_touches _ _).mono

theorem State.atIdle_touches : Touches anyFacets s s.atIdle := by
  unfold State.atIdle; split
  · exact .refl _ s
  · exact onExpiry_touches s _ fun t => t.lineIdle_touches.mono

theorem State.reachOneSecond_touches : Touches anyFacets s s.reachOneSecond := by
  have held : Touches anyFacets s (if s.line.stuckShort.isSome then s.holdOff else s) := by
    split
    · exact s.holdOff_touches.mono
    · exact .refl _ s
  unfold State.reachOneSecond
  dsimp only
  generalize (if s.line.stuckShort.isSome = true then s.holdOff else s) = t at held ⊢
  split
  · exact held.trans (Touches.wire t _)
  · exact held.trans t.enterStuck_touches.mono

theorem State.runawayTest_touches : Touches anyFacets s s.runawayTest := by
  unfold State.runawayTest; split
  · exact (Touches.closed s _ _ _).trans (State.raiseA_touches _ _).mono
  · exact .refl _ s

theorem State.pulse_touches : Touches anyFacets s s.pulse := by
  have counted : Touches anyFacets s (if s.water.estimated then s.toCounted else s) := by
    split
    · exact s.toCounted_touches.mono
    · exact .refl _ s
  unfold State.pulse
  dsimp only
  generalize (if s.water.estimated = true then s.toCounted else s) = t at counted ⊢
  repeat' split
  · exact (counted.trans t.ratePulse_touches.mono).trans ((State.meteringStep_touches _ _).mono (Q := eventFacets)).mono
  · exact (counted.trans t.closedPulse_touches.mono).trans (State.runawayTest_touches _)
  · exact counted

theorem State.settlingEnds_touches : Touches anyFacets s s.settlingEnds :=
  ((Touches.dispense s _ _ _ _).trans (State.setPath_touches _ _).mono).trans (State.startTest_touches _).mono

theorem State.meterSilent_touches : Touches anyFacets s s.meterSilent := by
  have silent : Touches anyFacets s ({ s with water := { s.water with silence := none } }.raiseB .flowSilent) :=
    (Touches.meter s _ _ _ _ _ _ _).trans (State.raiseB_touches _ rfl).mono
  have estimated (t : State) (d : Timer) : Touches anyFacets t
      { t with water := { t.water with estimated := true, estimate := d } } := by
    intro x hx; have same := x.kept_refl t; cases x
    case meter | closed => exact absurd (by decide) hx
    all_goals exact same
  exact silent.trans (estimated _ _)

theorem State.estimatedStep_touches : Touches anyFacets s s.estimatedStep :=
  (Touches.meter s _ _ _ _ _ _ _).trans ((State.meteringStep_touches _ _).mono (Q := eventFacets)).mono

theorem State.relax_touches : Touches anyFacets s s.relax :=
  (Touches.relaxation s _).trans (State.setTRes_touches _ _).mono

theorem State.retryPassed_touches (op : LoadOp) : Touches anyFacets s (s.retryPassed op) := Touches.claims s _

theorem execLineLevelChange_touches (dominant : Bool) :
    Touches anyFacets s
      (if s.pins.line = dominant then s
       else if !s.listening then s.setLine dominant
       else
         let t := s.lineSamples.setLine dominant
         if dominant then t.lineFalls else t.lineRises) := by
  have sampled : Touches anyFacets s (s.lineSamples.setLine dominant) := s.lineSamples_touches.mono.trans (Touches.pins _ _)
  dsimp only
  repeat' split
  · exact .refl _ s
  · exact Touches.pins s _
  · exact sampled.trans (State.lineFalls_touches _).mono
  · exact sampled.trans (State.lineRises_touches _).mono

end
end Sys2Proof.Machine
end

section
/-! ### Every command but those of a start -/

namespace Sys2Proof.Machine

/-- A command's own effect leads to a state from which only the facets of `R` may differ. -/
def Effect (R : List Facet) (c : Instr) (s : State) : Prop := ∃ t, Does c s t ∧ Touches R s t

section
variable {s : State}

/-- An expiry, by its act. -/
theorem Effect.expiry {R : List Facet} {c : Instr} {d : Timer} {act : State → State} (does : exec c s = (onExpiry d act s).done)
    (acts : ∀ t, Touches R t (act t)) (h : autoParam (.now ∈ R) Rat.normalize._auto_1) : Effect R c s := ⟨_, does, onExpiry_touches s d acts h⟩

/-- A request, by its act. -/
theorem Effect.request {R : List Facet} {c : Instr} {kind : Nat} {req : Request} {act : Act}
    (does : exec c s = (s.request kind req act).done)
    (acts : ∀ t, t.mode = s.mode → t.firstFailure kind req = none → Touches R t (act t).1)
    (sub : autoParam (requestFacets ⊆ R) Rat.normalize._auto_1) : Effect R c s := ⟨_, does, s.request_touches kind req acts sub⟩

/-- A frame heard, by its content. -/
theorem Effect.heard {R : List Facet} {c : Instr} {a : Addr} {content : State → State} (does : exec c s = (s.receive a content).done)
    (h : ∀ t, Touches R t (content t)) (sub : autoParam (hearFacets ++ flagFacets ⊆ R) Rat.normalize._auto_1) : Effect R c s :=
  ⟨_, does, s.receive_touches a h sub⟩

/-- A request whose act stays within what any request may touch. -/
theorem Effect.plainRequest {c : Instr} {kind : Nat} {req : Request} {act : Act} (does : exec c s = (s.request kind req act).done)
    (acts : ∀ t, Touches requestFacets t (act t).1) : Effect (.view :: anyFacets) c s :=
  Effect.request does fun t _ _ => (acts t).mono

end

theorem firstFailure_of_refused {s : State} {kind : Nat} {req : Request} (h : refusedIn s.mode kind = true) :
    s.firstFailure kind req ≠ none := by
  unfold State.firstFailure
  repeat' split
  all_goals simp_all

theorem effect_setMode (req : Request) (s : State) :
    Effect ([.view, .mode, .own .mode, .tests] ++ anyFacets) (.setMode req) s :=
  Effect.request rfl fun t _ _ => (t.actSetMode_touches req).mono

theorem effect_clearFault (req : Request) (s : State) :
    Effect (.view :: lostFlags (clearable s.mode) ++ anyFacets) (.clearFault req) s := by
  have shared {x : Facet} (h : x ∈ .view :: anyFacets) : x ∈ .view :: lostFlags (clearable s.mode) ++ anyFacets := by
    simp only [List.mem_cons, List.cons_append, List.mem_append] at h ⊢; tauto
  refine Effect.request rfl (fun t same _ => ?_) fun x hx => shared ((by decide : requestFacets ⊆ .view :: anyFacets) hx)
  rw [← same]
  refine (t.actClearFault_touches req).mono fun x hx => ?_
  obtain lost | event := List.mem_append.mp hx
  · exact List.mem_append_left _ (.tail _ lost)
  · exact List.mem_append_right _ ((by decide : eventFacets ⊆ anyFacets) event)

theorem effect_testOutput (req : Request) (s : State) :
    Effect (.view :: (if s.mode = .service then [.tests] else []) ++ anyFacets) (.testOutput req) s := by
  split
  · exact Effect.request rfl fun t _ _ => (t.actTestOutput_touches req).mono
  · rename_i other
    refine Effect.request rfl fun t same passes => absurd passes (firstFailure_of_refused ?_)
    rw [same]
    cases h : s.mode <;> simp_all [refusedIn, kindTestOutput]

theorem effect_listenTimerExpiry (s : State) : Effect ([.start] ++ anyFacets) .listenTimerExpiry s :=
  Effect.expiry rfl fun t => t.enterRun_touches.mono

/-- The commands of the thermistor channels. -/
theorem effect_sensor {c : Instr} (h : c.isSensor = true) (s : State) :
    Effect ([.sensors, .own .evapTemp, .own .freezerAirTemp, .own .moldATemp, .own .moldBTemp] ++ anyFacets) c s := by
  cases c
  case sample channel raw =>
    exact ⟨_, rfl, (Touches.pins s _).trans (onExpiry_touches _ _ fun t => (t.takeSample_touches channel).mono)⟩
  case channelHoldExpiry channel => exact Effect.expiry rfl fun t => (t.holdRunsOut_touches channel).mono
  all_goals exact absurd h (by simp [Instr.isSensor])

/-- The commands of the switch inputs. -/
theorem effect_switch {c : Instr} (h : c.isSwitch = true) (s : State) : Effect (.switches :: anyFacets) c s := by
  cases c
  case binInputChange | homeSwitchChange | leakInputChange | cutoutInputChange | paddleLineChange =>
    exact ⟨_, rfl, s.inputEdge_touches _ _ (fun t => Touches.pins t _) fun t => Touches.switches t _⟩
  case binTimerExpiry => exact Effect.expiry rfl State.binQualified_touches
  case homeTimerExpiry mold => exact Effect.expiry rfl fun t => t.homeQualified_touches mold
  case leakTimerExpiry => exact Effect.expiry rfl State.leakQualified_touches
  case cutoutTimerExpiry => exact Effect.expiry rfl State.cutoutQualified_touches
  case paddleTimerExpiry => exact Effect.expiry rfl State.paddleQualified_touches
  all_goals exact absurd h (by simp [Instr.isSwitch])

/-- The frames heard, but for the requests with exceptions of their own. -/
theorem effect_frame {c : Instr} (h : c.isFrame = true) (mode : ∀ req, c ≠ .setMode req) (fault : ∀ req, c ≠ .clearFault req)
    (test : ∀ req, c ≠ .testOutput req) (s : State) : Effect (.view :: anyFacets) c s := by
  cases c
  case statusFrameReceived src grants items => exact Effect.heard rfl fun t => (t.takeStatus_touches src grants items).mono
  case claimFrameReceived src tag cls amps => exact Effect.heard rfl fun t => (t.modifyRecord_touches src _).mono
  case releaseFrameReceived src tag => exact Effect.heard rfl fun t => (t.modifyRecord_touches src _).mono
  case noticeFrameReceived src code cls => exact Effect.heard rfl fun t => (t.modifyRecord_touches src _).mono
  case answerFrameReceived src kind seq result => exact Effect.heard rfl fun t => (t.takeAnswer_touches src kind seq result).mono
  case unconsumedFrame src => exact Effect.heard rfl fun t => .refl _ t
  case requestUnknownKind kind req => exact Effect.plainRequest rfl fun t => .refl _ t
  case dispenseWater req => exact Effect.plainRequest rfl fun t => (t.actDispenseWater_touches req).mono
  case dispenseStop req => exact Effect.plainRequest rfl fun t => t.stopDispense_touches.mono
  case dispenseIce req => exact Effect.plainRequest rfl fun t => t.actDispenseIce_touches.mono
  case iceStop req => exact Effect.plainRequest rfl fun t => t.endAuger_touches.mono
  case defrostNow req => exact Effect.plainRequest rfl fun t => t.actDefrostNow_touches.mono
  case defrostInhibit req => exact Effect.plainRequest rfl fun t => (t.actDefrostInhibit_touches req).mono
  case moldEnable req => exact Effect.plainRequest rfl fun t => (t.actMoldEnable_touches req).mono
  case setMode req => exact absurd rfl (mode req)
  case clearFault req => exact absurd rfl (fault req)
  case clearWatch req => exact Effect.plainRequest rfl fun t => (t.actClearWatch_touches req).mono
  case forceWatch req => exact Effect.plainRequest rfl fun t => (t.actForceWatch_touches req).mono
  case readQuantity req => exact Effect.plainRequest rfl fun t => by rw [t.actReadQuantity_touches req]; exact .refl _ t
  case publishNow req => exact Effect.plainRequest rfl fun t => t.publishRequest_touches.mono
  case forgetStation req => exact Effect.plainRequest rfl fun t => (t.actForgetStation_touches req).mono
  case testOutput req => exact absurd rfl (test req)
  case restart req => exact ⟨_, rfl, (s.requestRestart_touches req).mono⟩
  all_goals exact absurd h (by simp [Instr.isFrame])

/-- The ageing of the station view. -/
theorem effect_ageing {c : Instr} (h : c.isAgeing = true) (s : State) : Effect (.view :: anyFacets) c s := by
  cases c
  case ageStale station => exact Effect.expiry rfl fun t => (t.becomeStale_touches station).mono
  case ageLost station => exact Effect.expiry rfl fun t => (t.becomeLost_touches station).mono
  case pendingClaimExpiry station tag => exact Effect.expiry rfl fun t => (t.modifyRecord_touches station _).mono
  all_goals exact absurd h (by simp [Instr.isAgeing])

/-- The commands of the line, but for frames heard, and of the share unit. -/
def Instr.isLineOrShare : Instr → Bool
  | .transmissionStart | .lostArbitration | .bitError | .frameSent | .discardedFrame _ _ | .foreignFrameOwnAddress
  | .statusPeriodExpiry | .stuckTimer2ms | .stuckTimer1s | .lineRecessive12Bits | .lineGoodTimer | .aloneTimerExpiry
  | .returnListenExpiry | .claimRetryTime _ | .claimWindowExpiry | .shedDelayExpiry | .reclaimTimerExpiry
  | .abandonTimerExpiry _ | .lineLevelChange _ => true
  | _ => false

theorem effect_lineOrShare {c : Instr} (h : Instr.isLineOrShare c = true) (s : State) : Effect anyFacets c s := by
  cases c
  case transmissionStart =>
    refine ⟨_, rfl, ?_⟩
    split
    · dsimp only; split
      · exact s.atIdle_touches.trans (State.startSending_touches _).mono
      · exact s.atIdle_touches
    · exact .refl _ s
  case lostArbitration => exact ⟨_, rfl, s.loseArbitration_touches.mono⟩
  case bitError =>
    refine ⟨_, rfl, ?_⟩
    split
    · exact s.bitError_touches.mono.trans (State.lineActivity_touches _).mono
    · exact .refl _ s
  case frameSent => exact Effect.expiry rfl fun t => t.frameSent_touches.mono
  case discardedFrame chars framing =>
    refine ⟨_, rfl, ?_⟩
    split
    · exact s.frameTaken_touches.mono
    · exact .refl _ s
  case foreignFrameOwnAddress =>
    refine ⟨_, rfl, ?_⟩
    split
    · exact s.frameTaken_touches.mono.trans (State.raiseB_touches _ rfl).mono
    · exact .refl _ s
  case statusPeriodExpiry => exact Effect.expiry rfl fun t => (Touches.offers t _ _ _ _).trans (State.offerStatus_touches _).mono
  case stuckTimer2ms => exact Effect.expiry rfl fun t => t.holdOff_touches.mono
  case stuckTimer1s => exact Effect.expiry rfl State.reachOneSecond_touches
  case lineRecessive12Bits => exact Effect.expiry rfl fun t => t.lineIdle_touches.mono
  case lineGoodTimer => exact Effect.expiry rfl fun t => Touches.wire t _
  case aloneTimerExpiry => exact Effect.expiry rfl fun t => (Touches.wire t _).trans (State.enterIsland_touches _).mono
  case returnListenExpiry => exact Effect.expiry rfl fun t => Touches.wire t _
  case claimRetryTime op => exact Effect.expiry rfl fun t => t.retryPassed_touches op
  case claimWindowExpiry => exact Effect.expiry rfl fun t => t.decideClaim_touches.mono
  case shedDelayExpiry => exact Effect.expiry rfl fun t => (Touches.shedDelay t _).trans (State.shedWalk_touches _).mono
  case reclaimTimerExpiry => exact Effect.expiry rfl fun t => (Touches.reclaim t _).trans (State.reclaimHead_touches _).mono
  case abandonTimerExpiry op => exact Effect.expiry rfl fun t => (t.abandon_touches op).mono
  case lineLevelChange dominant => exact ⟨_, rfl, execLineLevelChange_touches s dominant⟩
  all_goals exact absurd h (by simp [Instr.isLineOrShare])

/-- The commands of the timers of the frost accountant, the defrost controller, the watch points, the water path, the molds, the auger and the generators. -/
def Instr.isBlockTimer : Instr → Bool
  | .frostSecondExpiry | .hourTimerExpiry | .retryTimerExpiry | .answerTimerExpiry | .speedTimerExpiry | .repeatTimerExpiry
  | .holdRetryExpiry | .inhibitTimerExpiry | .dwellTimerExpiry | .heatingSecondExpiry | .dripTimerExpiry | .fanTimerExpiry
  | .watchDelayExpiry _ | .meterPulse | .fillLimitExpiry | .dispenseLimitExpiry | .settlingTimerExpiry | .silenceTimerExpiry
  | .estimateTimerExpiry | .relaxationExpiry | .allClosedExpiry | .runawayHoldExpiry | .fillRetryExpiry _
  | .leastFreezeExpiry _ | .timedFreezeExpiry _ | .heaterSecondExpiry _ | .ejectTimerExpiry _ | .stallWaitExpiry _
  | .augerRunExpiry | .phaseTimerExpiry _ | .noticeRepeatExpiry => true
  | _ => false

theorem effect_blockTimer {c : Instr} (h : Instr.isBlockTimer c = true) (s : State) : Effect anyFacets c s := by
  have freeze (t : State) (m : Mold) (r : MoldRecord) : Touches anyFacets t ((t.setMold m r).freezeTest m) :=
    ((t.setMold_touches m r).mono (by cases m <;> decide)).trans ((State.freezeTest_touches _ m).mono (by cases m <;> decide))
  cases c
  case frostSecondExpiry => exact Effect.expiry rfl State.frostSecond_touches
  case hourTimerExpiry => exact Effect.expiry rfl State.hourPassed_touches
  case retryTimerExpiry => exact Effect.expiry rfl State.retryOpens_touches
  case answerTimerExpiry => exact Effect.expiry rfl State.answerLate_touches
  case speedTimerExpiry => exact Effect.expiry rfl State.speedLate_touches
  case repeatTimerExpiry => exact Effect.expiry rfl State.renewHold_touches
  case holdRetryExpiry => exact Effect.expiry rfl fun t => (Touches.defrost t _).trans (State.leaveTest_touches _).mono
  case inhibitTimerExpiry => exact Effect.expiry rfl fun t => (Touches.defrost t _).trans (State.leaveTest_touches _).mono
  case dwellTimerExpiry => exact Effect.expiry rfl fun t => t.enterHeatClaim_touches.mono
  case heatingSecondExpiry => exact Effect.expiry rfl State.heatingSecond_touches
  case dripTimerExpiry => exact Effect.expiry rfl State.dripEnds_touches
  case fanTimerExpiry => exact Effect.expiry rfl fun t => t.endRecovery_touches.mono
  case watchDelayExpiry point => exact Effect.expiry rfl fun t => (t.putWatch_touches point _).mono
  case meterPulse =>
    refine ⟨_, rfl, ?_⟩
    split
    · exact s.pulse_touches
    · exact .refl _ s
  case fillLimitExpiry => exact Effect.expiry rfl fun t => t.endFill_touches.mono
  case dispenseLimitExpiry => exact Effect.expiry rfl fun t => t.stopDispense_touches.mono
  case settlingTimerExpiry => exact Effect.expiry rfl State.settlingEnds_touches
  case silenceTimerExpiry => exact Effect.expiry rfl State.meterSilent_touches
  case estimateTimerExpiry => exact Effect.expiry rfl State.estimatedStep_touches
  case relaxationExpiry => exact Effect.expiry rfl State.relax_touches
  case allClosedExpiry =>
    refine Effect.expiry rfl fun t x hx => ?_
    have same := x.kept_refl t
    cases x
    case meter | closed => exact absurd (by decide) hx
    all_goals exact same
  case runawayHoldExpiry => exact Effect.expiry rfl fun t => Touches.closed t _ _ _
  case fillRetryExpiry mold => exact Effect.expiry rfl fun t => t.fillRetries_touches mold
  case leastFreezeExpiry mold => exact Effect.expiry rfl fun t => freeze t mold _
  case timedFreezeExpiry mold => exact Effect.expiry rfl fun t => freeze t mold _
  case heaterSecondExpiry mold => exact Effect.expiry rfl fun t => t.heaterSecond_touches mold
  case ejectTimerExpiry mold => exact Effect.expiry rfl fun t => (t.stall_touches mold).mono
  case stallWaitExpiry mold =>
    exact Effect.expiry rfl fun t => ((t.setMold_touches mold _).mono (by cases mold <;> decide)).trans
      ((State.enterHarvestClaim_touches _ mold).mono (by cases mold <;> decide))
  case augerRunExpiry => exact Effect.expiry rfl fun t => t.endAuger_touches.mono
  case phaseTimerExpiry generator => exact Effect.expiry rfl fun t => t.phaseEnds_touches generator
  case noticeRepeatExpiry => exact Effect.expiry rfl State.noticeRepeats_touches
  all_goals exact absurd h (by simp [Instr.isBlockTimer])

/-- Every command is in one of the groups. -/
theorem group_of_command (c : Instr) :
    (c.isStart || c.isSwitch || c.isSensor || c.isAgeing || c.isFrame || Instr.isLineOrShare c || Instr.isBlockTimer c ||
      decide (c = .listenTimerExpiry)) = true := by
  cases c <;> rfl

/-- What the own effect of any command but those of a start may touch. -/
theorem effect_of_not_start {c : Instr} (h : c.isStart = false) (s : State) : Effect (extraFacets s.mode c ++ anyFacets) c s := by
  unfold extraFacets
  split
  · exact effect_switch ‹_› s
  split
  · exact effect_sensor ‹_› s
  split
  · exact effect_ageing ‹_› s
  split
  · exact effect_setMode _ s
  · exact effect_clearFault _ s
  · exact effect_testOutput _ s
  · exact effect_listenTimerExpiry s
  · split
    · exact effect_frame ‹_› ‹_› ‹_› ‹_› s
    · have group := group_of_command c
      by_cases line : Instr.isLineOrShare c = true
      · exact effect_lineOrShare line s
      · exact effect_blockTimer (by simp_all) s

end Sys2Proof.Machine
end

section
/-! ### The commands of a start (R191 to R194) -/

namespace Sys2Proof.Machine

/-- What every start keeps: the waiting commands and the four invariants. -/
structure Starts (s t : State) : Prop where
  pending : t.pending = s.pending
  safe : s.outputsSafe → t.outputsSafe
  range : s.frostInRange → t.frostInRange
  budget : s.withinBudget → t.withinBudget
  bounded : s.queueBounded → t.queueBounded

theorem Starts.trans {s t u : State} (h : Starts s t) (k : Starts t u) : Starts s u :=
  ⟨k.pending.trans h.pending, k.safe ∘ h.safe, k.range ∘ h.range, k.budget ∘ h.budget, k.bounded ∘ h.bounded⟩

theorem Touches.starts {R : List Facet} {s t : State} (h : Touches R s t) (pending : autoParam (.pending ∉ R) Rat.normalize._auto_1)
    (safe : autoParam (.safe ∉ R) Rat.normalize._auto_1) (range : autoParam (.range ∉ R) Rat.normalize._auto_1) (budget : autoParam (.budget ∉ R) Rat.normalize._auto_1)
    (bounded : autoParam (.bounded ∉ R) Rat.normalize._auto_1) : Starts s t :=
  ⟨h .pending pending, h .safe safe, h .range range, h .budget budget, h .bounded bounded⟩

theorem Touches.start_state {R : List Facet} {s t : State} (h : Touches R s t) (apart : autoParam (Facet.start ∉ R) Rat.normalize._auto_1) :
    t.start.state = s.start.state := by
  have kept : StartKept s t := h .start apart
  rw [kept]

/-- No flag is lost. -/
def KeepsFlags (s t : State) : Prop := ∀ f, s.fault.isSet f = true → t.fault.isSet f = true

theorem KeepsFlags.trans {s t u : State} (h : KeepsFlags s t) (k : KeepsFlags t u) : KeepsFlags s u := fun f held => k f (h f held)

theorem KeepsFlags.of_eq {s t : State} (h : t.fault.aFlags = s.fault.aFlags) (k : t.fault.bFlags = s.fault.bFlags) : KeepsFlags s t :=
  fun f held => by rw [FaultUnit.isSet, h, k]; exact held

/-- An image within the bounds of the invariants. -/
def Image.legal (i : Image) : Prop :=
  (Config.thresholdLow ≤ i.initialThreshold ∧ i.initialThreshold ≤ Config.thresholdHigh) ∧ i.baseline ≤ i.budget

theorem builtinImage_legal (straps : Straps) : Image.legal (builtinImage straps) := by
  unfold builtinImage
  split <;> simp [Image.legal, builtinV0, Config.thresholdLow, Config.thresholdHigh]

theorem decodeImage_legal (b : List Byte) : Image.legal (decodeImage b) := by
  simp only [Image.legal, decodeImage, clampNat, Config.thresholdLow, Config.thresholdHigh]
  omega

/-- An output is off in a state whose outputs are blank. -/
theorem State.isOn_of_blank {s : State} (h : s.out = .blank) (o : Output) : s.isOn o = false := by
  simp only [State.isOn, State.resolved, State.channel, h]
  cases o <;> rfl

/-- A test value is NONE in a state whose outputs are blank. -/
theorem State.test_of_blank {s : State} (h : s.out = .blank) (o : Output) : (s.channel o).test = .none := by
  simp only [State.channel, h]
  cases o <;> rfl

/-- A job command is OFF in a state whose outputs are blank. -/
theorem State.job_of_blank {s : State} (h : s.out = .blank) (o : Output) : (s.channel o).job = .off := by
  simp only [State.channel, h]
  cases o <;> rfl

theorem State.outputsSafe_of_blank {s : State} (h : s.out = .blank) : s.outputsSafe := by
  refine ⟨?_, ?_, ?_⟩
  · simp [State.fanInterlock, State.isOn_of_blank h]
  · simp [State.valveInterlock, State.isOn_of_blank h]
  · simp [State.forcedOff, State.isOn_of_blank h]

section
variable (s : State)

theorem State.clearVolatile_starts : Starts s s.clearVolatile where
  pending := rfl
  safe _ := State.outputsSafe_of_blank rfl
  range := id
  budget held := ⟨Nat.zero_le _, held.2⟩
  bounded _ := Nat.zero_le _

theorem State.beginReset_starts (kind : ResetKind) : Starts s (s.beginReset kind) where
  pending := by unfold State.beginReset; dsimp only; split <;> rfl
  safe := by
    rintro ⟨fan, valve, off⟩
    have out : (s.beginReset kind).out = s.out := by unfold State.beginReset; dsimp only; split <;> rfl
    have on (o : Output) : (s.beginReset kind).isOn o = s.isOn o := by
      simp only [State.isOn, State.resolved, State.channel, out]
    refine ⟨?_, ?_, ?_⟩
    · simp only [State.fanInterlock, on]; exact fan
    · simp only [State.valveInterlock, on]; exact valve
    · by_cases powerOn : kind = .powerOn
      · subst powerOn; rfl
      · have classA : (s.beginReset kind).classA = s.classA := by simp [State.beginReset, powerOn, State.classA]
        simp only [State.forcedOff, on, classA]; exact off
  range := by
    rintro ⟨f, low, high, hours, image⟩
    have bound : Config.thresholdHigh ≤ 65535 := by decide
    unfold State.beginReset
    dsimp only
    split
    · refine ⟨?_, low, high, Nat.zero_le _, image⟩
      dsimp only [State.powerOnValues]; split <;> omega
    · refine ⟨?_, low, high, hours, image⟩
      dsimp only; split <;> omega
  budget := by unfold State.beginReset; dsimp only; split <;> exact id
  bounded := by unfold State.beginReset; dsimp only; split <;> exact id

theorem State.beginReset_flags {kind : ResetKind} (other : kind ≠ .powerOn) : KeepsFlags s (s.beginReset kind) :=
  .of_eq (by simp [State.beginReset, other]) (by simp [State.beginReset, other])

/-- F, T and the hour count at the entry to LISTEN lie in their ranges. -/
theorem State.listenBlocks_range (held : s.frostInRange) : s.listenBlocks.frostInRange := by
  obtain ⟨f, low, high, hours, imageLow, imageHigh⟩ := held
  have bound : Config.thresholdHigh ≤ 65535 := by decide
  have frost : s.listenBlocks.frost = s.listenFrost := rfl
  rw [State.frostInRange, frost]
  unfold State.listenFrost
  split
  · refine ⟨?_, imageLow, imageHigh, Nat.zero_le _, imageLow, imageHigh⟩
    dsimp only; omega
  · exact ⟨f, low, high, hours, imageLow, imageHigh⟩

/-- The own total at the entry to LISTEN is the baseline. -/
theorem State.listenBlocks_budget (held : s.image.baseline ≤ s.image.budget) : s.listenBlocks.withinBudget := by
  refine ⟨?_, held⟩
  simpa [State.ownTotal, State.listenBlocks, State.writeAll, State.listenShare, sumAmps] using held

/-- What the entry to LISTEN may touch after the blocks have their values. -/
def entryFacets : List Facet := resolveFacets ++ sampleFacets

/-- The resolution and the first samples of the entry to LISTEN. -/
theorem State.enterListen_touches : Touches entryFacets s.listenBlocks s.enterListen :=
  ((((State.resolve_touches _).mono.trans (State.takeSample_touches _ .evap).mono).trans
    (State.takeSample_touches _ .freezerAir).mono).trans (State.takeSample_touches _ .moldA).mono).trans
    (State.takeSample_touches _ .moldB).mono

theorem State.enterListen_starts : Starts s.listenBlocks s.enterListen := s.enterListen_touches.starts

/-- An entry to LISTEN keeps the invariants: it makes three of them, and the ranges hold as before it. -/
theorem State.enterListen_keeps : Starts s s.enterListen where
  pending := s.enterListen_starts.pending
  safe _ := s.enterListen_starts.safe (State.outputsSafe_of_blank rfl)
  range held := s.enterListen_starts.range (s.listenBlocks_range held)
  budget held := s.enterListen_starts.budget (s.listenBlocks_budget held.2)
  bounded _ := s.enterListen_starts.bounded (by decide : [statusFrame].length ≤ Config.queueCapacity)

theorem State.enterListen_flags : KeepsFlags s s.enterListen := fun f held =>
  s.enterListen_touches (.flag f) (by simp [entryFacets, resolveFacets, wordFacets, sampleFacets, channelFacets, heatingFacets,
    dripFacets, defrostEntryFacets, commandFacets, releaseFacets, offerFacets, sentFacets, endReportFacets, flagFacets,
    harvestsFacets]) held

theorem State.enterListen_tests (o : Output) : (s.enterListen.channel o).test = .none :=
  (s.enterListen_touches .tests (by decide) o).trans (State.test_of_blank rfl o)

theorem State.imageInPlace_touches (image : Image) (defaulted : Bool) :
    Touches flagFacets (State.enterListen { s with image := image }) (s.imageInPlace image defaulted) := by
  unfold State.imageInPlace; dsimp only; split
  · exact State.raiseB_touches _ rfl
  · exact .refl _ _

theorem State.imageInPlace_starts {image : Image} (legal : image.legal) (defaulted : Bool) : Starts s (s.imageInPlace image defaulted) := by
  have entered := State.enterListen_keeps { s with image := image }
  obtain ⟨threshold, baseline⟩ := legal
  have kept : Starts s (State.enterListen { s with image := image }) :=
    { pending := entered.pending
      safe := entered.safe
      range := fun ⟨f, low, high, hours, _⟩ => entered.range ⟨f, low, high, hours, threshold⟩
      budget := fun _ =>
        (State.enterListen_starts { s with image := image }).budget (State.listenBlocks_budget { s with image := image } baseline)
      bounded := entered.bounded }
  exact kept.trans (s.imageInPlace_touches image defaulted).starts

theorem State.imageInPlace_flags (image : Image) (defaulted : Bool) : KeepsFlags s (s.imageInPlace image defaulted) :=
  KeepsFlags.trans (State.enterListen_flags { s with image := image }) fun f held =>
    s.imageInPlace_touches image defaulted (.flag f) (by simp [flagFacets, wordFacets]) held

theorem State.imageInPlace_tests (image : Image) (defaulted : Bool) (o : Output) :
    ((s.imageInPlace image defaulted).channel o).test = .none :=
  (s.imageInPlace_touches image defaulted .tests (by decide) o).trans (State.enterListen_tests _ o)

/-- A change of the start-up block and of the image bytes keeps the invariants. -/
theorem Starts.ofRead (b : StartUp) (raw : List Byte) : Starts s { s with start := b, rawImage := raw } := ⟨rfl, id, id, id, id⟩

end
end Sys2Proof.Machine
end

section
/-! ### What a start leads to -/

namespace Sys2Proof.Machine

/-- The image load goes on, with the start-up block and the bytes held, or it ends in LISTEN with a legal image. -/
def LoadStep (s t : State) : Prop :=
  (∃ b raw, t = { s with start := b, rawImage := raw } ∧ (b.state = .listen → s.start.state = .listen)) ∨
    ∃ b raw image defaulted, Image.legal image ∧ t = State.imageInPlace { s with start := b, rawImage := raw } image defaulted

section
variable {s t : State}

theorem LoadStep.starts (h : LoadStep s t) : Starts s t := by
  obtain ⟨b, raw, rfl, -⟩ | ⟨b, raw, image, defaulted, legal, rfl⟩ := h
  · exact .ofRead s b raw
  · exact (Starts.ofRead s b raw).trans (State.imageInPlace_starts _ legal _)

theorem LoadStep.flags (h : LoadStep s t) : KeepsFlags s t := by
  obtain ⟨b, raw, rfl, -⟩ | ⟨b, raw, image, defaulted, -, rfl⟩ := h
  · exact .of_eq rfl rfl
  · exact (KeepsFlags.of_eq (t := { s with start := b, rawImage := raw }) rfl rfl).trans (State.imageInPlace_flags _ image defaulted)

/-- The test values stay, and LISTEN is not entered, or every one is NONE. -/
theorem LoadStep.tests (h : LoadStep s t) :
    ((t.start.state = .listen → s.start.state = .listen) ∧ ∀ o, (t.channel o).test = (s.channel o).test) ∨
      ∀ o, (t.channel o).test = .none := by
  obtain ⟨b, raw, rfl, listen⟩ | ⟨b, raw, image, defaulted, -, rfl⟩ := h
  · exact .inl ⟨listen, fun _ => rfl⟩
  · exact .inr (State.imageInPlace_tests _ image defaulted)

theorem State.imageFallback_load (s : State) (b : StartUp) (raw : List Byte) :
    LoadStep s (State.imageFallback { s with start := b, rawImage := raw }) :=
  .inr ⟨b, raw, _, true, builtinImage_legal _, rfl⟩

theorem State.enterImageLoad_load (s : State) : LoadStep s s.enterImageLoad := by
  unfold State.enterImageLoad; dsimp only; repeat' split
  · exact s.imageFallback_load _ s.rawImage
  · exact .inl ⟨_, s.rawImage, rfl, nofun⟩
  · exact .inr ⟨_, s.rawImage, _, false, builtinImage_legal _, rfl⟩

theorem State.readFails_load (s : State) : LoadStep s s.readFails := s.imageFallback_load _ s.rawImage

theorem State.goOnReading_load (s : State) (read : ImageRead) : LoadStep s (s.goOnReading read) := by
  unfold State.goOnReading; dsimp only; split
  · exact .inl ⟨_, s.rawImage, rfl, id⟩
  · exact .inl ⟨_, _, rfl, id⟩
  · exact s.readFails_load
  · split
    · exact .inr ⟨_, _, _, _, decodeImage_legal _, rfl⟩
    · exact s.imageFallback_load _ _

theorem LoadStep.refl (s : State) : LoadStep s s := .inl ⟨s.start, s.rawImage, rfl, id⟩

/-- What the own effect of a start command does. -/
structure StartEffect (c : Instr) (s t : State) : Prop where
  starts : Starts s t
  flags : (∀ straps n, c = .supplyGood straps n → s.start.mark = true) → KeepsFlags s t
  tests : ((t.start.state = .listen → s.start.state = .listen) ∧ (∀ lost, c ≠ .supplyFall lost) ∧
      ∀ o, (t.channel o).test = (s.channel o).test) ∨ ∀ o, (t.channel o).test = .none

theorem LoadStep.effect {c : Instr} (h : LoadStep s t) (other : ∀ lost, c ≠ .supplyFall lost) : StartEffect c s t where
  starts := h.starts
  flags _ := h.flags
  tests := h.tests.imp (fun ⟨listen, same⟩ => ⟨listen, other, same⟩) id

theorem Starts.setStraps (s : State) (straps : Straps) (n : Nat) : Starts s (s.setStraps straps n) := ⟨rfl, id, id, id, id⟩

theorem State.beginReset_out (s : State) (kind : ResetKind) : (s.beginReset kind).out = s.out := by
  unfold State.beginReset; dsimp only; split <;> rfl

theorem State.beginReset_start_state (s : State) (kind : ResetKind) : (s.beginReset kind).start.state = s.start.state := by
  unfold State.beginReset; dsimp only; split <;> rfl

theorem State.test_of_out {s t : State} (h : t.out = s.out) (o : Output) : (t.channel o).test = (s.channel o).test := by
  simp only [State.channel, h]

theorem State.supplyGood_effect (s : State) (straps : Straps) (n : Nat) :
    StartEffect (.supplyGood straps n) s (s.setStraps straps n).supplyGood := by
  unfold State.supplyGood
  split
  · exact
      { starts := ((Starts.setStraps s straps n).trans (State.beginReset_starts _ _)).trans (State.enterListen_keeps _)
        flags := fun _ => ((KeepsFlags.of_eq (t := s.setStraps straps n) rfl rfl).trans
          (State.beginReset_flags _ (kind := .brownOut) (by decide))).trans (State.enterListen_flags _)
        tests := .inr (State.enterListen_tests _) }
  · rename_i unmarked
    have load := State.enterImageLoad_load ((s.setStraps straps n).beginReset .powerOn)
    exact
      { starts := ((Starts.setStraps s straps n).trans (State.beginReset_starts _ _)).trans load.starts
        flags := fun marked => absurd (marked straps n rfl) unmarked
        tests := load.tests.imp (fun ⟨listen, same⟩ =>
          ⟨fun h => (State.beginReset_start_state (s.setStraps straps n) .powerOn).symm.trans (listen h), nofun,
            fun o => (same o).trans (State.test_of_out (State.beginReset_out _ _) o)⟩) id }

theorem State.restartReset_effect (s : State) (straps : Straps) (n : Nat) :
    StartEffect (.restartReset straps n) s (s.setStraps straps n).restartReset := by
  have load := State.enterImageLoad_load ((s.setStraps straps n).clearVolatile.beginReset .restart)
  exact
    { starts := (((Starts.setStraps s straps n).trans (State.clearVolatile_starts _)).trans (State.beginReset_starts _ _)).trans
        load.starts
      flags := fun _ => ((KeepsFlags.of_eq (t := (s.setStraps straps n).clearVolatile) rfl rfl).trans
        (State.beginReset_flags _ (kind := .restart) (by decide))).trans load.flags
      tests := .inr fun o => load.tests.elim
        (fun ⟨_, same⟩ => (same o).trans (State.test_of_blank (State.beginReset_out (s.setStraps straps n).clearVolatile _) o))
        fun none => none o }

/-- Every start command answers, and what its own effect does. -/
theorem effect_of_start {c : Instr} (h : c.isStart = true) (s : State) : ∃ t, Does c s t ∧ StartEffect c s t := by
  cases c
  case supplyFall lost =>
    exact ⟨_, rfl,
      { starts := s.clearVolatile_starts.trans (Starts.ofRead _ _ s.clearVolatile.rawImage)
        flags := fun _ => .of_eq rfl rfl
        tests := .inr (State.test_of_blank rfl) }⟩
  case supplyGood straps n =>
    refine ⟨_, rfl, ?_⟩
    split
    · exact s.supplyGood_effect straps n
    · exact (LoadStep.refl s).effect nofun
  case imageRead read =>
    refine ⟨_, rfl, ?_⟩
    split
    · exact (s.goOnReading_load read).effect nofun
    · exact (LoadStep.refl s).effect nofun
  case clockHeldLowTimeout =>
    refine ⟨_, rfl, ?_⟩
    split
    · exact s.readFails_load.effect nofun
    · exact (LoadStep.refl s).effect nofun
  case restartReset straps n =>
    refine ⟨_, rfl, ?_⟩
    split
    · exact s.restartReset_effect straps n
    · exact (LoadStep.refl s).effect nofun
  all_goals exact absurd h nofun

end

/-! ### The step -/

theorem State.settle_starts (s : State) (n : Nat) : Starts s (State.settle n s) := (s.settle_touches n).starts

/-- The facets that concern every command, whatever it may touch beside them. -/
theorem mem_extra {x : Facet} {m : OpMode} {c : Instr} (h : x ∈ extraFacets m c ++ anyFacets) (any : x ∉ anyFacets) :
    (x = .switches ∧ c.isSwitch = true) ∨
    (x ∈ ([.sensors, .own .evapTemp, .own .freezerAirTemp, .own .moldATemp, .own .moldBTemp] : List Facet) ∧ c.isSensor = true) ∨
    (x = .view ∧ (c.isFrame = true ∨ c.isAgeing = true)) ∨
    (x ∈ ([.mode, .own .mode, .tests] : List Facet) ∧ ∃ req, c = .setMode req) ∨
    (x ∈ lostFlags (clearable m) ∧ ∃ req, c = .clearFault req) ∨
    (x = .tests ∧ m = .service ∧ ∃ req, c = .testOutput req) ∨
    (x = .start ∧ c = .listenTimerExpiry) := by
  have mem : x ∈ extraFacets m c := (List.mem_append.mp h).resolve_right any
  unfold extraFacets at mem
  split at mem
  · exact .inl ⟨List.mem_singleton.mp mem, ‹_›⟩
  split at mem
  · exact .inr (.inl ⟨mem, ‹_›⟩)
  split at mem
  · exact .inr (.inr (.inl ⟨List.mem_singleton.mp mem, .inr ‹_›⟩))
  split at mem
  · obtain rfl | rest := List.mem_cons.mp mem
    · exact .inr (.inr (.inl ⟨rfl, .inl rfl⟩))
    · exact .inr (.inr (.inr (.inl ⟨rest, _, rfl⟩)))
  · obtain rfl | rest := List.mem_cons.mp mem
    · exact .inr (.inr (.inl ⟨rfl, .inl rfl⟩))
    · exact .inr (.inr (.inr (.inr (.inl ⟨rest, _, rfl⟩))))
  · obtain rfl | rest := List.mem_cons.mp mem
    · exact .inr (.inr (.inl ⟨rfl, .inl rfl⟩))
    · split at rest
      · exact .inr (.inr (.inr (.inr (.inr (.inl ⟨List.mem_singleton.mp rest, ‹_›, _, rfl⟩)))))
      · exact absurd rest List.not_mem_nil
  · exact .inr (.inr (.inr (.inr (.inr (.inr ⟨List.mem_singleton.mp mem, rfl⟩)))))
  · split at mem
    · exact .inr (.inr (.inl ⟨List.mem_singleton.mp mem, .inl ‹_›⟩))
    · exact absurd mem List.not_mem_nil

/-- Every command answers a next state; waiting commands and invariants are kept. -/
theorem exec_starts (c : Instr) (s : State) : ∃ t, exec c s = .next t ∧ Starts s t := by
  by_cases start : c.isStart = true
  · obtain ⟨t, does, effect⟩ := effect_of_start start s
    exact ⟨_, does, effect.starts.trans (t.settle_starts _)⟩
  · obtain ⟨t, does, touches⟩ := effect_of_not_start (Bool.eq_false_of_not_eq_true start) s
    have apart {x : Facet} (any : x ∉ anyFacets)
        (other : x ∈ ([.pending, .safe, .range, .budget, .bounded] : List Facet)) : x ∉ extraFacets s.mode c ++ anyFacets := by
      intro h
      have cases' := mem_extra h any
      simp only [List.mem_cons, List.not_mem_nil, or_false] at other
      obtain rfl | rfl | rfl | rfl | rfl := other <;> simp [lostFlags] at cases'
    exact ⟨_, does, (touches.starts (apart (by decide) (by simp)) (apart (by decide) (by simp)) (apart (by decide) (by simp))
      (apart (by decide) (by simp)) (apart (by decide) (by simp))).trans (t.settle_starts _)⟩

/-- A step keeps the invariants. -/
theorem step_keeps {P : State → Prop} {s t : State} (stable : ∀ u v, Starts u v → P u → P v)
    (waiting : ∀ u rest, P u → P { u with pending := rest }) (held : P s) (h : step s = .next t) : P t := by
  have command {c : Instr} {u : State} (hu : P u) (e : exec c u = .next t) : P t := by
    obtain ⟨v, does, starts⟩ := exec_starts c u
    rw [does] at e; cases e
    exact stable _ _ starts hu
  unfold step at h
  split at h
  · exact command (waiting s _ held) h
  · unfold idle at h
    repeat' split at h
    · cases h; exact stable _ _ s.lineSample_touches.starts held
    · exact command held h
    · cases h; exact stable _ _ (Touches.now (R := [.now]) s _).starts held
    · cases h; exact stable _ _ (s.settle_starts _) held

end Sys2Proof.Machine

open Sys2Proof Sys2Proof.Machine

/-- Settles O4: no command of any group stops the part, and none touches the queue of waiting commands. -/
theorem everyCommandCompletesAndKeepsTheQueue : Obligations.EveryCommandCompletesAndKeepsTheQueue := fun c s => by
  obtain ⟨t, does, starts⟩ := exec_starts c s
  exact ⟨t, does, starts.pending⟩

/-- Settles O5: every change that could breach the outputs' safety is followed by a resolution, which makes them safe from any state. -/
theorem outputInterlocksAndSafetyLayerKept : Obligations.OutputInterlocksAndSafetyLayerKept := fun _ _ =>
  step_keeps (fun _ _ h => h.safe) fun _ _ => id

/-- Settles O6: each writer of F, T and the hour count clamps it, and every image in place is legal. -/
theorem frostQuantitiesStayInRange : Obligations.FrostQuantitiesStayInRange := fun _ _ =>
  step_keeps (fun _ _ h => h.range) fun _ _ => id

/-- Settles O7: grants join only by the test of R66, and otherwise only leave. -/
theorem ownTotalStaysWithinTheBudget : Obligations.OwnTotalStaysWithinTheBudget := fun _ _ =>
  step_keeps (fun _ _ h => h.budget) fun _ _ => id

/-- Settles O8: a frame joins the queue only where there is room, or in the place of one that waited. -/
theorem transmitQueueHoldsAtMostSixFrames : Obligations.TransmitQueueHoldsAtMostSixFrames := fun _ _ =>
  step_keeps (fun _ _ h => h.bounded) fun _ _ => id

end

section
/-! ### What changes only by its own commands (O12 to O15) -/

namespace Sys2Proof.Machine

/-- A facet that no consequence and no group of commands touches is kept by every command but those with an exception of its own. -/
theorem exec_keeps {c : Instr} {s t : State} (h : c.isStart = false) (e : exec c s = .next t) {x : Facet} (any : x ∉ anyFacets)
    (event : x ∉ eventFacets) (extra : x ∉ extraFacets s.mode c) : x.kept s t := by
  obtain ⟨u, does, touches⟩ := effect_of_not_start h s
  rw [does] at e
  cases e
  exact x.kept_trans (touches x fun mem => (List.mem_append.mp mem).elim extra any) (u.settle_touches _ x event)

theorem not_mem_extra {x : Facet} {m : OpMode} {c : Instr} (any : x ∉ anyFacets)
    (none : ¬((x = .switches ∧ c.isSwitch = true) ∨
      (x ∈ ([.sensors, .own .evapTemp, .own .freezerAirTemp, .own .moldATemp, .own .moldBTemp] : List Facet) ∧ c.isSensor = true) ∨
      (x = .view ∧ (c.isFrame = true ∨ c.isAgeing = true)) ∨
      (x ∈ ([.mode, .own .mode, .tests] : List Facet) ∧ ∃ req, c = .setMode req) ∨
      (x ∈ lostFlags (clearable m) ∧ ∃ req, c = .clearFault req) ∨
      (x = .tests ∧ m = .service ∧ ∃ req, c = .testOutput req) ∨ (x = .start ∧ c = .listenTimerExpiry))) :
    x ∉ extraFacets m c := fun mem => none (mem_extra (List.mem_append_left _ mem) any)

theorem flag_not_mem (f : FaultId) : Facet.flag f ∉ anyFacets ∧ Facet.flag f ∉ eventFacets := by
  cases f <;> decide

theorem flag_mem_lost {m : OpMode} {f : FaultId} : Facet.flag f ∈ lostFlags (clearable m) ↔ ¬(f = .runaway ∧ m ≠ .service) := by
  simp [lostFlags, clearable, mem_faultIds]; tauto

end Sys2Proof.Machine

open Sys2Proof Sys2Proof.Machine

/-- Settles O12. -/
theorem imageAndModeChangeOnlyByTheirCommands : Obligations.ImageAndModeChangeOnlyByTheirCommands := fun c s t h e => by
  refine ⟨exec_keeps h e (x := .image) (by decide) (by decide) (not_mem_extra (by decide) (by simp [lostFlags])),
    exec_keeps h e (x := .rawImage) (by decide) (by decide) (not_mem_extra (by decide) (by simp [lostFlags])), fun other => ?_⟩
  exact exec_keeps h e (x := .mode) (by decide) (by decide) (not_mem_extra (by decide) (by simp [lostFlags, other]))

/-- Settles O13. -/
theorem viewSensorsAndSwitchesChangeOnlyByTheirCommands : Obligations.ViewSensorsAndSwitchesChangeOnlyByTheirCommands :=
  fun c s t h e =>
    ⟨fun frame ageing => exec_keeps h e (x := .view) (by decide) (by decide) (not_mem_extra (by decide) (by simp [lostFlags, frame, ageing])),
      fun sensor => exec_keeps h e (x := .sensors) (by decide) (by decide) (not_mem_extra (by decide) (by simp [lostFlags, sensor])),
      fun switch => exec_keeps h e (x := .switches) (by decide) (by decide) (not_mem_extra (by decide) (by simp [lostFlags, switch]))⟩

/-- Settles O14. -/
theorem classAFlagsStayUntilClearedOrPoweredOn : Obligations.ClassAFlagsStayUntilClearedOrPoweredOn :=
  fun c s t f _ held e marked other => by
    obtain ⟨any, event⟩ := flag_not_mem f
    by_cases start : c.isStart = true
    · obtain ⟨u, does, effect⟩ := effect_of_start start s
      rw [does] at e
      cases e
      exact u.settle_touches _ (.flag f) event (effect.flags marked f held)
    · refine exec_keeps (x := .flag f) (Bool.eq_false_of_not_eq_true start) e any event (not_mem_extra any ?_) held
      obtain plain | passedOver := other
      · simp [plain]
      · simp [flag_mem_lost, passedOver]

namespace Sys2Proof.Machine

/-- After a change of mode out of SERVICE every test value is NONE; otherwise the values stay. -/
theorem State.changeMode_tests (s : State) (new : OpMode) (o : Output) :
    ((s.changeMode new).channel o).test = if s.mode = .service then .none else (s.channel o).test := by
  have entered : Touches (.mode :: resolveFacets) s (State.resolve { s with mode := new }) :=
    (Touches.mode s new).trans (State.resolve_touches _).mono
  have after (t : State) : Touches (.own .mode :: eventFacets) t
      ((((t.enterMode new).leaveTest).holdTests).write .mode (new.code : Nat)) :=
    (((t.enterMode_touches new).mono.trans (State.leaveTest_touches _).mono).trans (State.holdTests_touches _).mono).trans
      (State.write_touches _ _ _).mono
  have exits : (((State.resolve { s with mode := new }).exitMode s.mode).channel o).test =
      if s.mode = .service then .none else (s.channel o).test := by
    cases h : s.mode
    case service =>
      rw [State.exitMode, State.clearTests, State.resolve_test]
      simp [State.channel, OutputChannel.untested]
    case showroom =>
      unfold State.exitMode State.startTestIdle
      dsimp only
      split
      · exact (State.startTest_touches _ .tests (by decide) o).trans (entered .tests (by decide) o)
      · exact entered .tests (by decide) o
    all_goals exact entered .tests (by decide) o
  exact (after _ .tests (by decide) o).trans exits

theorem State.changeMode_mode (s : State) (new : OpMode) : (s.changeMode new).mode = new := by
  have rest (t : State) : Touches (.own .mode :: .tests :: eventFacets) t
      ((((t.exitMode s.mode).enterMode new).leaveTest.holdTests).write .mode (new.code : Nat)) :=
    ((((t.exitMode_touches s.mode).mono.trans (State.enterMode_touches _ new).mono).trans (State.leaveTest_touches _).mono).trans
      (State.holdTests_touches _).mono).trans (State.write_touches _ _ _).mono
  exact (rest _ .mode (by decide)).trans (State.resolve_touches _ .mode (by decide))

/-- What SET_MODE makes of the test values: NONE at an exit from SERVICE. -/
theorem State.request_setMode_tests (s : State) (req : Request) (o : Output) :
    ((s.request kindSetMode req (State.actSetMode req)).channel o).test =
      if s.mode = .service ∧ (s.request kindSetMode req (State.actSetMode req)).mode ≠ .service then .none
      else (s.channel o).test := by
  obtain refused | ⟨-, answered⟩ := s.request_cases kindSetMode req (State.actSetMode req)
  · rw [refused .tests (by decide) o, refused .mode (by decide)]; simp
  · rw [answered .tests (by decide) o, answered .mode (by decide)]
    have heard := s.hears_touches req.src
    have tests := heard .tests (by decide) o
    have mode : (s.hears req.src).mode = s.mode := heard .mode (by decide)
    unfold State.actSetMode
    split
    · rw [tests, mode]; simp
    · rename_i new _
      dsimp only
      split
      · rw [tests, mode]; simp
      · rename_i changed
        rw [State.changeMode_tests, State.changeMode_mode, tests, mode]
        rw [mode] at changed
        by_cases service : s.mode = .service
        · rw [if_pos service, if_pos ⟨service, service ▸ changed⟩]
        · rw [if_neg service, if_neg fun h => service h.1]

end Sys2Proof.Machine

/-- Settles O15. -/
theorem testValuesChangeOnlyInServiceOrAtItsExit : Obligations.TestValuesChangeOnlyInServiceOrAtItsExit := by
  refine ⟨fun c s t h e mode test => ?_, fun req s t e o => ?_, fun c s t h e => ?_⟩
  · refine exec_keeps h e (x := .tests) (by decide) (by decide) (not_mem_extra (by decide) ?_)
    obtain other | outside := test
    · simp [lostFlags, mode, other]
    · simp [lostFlags, mode, outside]
  · obtain rfl : State.settle Config.settleBound (s.request kindSetMode req (State.actSetMode req)) = t := Host.Outcome.next.inj e
    have settled := State.settle_touches (s.request kindSetMode req (State.actSetMode req)) Config.settleBound
    rw [settled .tests (by decide) o, settled .mode (by decide)]
    exact s.request_setMode_tests req o
  · obtain ⟨u, does, effect⟩ := effect_of_start h s
    obtain rfl : State.settle Config.settleBound u = t := Host.Outcome.next.inj (does.symm.trans e)
    have settled := u.settle_touches Config.settleBound
    have tests (o : Output) : ((State.settle Config.settleBound u).channel o).test = (u.channel o).test := settled .tests (by decide) o
    obtain ⟨listen, other, same⟩ | none := effect.tests
    · refine ⟨.inl fun o => (tests o).trans (same o), ?_⟩
      rintro (⟨lost, rfl⟩ | ⟨before, after⟩)
      · exact absurd rfl (other lost)
      · rw [settled.start_state] at after; exact absurd (listen after) before
    · exact ⟨.inr fun o => (tests o).trans (none o), fun _ o => (tests o).trans (none o)⟩

end

/-! PROOF. The step and the state after reset: what a step does with and without a command waiting, and the values and invariants of reset (section 0.4, section 11.1). -/

section
namespace Sys2Proof.Machine

/-- With an empty queue a step is what time brings. -/
theorem step_of_pending_nil {s : State} (h : s.pending = []) : step s = idle s := by simp only [step, h]

theorem idle_of_agenda {s : State} (h : s.agenda ≠ []) : idle s = .next (State.settle Config.settleBound s) := by
  simp only [idle, List.isEmpty_iff, h, if_false]; rfl

theorem idle_of_sampleDue {s : State} (h : s.agenda = []) (due : s.sampleDue = true) : idle s = .next s.lineSample := by
  simp [idle, h, due]

theorem idle_of_dueCommand {s : State} (h : s.agenda = []) (due : s.sampleDue = false) {c : Instr} (e : s.dueCommand = some c) :
    idle s = exec c s := by
  simp [idle, h, due, e]

theorem idle_of_nothing_due {s : State} (h : s.agenda = []) (due : s.sampleDue = false) (e : s.dueCommand = none) :
    idle s = .next { s with now := s.now + 1 } := by
  simp only [idle, h, due, e, List.isEmpty_nil, if_true]; rfl

/-- A frame taken whole is the first event that is due. -/
theorem State.dueCommand_of_heard {s : State} (listening : s.listening = true) {chars : List Byte} {rest : List (List Byte)}
    (h : s.line.heard = chars :: rest) : s.dueCommand = some (commandHeard s.image.ownAddress chars false) := by
  have due : isDue s.now (s.heardDue, s.heardCommand) = true := by simp [isDue, State.heardDue, listening, h]
  have command : s.heardCommand = commandHeard s.image.ownAddress chars false := by simp [State.heardCommand, h]
  obtain ⟨later, first⟩ : ∃ later, s.dues = (s.heardDue, s.heardCommand) :: later := ⟨_, rfl⟩
  rw [State.dueCommand, first, List.find?_cons_of_pos due, ← command]; rfl

theorem State.reset_isOn (o : Output) : State.reset.isOn o = false := by cases o <;> rfl

end Sys2Proof.Machine

open Sys2Proof Sys2Proof.Machine

/-- Settles O1: every clause is a value of the reset state. -/
theorem resetIsPowerUpWithPowerOnValues : Obligations.ResetIsPowerUpWithPowerOnValues := by
  refine ⟨rfl, rfl, rfl, rfl, rfl, fun a => ?_, State.reset_isOn, rfl, rfl, rfl, rfl, rfl, fun m => ?_, rfl, rfl⟩
  · simp [State.record, State.reset]
  · cases m <;> exact MoldState.noConfusion

/-- Settles O2, by the step's definition. -/
theorem stepRunsTheFrontCommand : Obligations.StepRunsTheFrontCommand := fun _ _ _ => rfl

/-- Settles O3: the branches of `idle` in turn. -/
theorem stepWithoutCommandsBringsTime : Obligations.StepWithoutCommandsBringsTime := by
  intro s empty
  rw [step_of_pending_nil empty]
  exact ⟨idle_of_agenda, idle_of_sampleDue,
    fun h due listening _ _ e => idle_of_dueCommand h due (State.dueCommand_of_heard listening e),
    fun h due _ e => idle_of_dueCommand h due e, idle_of_nothing_due⟩

/-- Settles O9: each invariant is a fact about the numbers and outputs of the reset state. -/
theorem resetMeetsEveryInvariant : Obligations.ResetMeetsEveryInvariant := by
  refine ⟨⟨?_, ?_, rfl⟩, ?_, ?_, ?_⟩
  · simp [State.fanInterlock, State.reset_isOn]
  · simp [State.valveInterlock, State.reset_isOn]
  · unfold State.frostInRange; decide
  · unfold State.withinBudget; decide
  · unfold State.queueBounded; decide

/-- Settles O11, by reading the five characters: the frame of section 2.2, with its check, with another check, and at its sender. -/
theorem releaseFrameOnTheLineIsHeard : Obligations.ReleaseFrameOnTheLineIsHeard := by
  refine ⟨?_, ?_, ?_⟩ <;> decide +kernel

end

/-! PROOF. The grants to be shed (section 3.5). -/

section
namespace Sys2Proof.Machine

/-- While there is an excess one more grant is taken. -/
theorem shedPrefix_cons {excess : Nat} (h : 0 < excess) (g : KnownGrant) (l : List KnownGrant) :
    shedPrefix excess (g :: l) = g :: shedPrefix (excess - g.amps) l := by
  rw [shedPrefix]; omega

theorem shedPrefix_prefix (excess : Nat) (l : List KnownGrant) : shedPrefix excess l <+: l := by
  induction l generalizing excess with
  | nil => cases excess <;> exact List.nil_prefix
  | cons g l ih =>
    cases excess with
    | zero => exact List.nil_prefix
    | succ n => exact List.cons_prefix_cons.mpr ⟨rfl, ih _⟩

/-- The grants taken reach the excess, unless they are the whole list. -/
theorem shedPrefix_covers (excess : Nat) (l : List KnownGrant) :
    excess ≤ sumAmps ((shedPrefix excess l).map KnownGrant.amps) ∨ shedPrefix excess l = l := by
  induction l generalizing excess with
  | nil => cases excess <;> exact .inr rfl
  | cons g l ih =>
    cases excess with
    | zero => exact .inl (Nat.zero_le _)
    | succ n =>
      rw [shedPrefix_cons (excess := n + 1) (by omega)]
      rcases ih (n + 1 - g.amps) with covers | whole
      · left; simp only [sumAmps_eq_sum, List.map_cons, List.sum_cons] at covers ⊢; omega
      · right; rw [whole]

/-- Without the last grant those taken stay below the excess. -/
theorem shedPrefix_shortest {excess : Nat} {l : List KnownGrant} (h : shedPrefix excess l ≠ []) :
    sumAmps ((shedPrefix excess l).dropLast.map KnownGrant.amps) < excess := by
  induction l generalizing excess with
  | nil => cases excess <;> exact absurd rfl h
  | cons g l ih =>
    cases excess with
    | zero => exact absurd rfl h
    | succ n =>
      rw [shedPrefix_cons (excess := n + 1) (by omega)]
      by_cases last : shedPrefix (n + 1 - g.amps) l = []
      · rw [last]; exact Nat.succ_pos n
      · have shorter := ih last
        rw [List.dropLast_cons_of_ne_nil last]
        simp only [sumAmps_eq_sum, List.map_cons, List.sum_cons] at shorter ⊢
        omega

end Sys2Proof.Machine

open Sys2Proof Sys2Proof.Machine

/-- Settles O37, by induction on the list in each of the three clauses. -/
theorem shedPrefixJustCoversTheExcess : Obligations.ShedPrefixJustCoversTheExcess :=
  fun excess l _ => ⟨shedPrefix_prefix excess l, shedPrefix_covers excess l, shedPrefix_shortest⟩

end

/-! PROOF. The conversion of a reading (section 1.2, R8). -/

section
namespace Sys2Proof.Machine

theorem strictRise_tail {p : Nat × Int} {l : List (Nat × Int)} (h : strictRise (p :: l) = true) : strictRise l = true := by
  cases l with
  | nil => rfl
  | cons q l => simp only [strictRise, Bool.and_eq_true] at h; exact h.2

/-- In a rising table the first raw value is the least. -/
theorem strictRise_lt {p q : Nat × Int} {l : List (Nat × Int)} (h : strictRise (p :: l) = true) (mem : q ∈ l) : p.1 < q.1 := by
  induction l generalizing p with
  | nil => cases mem
  | cons r l ih =>
    have next : p.1 < r.1 := by simp only [strictRise, Bool.and_eq_true, decide_eq_true_eq] at h; exact h.1
    rcases List.mem_cons.mp mem with rfl | mem
    · exact next
    · exact next.trans (ih (strictRise_tail h) mem)

/-- A segment's line passes through its upper end. -/
theorem segment_at_end {r0 r1 : Nat} (h : r0 < r1) (t0 t1 : Int) :
    t0 + truncDiv (((r1 : Int) - r0) * (t1 - t0)) ((r1 : Int) - r0) = t1 := by
  rw [truncDiv, Int.mul_tdiv_cancel_left _ (by omega)]; omega

/-- The segments pass through the breakpoints. -/
theorem interpolate_at_breakpoint {l : List (Nat × Int)} {p : Nat × Int} (rise : strictRise l = true) (mem : p ∈ l) :
    interpolate l p.1 = p.2 := by
  induction l with
  | nil => cases mem
  | cons a l ih =>
    cases l with
    | nil => rw [List.mem_singleton.mp mem]; rfl
    | cons b l =>
      have first : a.1 < b.1 := strictRise_lt rise (.head l)
      rw [interpolate]
      rcases List.mem_cons.mp mem with rfl | mem
      · rw [if_pos first.le, Int.sub_self, Int.zero_mul]; simp [truncDiv]
      · by_cases low : p.1 ≤ b.1
        · have same : p = b := by
            rcases List.mem_cons.mp mem with e | tail
            · exact e
            · exact absurd (strictRise_lt (strictRise_tail rise) tail) (Nat.not_lt.mpr low)
          rw [if_pos low, same]; exact segment_at_end first a.2 b.2
        · rw [if_neg low]; exact ih (strictRise_tail rise) mem

end Sys2Proof.Machine

open Sys2Proof Sys2Proof.Machine

/-- Settles O47: the segments pass through the breakpoints, and the clamp leaves what lies in the sensor range. -/
theorem readingAtABreakpointIsItsTemperature : Obligations.ReadingAtABreakpointIsItsTemperature := by
  constructor
  · intro table p rise range mem
    obtain ⟨low, high⟩ := range p mem
    rw [convert, interpolate_at_breakpoint rise mem, clampInt]
    omega
  · intro table x
    simp only [convert, clampInt]
    omega

end

/-! PROOF. Frames as characters: what is written is read back (section 2.2), and the framer takes it from the line (section 2.1). -/

section
namespace Sys2Proof.Machine

/-! ### The two header characters -/

theorem headerOne_cls (cls kind : BitVec 3) : rev3 ((headerOne cls kind).extractLsb' 0 3) = cls := by
  revert cls kind; decide

theorem headerOne_kind (cls kind : BitVec 3) : kindOf (headerOne cls kind) = kind := by
  revert cls kind; decide

theorem rev4_rev4 (b : BitVec 4) : rev4 (rev4 b) = b := by
  revert b; decide

theorem headerTwo_source (source target : Addr) : sourceOf (headerTwo source target) = source := by
  have low : (headerTwo source target).extractLsb' 0 4 = rev4 source := BitVec.extractLsb'_append_eq_right
  rw [sourceOf, low, rev4_rev4]

theorem headerTwo_target (source target : Addr) : rev4 ((headerTwo source target).extractLsb' 4 4) = target := by
  have high : (headerTwo source target).extractLsb' 4 4 = rev4 target := BitVec.extractLsb'_append_eq_left
  rw [high, rev4_rev4]

/-! ### What fits -/

/-- The clauses of a frame that fits. -/
theorem Frame.fits_iff (f : Frame) :
    f.fits = true ↔ f.source ≠ 0 ∧ f.source ≠ 15 ∧ f.payload.length ≤ 16 ∧ payloadFits f.kind f.payload = true := by
  simp [Frame.fits, and_assoc]

/-- The length character says the length. -/
theorem toNat_length {p : List Byte} (h : p.length ≤ 16) : (BitVec.ofNat 8 p.length).toNat = p.length := by
  rw [BitVec.toNat_ofNat]; exact Nat.mod_eq_of_lt (by omega)

theorem Frame.chars_eq (f : Frame) :
    f.chars = headerOne f.cls f.kind :: headerTwo f.source f.target :: BitVec.ofNat 8 f.payload.length ::
      (f.payload ++ [crc8 f.body]) := rfl

theorem readFrame_chars {f : Frame} (h : f.fits = true) : readFrame f.chars = some f := by
  obtain ⟨-, -, short, -⟩ := f.fits_iff.mp h
  have check : crc8 (headerOne f.cls f.kind :: headerTwo f.source f.target :: BitVec.ofNat 8 f.payload.length :: f.payload) =
      crc8 f.body := rfl
  simp only [Frame.chars_eq, readFrame, toNat_length short, headerOne_cls, headerOne_kind, headerTwo_source, headerTwo_target,
    List.take_left, check]
  simp [h]

/-- Every entry of a grant list that fits has a legal class byte; beyond its end the default is one too. -/
theorem classByte_of_grantsFit {n : Nat} {l : List Byte} (h : grantsFit n l = true) {i : Nat} (lt : i < n) (k : Nat) :
    classByte ((l.take k).getD (2 * i) 0) = true := by
  have whole : classByte (l.getD (2 * i) 0) = true := by
    induction n generalizing l i with
    | zero => omega
    | succ n ih =>
      match l, h with
      | c :: a :: rest, h =>
        simp only [grantsFit, Bool.and_eq_true] at h
        cases i with
        | zero => exact h.1
        | succ i => simpa [Nat.mul_succ] using ih h.2 (Nat.lt_of_succ_lt_succ lt)
  rw [List.getD_eq_getElem?_getD] at whole ⊢
  by_cases below : 2 * i < k
  · rwa [List.getElem?_take_of_lt below]
  · rw [List.getElem?_take_eq_none (by omega)]; rfl

/-- The payload of a frame that fits has a length that fits. -/
theorem lengthFits_of_payloadFits {kind : BitVec 3} {p : List Byte} (short : p.length ≤ 16) (h : payloadFits kind p = true) :
    lengthFits kind p.length = true := by
  unfold payloadFits at h
  split at h
  · rename_i one
    rw [lengthFits, one]
    match p, h with
    | n :: rest, _ => simpa using short
  · exact (Bool.and_eq_true_iff.mp h).1
  · exact h

/-- A kind whose length fits is one of 1 to 6. -/
theorem kind_of_lengthFits {kind : BitVec 3} {n : Nat} (h : lengthFits kind n = true) : (kind == 0 || kind == 7) = false := by
  rw [Bool.or_eq_false_iff, beq_eq_false_iff_ne, beq_eq_false_iff_ne]
  constructor <;> rintro rfl <;> cases h

/-- No head of a payload that fits shows a condition on which its frame is discarded. -/
theorem payloadMisfits_take {kind : BitVec 3} {p : List Byte} (h : payloadFits kind p = true) (k : Nat) :
    payloadMisfits kind p.length (p.take k) = false := by
  unfold payloadFits at h
  split at h
  · rename_i one
    match p, k, h with
    | n :: rest, 0, _ => simp [payloadMisfits, one]
    | n :: rest, k + 1, h =>
      simp only [statusFits, Bool.and_eq_true, decide_eq_true_eq] at h
      obtain ⟨⟨few, all⟩, grants⟩ := h
      have legal : badClassSoFar n.toNat (rest.take k) = false := by
        rw [badClassSoFar, List.any_eq_false]
        intro i mem
        rw [classByte_of_grantsFit grants (List.mem_range.mp mem)]; decide
      simp only [payloadMisfits, one, List.take_succ_cons, legal, List.length_cons, Bool.or_false, Bool.or_eq_false_iff,
        decide_eq_false_iff_not]
      omega
  · rename_i two
    obtain ⟨-, legal⟩ := Bool.and_eq_true_iff.mp h
    have byte : classByte ((p.take k).getD 1 0) = true := by
      rw [List.getD_eq_getElem?_getD] at legal ⊢
      by_cases below : 1 < k
      · rwa [List.getElem?_take_of_lt below]
      · rw [List.getElem?_take_eq_none (by omega)]; rfl
    simp only [payloadMisfits, two, byte]; rfl
  · rename_i one two
    unfold payloadMisfits
    split
    · rename_i e _; exact absurd e one
    · rename_i e; exact absurd e two
    · rfl

/-! ### The heads of a frame, as the framer sees them (R32, R38) -/

/-- A head of a frame that fits shows no condition on which it is discarded. -/
theorem Frame.discardsSoFar_take {f : Frame} (h : f.fits = true) (k : Nat) : discardsSoFar (f.chars.take k) = false := by
  obtain ⟨low, high, short, fits⟩ := f.fits_iff.mp h
  have length := lengthFits_of_payloadFits short fits
  rw [Frame.chars_eq]
  match k with
  | 0 => rfl
  | 1 => simp only [List.take_succ_cons, List.take_zero, discardsSoFar, headerOne_kind]; exact kind_of_lengthFits length
  | 2 => exact (by simpa [discardsSoFar, headerTwo_source] using ⟨low, high⟩)
  | 3 => simp only [List.take_succ_cons, List.take_zero, discardsSoFar, headerOne_kind, toNat_length short, length]; rfl
  | k + 4 =>
    have some (c : Byte) (l : List Byte) : ((c :: l).take (k + 1)) ≠ [] := by simp
    have ne : (f.payload ++ [crc8 f.body]).take (k + 1) ≠ [] := by
      cases f.payload with
      | nil => exact some _ _
      | cons c l => exact some _ _
    have head : ((f.payload ++ [crc8 f.body]).take (k + 1)).take f.payload.length = f.payload.take (min f.payload.length (k + 1)) := by
      rw [List.take_take, List.take_append_of_le_length (Nat.min_le_left ..)]
    obtain ⟨c, l, e⟩ := List.exists_cons_of_ne_nil ne
    have cut : discardsSoFar (headerOne f.cls f.kind :: headerTwo f.source f.target :: BitVec.ofNat 8 f.payload.length :: c :: l) =
        payloadMisfits (kindOf (headerOne f.cls f.kind)) (BitVec.ofNat 8 f.payload.length).toNat
          ((c :: l).take (BitVec.ofNat 8 f.payload.length).toNat) := rfl
    rw [List.take_succ_cons, List.take_succ_cons, List.take_succ_cons, e, cut, headerOne_kind, toNat_length short, ← e, head]
    exact payloadMisfits_take fits _

/-- A head of a frame that fits reaches the expected length where it is the whole frame. -/
theorem Frame.expectedLength_take {f : Frame} (h : f.fits = true) {k : Nat} (le : k ≤ f.chars.length) :
    expectedLength (f.chars.take k) = decide (k = f.chars.length) := by
  obtain ⟨-, -, short, -⟩ := f.fits_iff.mp h
  rw [Frame.chars_eq] at le ⊢
  simp only [List.length_cons, List.length_append, List.length_nil] at le ⊢
  match k, le with
  | 0, _ | 1, _ | 2, _ => simp [expectedLength]
  | k + 3, le =>
    simp only [List.take_succ_cons, expectedLength, toNat_length short, List.length_take, List.length_append, List.length_cons,
      List.length_nil, decide_eq_decide]
    omega

/-! ### The framer on the levels of a character (R31, R32) -/

/-- The levels of a character, from the first data bit to the stop bit. -/
def charLevels (b : Byte) (stop : Bool) : List Bool := (List.range 8).map (fun k => b.getLsbD k) ++ [stop]

/-- The framer over the levels of a character, after its falling edge. -/
def Framer.takeChar (edge : Nat) (stop : Bool) (r : Framer) (b : Byte) : Framer :=
  (charLevels b stop).foldl (fun r level => r.sample level) (r.fall edge)

theorem charOf_levels (b : Byte) : charOf ((List.range 8).map fun k => b.getLsbD k) = b := by
  revert b; decide +kernel

/-- Data bits join the levels of the character in hand. -/
theorem Framer.sample_data (chars : List Byte) (edge : Nat) (bits levels : List Bool) (h : levels.length + bits.length ≤ 8) :
    bits.foldl (fun (r : Framer) level => r.sample level) (.character chars edge levels) =
      .character chars edge (levels ++ bits) := by
  induction bits generalizing levels with
  | nil => simp
  | cons b bits ih =>
    rw [List.length_cons] at h
    rw [List.foldl_cons, Framer.sample, if_pos (by omega), ih _ (by rw [List.length_append, List.length_singleton]; omega)]
    simp

/-- A character after its falling edge: taken with a recessive stop bit, the end of the framer's interest with a dominant one. -/
theorem Framer.takeChar_of_fall {r : Framer} {chars : List Byte} {edge : Nat} (h : r.fall edge = .character chars edge [])
    (stop : Bool) (b : Byte) : Framer.takeChar edge stop r b = if stop then .after (chars ++ [b]) else .gap := by
  rw [Framer.takeChar, charLevels, h, List.foldl_append, Framer.sample_data _ _ _ _ (by simp), List.nil_append]
  simp only [List.foldl_cons, List.foldl_nil, Framer.sample, charOf_levels]
  rfl

/-! ### The framer on a frame -/

/-- A head of a frame on an idle line, but the whole of it, leaves the framer ready for the next character. -/
theorem Frame.fall_take {f : Frame} (h : f.fits = true) (edge : Nat) {k : Nat} (lt : k < f.chars.length) :
    ((f.chars.take k).foldl (Framer.takeChar edge true) .start).fall edge = .character (f.chars.take k) edge [] := by
  induction k with
  | zero => rfl
  | succ k ih =>
    have before := Framer.takeChar_of_fall (ih (Nat.lt_of_succ_lt lt)) true f.chars[k]
    rw [List.take_concat_get' _ _ (Nat.lt_of_succ_lt lt), if_pos rfl] at before
    rw [← List.take_concat_get' _ _ (Nat.lt_of_succ_lt lt), List.foldl_append, List.foldl_cons, List.foldl_nil,
      List.take_concat_get' _ _ (Nat.lt_of_succ_lt lt), before, Framer.after, Frame.discardsSoFar_take h,
      Frame.expectedLength_take h lt.le, decide_eq_false lt.ne]
    rfl

/-- Character `k` of a frame after those before it. -/
theorem Frame.takeChar_take {f : Frame} (h : f.fits = true) (edge : Nat) {k : Nat} (lt : k < f.chars.length) (stop : Bool) :
    Framer.takeChar edge stop ((f.chars.take k).foldl (Framer.takeChar edge true) .start) f.chars[k] =
      if stop then .after (f.chars.take (k + 1)) else .gap := by
  rw [Framer.takeChar_of_fall (f.fall_take h edge lt), List.take_concat_get' _ _ lt]

/-- The framer takes a frame whole. -/
theorem Frame.foldl_takeChar {f : Frame} (h : f.fits = true) (edge : Nat) :
    f.chars.foldl (Framer.takeChar edge true) .start = .whole f.chars := by
  have pos : f.chars.length - 1 < f.chars.length := by rw [Frame.chars_eq]; simp
  have last := f.takeChar_take h edge pos true
  have all : f.chars.take (f.chars.length - 1) ++ [f.chars[f.chars.length - 1]] = f.chars := by
    rw [List.take_concat_get' _ _ pos, Nat.sub_add_cancel (by omega), List.take_length]
  rw [Nat.sub_add_cancel (by omega), List.take_length, if_pos rfl, Framer.after] at last
  have whole := f.expectedLength_take h (Nat.le_refl _)
  have keeps := f.discardsSoFar_take h f.chars.length
  rw [List.take_length] at whole keeps
  rw [keeps, whole, decide_eq_true rfl] at last
  rw [← all, List.foldl_append, all]
  exact last

end Sys2Proof.Machine

open Sys2Proof Sys2Proof.Machine

/-- Settles O10: the header characters name the fields they were made from, and no head of a frame that fits is discarded or whole. -/
theorem framesReadBackAsTheyAreWritten : Obligations.FramesReadBackAsTheyAreWritten := by
  intro f h levels takes
  refine ⟨readFrame_chars h, fun edge => ⟨f.foldl_takeChar h edge, fun k lt => ?_⟩⟩
  rw [List.getD_eq_getElem _ _ lt]
  exact f.takeChar_take h edge lt false

end

/-! PROOF. The shape of a statement `Does c s t`, and what TRANSMISSION_START, STATUS_PERIOD_EXPIRY, the changes of a switch input, the phase timers and the notice repeat do (sections 2.1, 2.3, 1.3, 8.3, 9.2). -/

section
namespace Sys2Proof.Machine

/-! ### `Does` -/

/-- A command does what its own effect is, named in another way. -/
theorem does_of_eq {c : Instr} {s u t : State} (run : exec c s = u.done) (e : u = t) : Does c s t := by rw [Does, run, e]; rfl

/-- The expiry of a timer that runs. -/
theorem does_expiry {c : Instr} {s t : State} {timer : Timer} {act : State → State} {d : Nat}
    (run : exec c s = (onExpiry timer act s).done) (due : timer = some d) (e : act (s.atMoment d) = t) : Does c s t :=
  does_of_eq run (by rw [due, onExpiry_some]; exact e)

/-- Before LISTEN a command answers its own effect. -/
theorem next_of_not_listening {c : Instr} {s u t : State} (run : exec c s = u.done) (e : u = t) (before : t.listening = false) :
    exec c s = .next t := by
  rw [run, e, State.done, State.settle_of_not_listening _ _ before]

/-! ### STATUS assembly (R44) -/

theorem ownTags_nodup : ownTags.Nodup := by decide

theorem State.publishTags_nodup (s : State) : s.publishTags.Nodup := ownTags_nodup.filter _

theorem State.mem_publishTags {s : State} {t : OwnTag} (h : t ∈ s.publishTags) : s.image.publish[t.idx] = true :=
  (List.mem_filter.mp h).2

theorem rotate_nodup {tags : List OwnTag} (h : tags.Nodup) (point : Option OwnTag) : (rotate tags point).Nodup := by
  cases point with
  | none => exact h
  | some p =>
    refine (h.filter _).append (h.filter _) fun t after before => ?_
    have gt := of_decide_eq_true (List.mem_filter.mp after).2
    have le := of_decide_eq_true (List.mem_filter.mp before).2
    omega

theorem rotate_subset (tags : List OwnTag) (point : Option OwnTag) : rotate tags point ⊆ tags := by
  cases point with
  | none => exact List.Subset.refl _
  | some p => exact List.append_subset.mpr ⟨List.filter_subset_self _, List.filter_subset_self _⟩

/-- The tags that an assembly carries. -/
def State.carried (s : State) : List OwnTag := s.changedPart ++ s.rotationPart

theorem State.changedPart_subset (s : State) : s.changedPart ⊆ s.publishTags :=
  List.Subset.trans (List.take_subset _ _) (List.filter_subset_self _)

theorem State.rotationPart_subset (s : State) : s.rotationPart ⊆ s.publishTags :=
  List.Subset.trans (List.take_subset _ _) (List.Subset.trans (List.filter_subset_self _) (rotate_subset _ _))

theorem State.carried_subset (s : State) : s.carried ⊆ s.publishTags :=
  List.append_subset.mpr ⟨s.changedPart_subset, s.rotationPart_subset⟩

/-- The rotation leaves out what the changed part carries. -/
theorem State.not_mem_changedPart {s : State} {t : OwnTag} (h : t ∈ s.rotationPart) : t ∉ s.changedPart := by
  have kept := (List.mem_filter.mp (List.mem_of_mem_take h)).2
  simpa using kept

theorem State.carried_nodup (s : State) : s.carried.Nodup :=
  ((s.publishTags_nodup.filter _).sublist (List.take_sublist _ _)).append
    (((rotate_nodup s.publishTags_nodup _).filter _).sublist (List.take_sublist _ _))
    fun _ changed rotated => State.not_mem_changedPart rotated changed

theorem State.carried_length_le (s : State) : s.carried.length ≤ itemRoom s.share.grants.length := by
  have changed : s.changedPart.length ≤ itemRoom s.share.grants.length := List.length_take_le ..
  have rotated : s.rotationPart.length ≤ itemRoom s.share.grants.length - s.changedPart.length := List.length_take_le ..
  rw [State.carried, List.length_append]; omega

theorem State.assembled_items (s : State) : s.assembled.items = s.carried.map fun t => (t, s.own t) := rfl

theorem State.assembled_tags (s : State) : s.assembled.items.map Prod.fst = s.carried := by
  rw [State.assembled_items, List.map_map]; exact List.map_id _

/-- Where the changed tags fit, they are all carried. -/
theorem State.mem_carried_of_changed {s : State} {tag : OwnTag}
    (fits : (s.publishTags.filter fun t => s.store.changed[t.idx]).length ≤ itemRoom s.share.grants.length)
    (published : tag ∈ s.publishTags) (changed : s.store.changed[tag.idx] = true) : tag ∈ s.carried := by
  have whole : s.changedPart = s.publishTags.filter fun t => s.store.changed[t.idx] := List.take_of_length_le fits
  rw [State.carried, whole]
  exact List.mem_append_left _ (List.mem_filter.mpr ⟨published, changed⟩)

/-! ### Offers (R41, R42, R53) -/

theorem State.offer_of_open {s : State} (h : s.queueOpen) (f : TxFrame) : s.offer f = s.enqueue f := by
  obtain ⟨notStuck, room⟩ := h
  simp [State.offer, notStuck, room]

theorem State.offer_of_full {s : State} (notStuck : s.line.mode ≠ .stuck) (full : s.line.full = true) (f : TxFrame) :
    s.offer f = s := by
  simp [State.offer, notStuck, full]

theorem State.offerStatus_of_stuck {s : State} (stuck : s.line.mode = .stuck) : s.offerStatus = s.sendStuck statusFrame := by
  simp [State.offerStatus, stuck]

theorem State.offerStatus_of_waiting {s : State} (notStuck : s.line.mode ≠ .stuck) (waits : s.line.waiting TxFrame.isStatus = true) :
    s.offerStatus = s := by
  simp [State.offerStatus, notStuck, waits]

theorem State.offerStatus_of_open {s : State} (h : s.queueOpen) (none : s.line.waiting TxFrame.isStatus = false) :
    s.offerStatus = s.enqueue statusFrame := by
  obtain ⟨notStuck, room⟩ := h
  simp [State.offerStatus, notStuck, none, room]

theorem State.offerStatus_of_full {s : State} (notStuck : s.line.mode ≠ .stuck) (none : s.line.waiting TxFrame.isStatus = false)
    (full : s.line.full = true) : s.offerStatus = { s with line := { s.line with statusOwed := true } } := by
  simp [State.offerStatus, notStuck, none, full]

/-! ### The start of a transmission (R33) -/

theorem State.maySend_of {s : State} {f : TxFrame} {rest : List TxFrame} (listening : s.listening = true)
    (driver : s.line.driver = true) (quiet : s.line.sendingFrame = none) (head : s.line.queue = f :: rest) : s.maySend = true := by
  simp [State.maySend, listening, driver, quiet, head]

/-- On an idle line on which the part may send, the head frame goes out. -/
theorem does_transmissionStart {s : State} (listening : s.listening = true) (idle : s.line.idle = true) (may : s.maySend = true) :
    Does .transmissionStart s s.startSending := by
  refine does_of_eq (u := if s.listening && s.idleOrNear then (if s.atIdle.maySend then s.atIdle.startSending else s.atIdle) else s)
    rfl ?_
  have here : s.atIdle = s := if_pos idle
  simp [listening, State.idleOrNear, idle, here, may]

theorem State.launched_of_not_status (s : State) {f : TxFrame} (h : f.isStatus = false) : s.launched f = { f with sending := true } := by
  unfold State.launched
  split
  · rename_i e; simp [TxFrame.isStatus, e] at h
  · rfl

theorem State.launched_of_status (s : State) {f : TxFrame} (h : f.isStatus = true) :
    s.launched f = { f with body := .status (some s.assembled), sending := true } := by
  unfold State.launched
  split
  · rfl
  · rename_i ne
    unfold TxFrame.isStatus at h
    split at h
    · exact absurd ‹_› (ne _)
    · cases h

/-- The line interface with the head frame on the line. -/
theorem State.startSending_cons {s : State} {f : TxFrame} {rest : List TxFrame} (head : s.line.queue = f :: rest) :
    s.startSending = { s with line := { (if f.isStatus then s.assemble else s).line with
      queue := s.launched f :: rest, idle := false, recessive := none, goodTimer := none
      txEnd := some (s.now + (s.launched f).duration), framer := .next [] } } := by
  unfold State.startSending
  rw [head]
  dsimp only
  cases f.isStatus <;> rfl

/-! ### The phase timers (R168) -/

/-- The next phase of a generator that runs: the off phase where the on phase is over or has no length, the on phase otherwise. -/
theorem nextPhase_of_running (p : GenParams) (now : Nat) {g : Generator} (h : g.phase ≠ .idle) :
    nextPhase p now g =
      if g.phase = .onPhase ∧ p.period - p.onLength ≠ 0 ∨ p.onLength = 0 ∧ p.period ≠ 0
      then { phase := .offPhase, timer := some (now + (p.period - p.onLength) * 1000) }
      else { phase := .onPhase, timer := some (now + p.onLength * 1000) } := by
  have enterOff : enterOffPhase p now = if p.period - p.onLength ≠ 0
      then { phase := .offPhase, timer := some (now + (p.period - p.onLength) * 1000) }
      else { phase := .onPhase, timer := some (now + p.onLength * 1000) } := by rw [ite_not]; rfl
  have enterOn : enterOnPhase p now = if p.onLength = 0 ∧ p.period ≠ 0
      then { phase := .offPhase, timer := some (now + (p.period - p.onLength) * 1000) }
      else { phase := .onPhase, timer := some (now + p.onLength * 1000) } := by
    by_cases none : p.onLength = 0
    · simp only [enterOnPhase, enterOff, none, Nat.sub_zero, true_and, if_true]
    · rw [enterOnPhase, if_neg none, if_neg fun both => none both.1]; rfl
  unfold nextPhase
  split
  · exact absurd ‹_› h
  · rename_i e; rw [enterOn]; simp [e]
  · rename_i e
    rw [enterOff]
    refine if_congr ⟨fun left => .inl ⟨e, left⟩, ?_⟩ rfl rfl
    rintro (⟨-, left⟩ | ⟨none, some⟩)
    · exact left
    · rwa [none]
  · rename_i e; rw [enterOn]; simp [e]

/-! ### The notice repeat (R173) -/

theorem FaultUnit.highestA_of_least {u : FaultUnit} {f : FaultId} (a : f.isA = true) (set : u.isSet f = true)
    (least : ∀ g : FaultId, g.isA = true → g.code < f.code → u.isSet g = false) : u.highestA = some f := by
  have lower (g : FaultId) (ga : g.isA = true) (lt : g.code < f.code) : u.isSet g = false := least g ga lt
  cases f
  case leak => simp [FaultUnit.highestA, classAFaults, set]
  case runaway => simp [FaultUnit.highestA, classAFaults, set, lower .leak rfl (by decide)]
  case overtemp => simp [FaultUnit.highestA, classAFaults, set, lower .leak rfl (by decide), lower .runaway rfl (by decide)]
  all_goals cases a

theorem FaultUnit.highestA_of_none {u : FaultUnit} (h : ∀ f : FaultId, f.isA = true → u.isSet f = false) : u.highestA = none := by
  simp [FaultUnit.highestA, classAFaults, h .leak rfl, h .runaway rfl, h .overtemp rfl]

/-- A NOTICE of class 0 offered to a queue that takes it stands in the place of one that waits. -/
theorem State.offerNotice_zero {s : State} (h : s.queueOpen) (code cls : Byte) :
    s.offerNotice 0 code cls = { s with line := { s.line with
      queue := insertFrame (newFrame 15 0 (.notice code cls)) (s.line.queue.filter fun g => !(g.isNotice && !g.sending)) } } := by
  obtain ⟨notStuck, room⟩ := h
  have mode : (s.line.mode == .stuck) = false := by simpa using notStuck
  unfold State.offerNotice
  simp only [mode, room]
  split
  · contradiction
  · split
    · rfl
    · rename_i none
      have all : s.line.queue.filter (fun g => !(g.isNotice && !g.sending)) = s.line.queue := by
        rw [List.filter_eq_self]
        intro g mem
        have one := none
        simp only [Line.waiting, List.any_eq_true, not_exists, not_and] at one
        cases notice : g.isNotice
        · rfl
        · simpa [notice] using one g mem
      rw [all]; rfl

/-! ### A new level of a switch input (R12 to R15, R124) -/

section
variable {s : State} {level was : Bool} {pin switch : State → State} {c : Instr}

theorem does_inputEdge (run : exec c s = (s.inputEdge was level pin switch).done) (new : was ≠ level)
    (listening : (pin s).listening = true) : Does c s (switch (pin s)) := by
  refine does_of_eq run ?_
  simp [State.inputEdge, new, listening]

theorem next_inputEdge (run : exec c s = (s.inputEdge was level pin switch).done) (same : was = level → pin s = s)
    (before : (pin s).listening = false) : exec c s = .next (pin s) := by
  refine next_of_not_listening run ?_ before
  by_cases e : was = level
  · simp [State.inputEdge, e, same e]
  · simp [State.inputEdge, e, before]
end

@[simp] theorem PerMold.set_get_self {α : Type} (p : PerMold α) (m : Mold) : p.set m (p.get m) = p := by
  cases m <;> rfl

end Sys2Proof.Machine

open Sys2Proof Sys2Proof.Machine

/-- Settles O22: the conditions of R33 let the head frame out, and the frame decides the line interface that follows. -/
theorem transmissionStartPutsTheHeadFrameOnTheLine : Obligations.TransmissionStartPutsTheHeadFrameOnTheLine := by
  intro f rest s listening idle driver quiet head
  refine ⟨s.startSending, does_transmissionStart listening idle (State.maySend_of listening driver quiet head), ?_⟩
  rw [State.startSending_cons head]
  refine ⟨rfl, rfl, fun status => ?_, fun other => ?_, s.launched f, rfl, rfl⟩
  · rw [State.launched_of_status s status, if_pos status, State.assembled_tags]; exact ⟨rfl, rfl⟩
  · rw [State.launched_of_not_status s other]

/-- Settles O23: the tags carried are tags of the publish set, without repeats, as many as fit. -/
theorem assembledStatusFitsItsFrame : Obligations.AssembledStatusFitsItsFrame := by
  intro s few
  refine ⟨rfl, ?_, fun q mem => ?_, s.assembled_tags ▸ s.carried_nodup, fun fits tag published changed => ?_⟩
  · have grants : s.assembled.grants.length = s.share.grants.length := List.length_map _
    have items : s.assembled.items.length = s.carried.length := List.length_map _
    have room : 3 * itemRoom s.share.grants.length ≤ 15 - 2 * s.share.grants.length := by rw [itemRoom]; omega
    have fit := s.carried_length_le
    omega
  · obtain ⟨t, carried, rfl⟩ := List.mem_map.mp (s.assembled_items ▸ mem)
    exact ⟨State.mem_publishTags (s.carried_subset carried), rfl⟩
  · rw [State.assembled_tags]; exact State.mem_carried_of_changed fits published changed

/-- Settles O26: the four branches of an offered STATUS. -/
theorem statusPeriodOffersAStatus : Obligations.StatusPeriodOffersAStatus := by
  intro d s due
  have run : exec .statusPeriodExpiry s =
    (onExpiry s.line.period (fun t => { t with line := { t.line with period := none } }.offerStatus) s).done := rfl
  refine ⟨fun free waits => ?_, fun free none room => ?_, fun free none full => ?_, fun stuck => ?_⟩
  · exact does_expiry run due (State.offerStatus_of_waiting free waits)
  · exact does_expiry run due (State.offerStatus_of_open ⟨free, decide_eq_false (Nat.not_le.mpr room)⟩ none)
  · exact does_expiry run due (State.offerStatus_of_full free none (decide_eq_true full))
  · refine ⟨_, does_expiry run due (State.offerStatus_of_stuck (s := { s.atMoment d with line := { s.line with period := .none } }) stuck), rfl, rfl, rfl⟩

/-- Settles O48: the pin, and in a listening part the input's timer. -/
theorem switchChangesStartAndStopTheirTimers : Obligations.SwitchChangesStartAndStopTheirTimers := by
  intro b m s wait
  refine ⟨fun listening => ⟨fun new => ?_, fun new => ?_, fun new => ?_, fun new => ?_, fun new => ?_⟩, fun before => ⟨?_, ?_, ?_, ?_, ?_⟩⟩
  · exact does_inputEdge (c := .binInputChange b) (s := s) rfl new listening
  · exact does_inputEdge (c := .homeSwitchChange m b) (s := s) rfl new listening
  · exact does_inputEdge (c := .leakInputChange b) (s := s) rfl new listening
  · exact does_inputEdge (c := .cutoutInputChange b) (s := s) rfl new listening
  · exact does_inputEdge (c := .paddleLineChange b) (s := s) rfl new listening
  · exact next_inputEdge (c := .binInputChange b) (s := s) rfl (fun e => by subst e; rfl) before
  · exact next_inputEdge (c := .homeSwitchChange m b) (s := s) rfl (fun e => by subst e; simp) before
  · exact next_inputEdge (c := .leakInputChange b) (s := s) rfl (fun e => by subst e; rfl) before
  · exact next_inputEdge (c := .cutoutInputChange b) (s := s) rfl (fun e => by subst e; rfl) before
  · exact next_inputEdge (c := .paddleLineChange b) (s := s) rfl (fun e => by subst e; rfl) before

/-- Settles O55: the next phase of a generator, and the NOTICE of the highest class A flag. -/
theorem phaseTimersAndNoticeRepeats : Obligations.PhaseTimersAndNoticeRepeats := by
  intro d n s
  refine ⟨fun due running => ?_, fun due _ room f a set least => ?_, fun due none => ?_⟩
  · refine does_expiry (act := fun t => t.phaseEnds n) rfl due ?_
    rw [State.phaseEnds]
    exact congrArg (fun g => { s.atMoment d with out := { s.out with gens := s.out.gens.set n g } }) (nextPhase_of_running _ _ running)
  · refine does_expiry rfl due ?_
    have highest : (s.atMoment d).fault.highestA = some f := FaultUnit.highestA_of_least a set least
    have offered := State.offerNotice_zero (s := s.atMoment d) room (BitVec.ofNat 8 f.code) 1
    rw [State.noticeRepeats, highest]
    simp only [State.announce, State.offerFaultNotice, offered]; rfl
  · refine does_expiry rfl due ?_
    have highest : (s.atMoment d).fault.highestA = .none := FaultUnit.highestA_of_none none
    rw [State.noticeRepeats, highest]; rfl

end

/-! PROOF. The ends of an attempt on the line (sections 2.1, 2.3), and the claims that are refused (sections 3.3, 3.4). -/

section
namespace Sys2Proof.Machine

/-! ### The frame in transmission, in its place -/

theorem State.sends.at {s : State} {pre post : List TxFrame} {f : TxFrame} (h : s.sends pre f post) (d : Nat) :
    (s.atMoment d).sends pre f post := h

/-- The frames that wait before and behind the one in transmission. -/
theorem State.sends.waits {s : State} {pre post : List TxFrame} {f : TxFrame} (h : s.sends pre f post) :
    (∀ g ∈ pre, g.sending = false) ∧ ∀ g ∈ post, g.sending = false :=
  ⟨fun g mem => h.2.2 g (List.mem_append_left _ mem), fun g mem => h.2.2 g (List.mem_append_right _ mem)⟩

theorem State.sends.sendingFrame {s : State} {pre post : List TxFrame} {f : TxFrame} (h : s.sends pre f post) :
    s.line.sendingFrame = some f := by
  obtain ⟨before, -⟩ := h.waits
  obtain ⟨queue, sending, -⟩ := h
  rw [Line.sendingFrame, queue, List.find?_append, List.find?_eq_none.mpr fun g mem => by simp [before g mem]]
  simp [sending]

/-- The first frame that a test finds, in its place. -/
theorem replaceFirst_append {p : TxFrame → Bool} {pre post : List TxFrame} {f : TxFrame} (before : ∀ g ∈ pre, p g = false)
    (here : p f = true) (new : Option TxFrame) : replaceFirst p new (pre ++ f :: post) = pre ++ new.toList ++ post := by
  induction pre with
  | nil => cases new <;> simp [replaceFirst, here]
  | cons g pre ih =>
    have apart : p g = false := before g (.head _)
    have rest := ih fun x mem => before x (.tail _ mem)
    cases new <;> simp [replaceFirst, apart, rest]

/-- The state after an attempt whose frame is replaced, or taken out. -/
theorem State.sends.endAttempt {s : State} {pre post : List TxFrame} {f : TxFrame} (h : s.sends pre f post) (new : Option TxFrame) :
    s.endAttempt new = { s with line := { s.line with queue := pre ++ new.toList ++ post, txEnd := none, clearing := [] } } := by
  rw [State.endAttempt, h.1, replaceFirst_append h.waits.1 h.2.1]

/-- Waiting frames of one sort leave the queue, but never the one in transmission. -/
theorem State.sends.filter {s : State} {pre post : List TxFrame} {f : TxFrame} (h : s.sends pre f post) (p : TxFrame → Bool) :
    s.line.queue.filter (fun g => !(p g && !g.sending)) =
      pre.filter (fun g => !p g) ++ f :: post.filter (fun g => !p g) := by
  have same (l : List TxFrame) (waits : ∀ g ∈ l, g.sending = false) :
      l.filter (fun g => !(p g && !g.sending)) = l.filter (fun g => !p g) :=
    List.filter_congr fun g mem => by rw [waits g mem]; cases p g <;> rfl
  rw [h.1, List.filter_append, List.filter_cons, same _ h.waits.1, same _ h.waits.2, h.2.1]
  simp

theorem State.sends.dropped {s : State} {pre post : List TxFrame} {f : TxFrame} (h : s.sends pre f post) (p : TxFrame → Bool) :
    State.sends { s with line := { s.line with queue := s.line.queue.filter fun g => !(p g && !g.sending) } }
      (pre.filter fun g => !p g) f (post.filter fun g => !p g) :=
  ⟨h.filter p, h.2.1, fun g mem => h.2.2 g (by
    rcases List.mem_append.mp mem with before | behind
    · exact List.mem_append_left _ (List.mem_of_mem_filter before)
    · exact List.mem_append_right _ (List.mem_of_mem_filter behind))⟩

/-- A waiting frame of a sort stands in the queue beside the one in transmission. -/
theorem State.sends.waiting {s : State} {pre post : List TxFrame} {f : TxFrame} (h : s.sends pre f post) (p : TxFrame → Bool) :
    s.line.waiting p = (pre ++ post).any p := by
  have same (l : List TxFrame) (waits : ∀ g ∈ l, g.sending = false) : l.any (fun g => p g && !g.sending) = l.any p := by
    rw [Bool.eq_iff_iff, List.any_eq_true, List.any_eq_true]
    exact exists_congr fun g => and_congr_right fun mem => by simp [waits g mem]
  rw [Line.waiting, h.1, List.any_append, List.any_cons, same _ h.waits.1, same _ h.waits.2, h.2.1, List.any_append]
  simp

/-- What the activity of the line touches. -/
theorem State.lineActivity_eq (s : State) : ∃ idle recessive goodTimer, s.lineActivity = { s with line := { s.line with
    framer := .gap, idle := idle, recessive := recessive, goodTimer := goodTimer } } := by
  unfold State.lineActivity
  dsimp only
  split
  · exact ⟨s.line.idle, s.line.recessive, s.line.goodTimer, rfl⟩
  · exact ⟨_, _, _, rfl⟩

/-! ### The kinds of frame -/

theorem TxFrame.status_of {f : TxFrame} (h : f.isStatus = true) : ∃ p, f.body = .status p := by
  unfold TxFrame.isStatus at h; split at h
  · exact ⟨_, ‹_›⟩
  · cases h

theorem TxFrame.notice_of {f : TxFrame} (h : f.isNotice = true) : ∃ code cls, f.body = .notice code cls := by
  unfold TxFrame.isNotice at h; split at h
  · exact ⟨_, _, ‹_›⟩
  · cases h

theorem TxFrame.claim_of {f : TxFrame} (h : f.isClaim = true) : ∃ tag cls amps, f.body = .claim tag cls amps := by
  unfold TxFrame.isClaim at h; split at h
  · exact ⟨_, _, _, ‹_›⟩
  · cases h

theorem TxFrame.isStatus_of {f : TxFrame} {p : Option StatusPayload} (h : f.body = .status p) : f.isStatus = true := by
  rw [TxFrame.isStatus, h]

theorem TxFrame.isClaim_of {f : TxFrame} {tag : Byte} {cls amps : Nat} (h : f.body = .claim tag cls amps) : f.isClaim = true := by
  rw [TxFrame.isClaim, h]

/-! ### A frame sent (R35, R44, R64) -/

/-- The marks that a STATUS sent clears. -/
theorem foldl_set_false (tags : List OwnTag) (v : Vector Bool 19) (t : OwnTag) :
    (tags.foldl (fun v u => v.set u.idx false) v)[t.idx] = (v[t.idx] && !tags.contains t) := by
  induction tags generalizing v with
  | nil => simp
  | cons u tags ih =>
    rw [List.foldl_cons, ih, List.contains_cons]
    by_cases e : t = u
    · subst e; simp
    · have apart : u.idx.val ≠ t.idx.val := fun k => e (OwnTag.idx_inj (Fin.ext k)).symm
      have other : (t == u) = false := by simpa using e
      simp [other, apart]

/-- What telling the block leaves of the line interface and the clock. -/
theorem State.reportSent_line (s : State) (f : TxFrame) : (s.reportSent f).now = s.now ∧ (s.reportSent f).line.queue = s.line.queue ∧
    (s.reportSent f).line.txEnd = s.line.txEnd ∧ (s.reportSent f).line.orderCount = s.line.orderCount := by
  unfold State.reportSent State.openClaim
  split
  · exact ⟨rfl, rfl, rfl, rfl⟩
  · split <;> exact ⟨rfl, rfl, rfl, rfl⟩
  · exact ⟨rfl, rfl, rfl, rfl⟩
  · exact ⟨rfl, rfl, rfl, rfl⟩

theorem State.reportSent_of_status {s : State} {f : TxFrame} (h : f.isStatus = true) :
    s.reportSent f = { s.clearMarks with line := { s.clearMarks.line with period := s.timer Config.statusPeriod } } := by
  obtain ⟨p, e⟩ := TxFrame.status_of h
  rw [State.reportSent, e]

theorem State.reportSent_of_claim {s : State} {f : TxFrame} (h : f.isClaim = true) : s.reportSent f = s.openClaim := by
  obtain ⟨_, _, _, e⟩ := TxFrame.claim_of h
  rw [State.reportSent, e]

theorem State.reportSent_store {s : State} {f : TxFrame} (h : f.isStatus = false) : (s.reportSent f).store = s.store := by
  unfold State.reportSent State.openClaim
  split
  · rename_i e; rw [TxFrame.isStatus_of e] at h; cases h
  · split <;> rfl
  · rfl
  · rfl

theorem State.reportSent_share {s : State} {f : TxFrame} (h : f.isClaim = false) : (s.reportSent f).share = s.share := by
  unfold State.reportSent
  split
  · rfl
  · rename_i e; rw [TxFrame.isClaim_of e] at h; cases h
  · rfl
  · rfl

/-- The frame in transmission has been sent. -/
theorem State.sends.frameSent {s : State} {pre post : List TxFrame} {f : TxFrame} (h : s.sends pre f post) :
    s.frameSent = (State.reportSent (State.countFrame
      { s with line := { s.line with queue := pre ++ post, txEnd := none } }) f).lineActivity := by
  rw [State.frameSent, h.sendingFrame, h.1]
  dsimp only
  rw [replaceFirst_append h.waits.1 h.2.1, Option.toList_none, List.append_nil]

/-! ### A failed attempt (R34, R35, R42, R68) -/

theorem TxFrame.returned_of_not_status {f : TxFrame} (h : f.isStatus = false) (retries : Nat) :
    f.returned retries = { f with retries := retries, sending := false } := by
  simp [TxFrame.returned, h]

theorem TxFrame.returned_of_status {f : TxFrame} (h : f.isStatus = true) (retries : Nat) :
    f.returned retries = { f with body := .status none, retries := retries, sending := false } := by
  simp [TxFrame.returned, h]

/-- A frame of no special kind waits again in its place. -/
theorem State.sends.keepFrame_plain {s : State} {pre post : List TxFrame} {f : TxFrame} (h : s.sends pre f post)
    (status : f.isStatus = false) (notice : f.isNotice = false)
    (claim : f.isClaim = true → ∀ c, s.share.flight = some c → c.cancelled = false) (retries : Nat) :
    s.keepFrame f retries = { s with line := { s.line with
      queue := pre ++ { f with retries := retries, sending := false } :: post, txEnd := none, clearing := [] } } := by
  have ended : s.endAttempt (some (f.returned retries)) = { s with line := { s.line with
      queue := pre ++ { f with retries := retries, sending := false } :: post, txEnd := none, clearing := [] } } := by
    rw [h.endAttempt, TxFrame.returned_of_not_status status, Option.toList_some, List.append_assoc]; rfl
  unfold State.keepFrame
  simp only [status, notice, Bool.false_eq_true, if_false, ended]
  split
  · rename_i isClaim
    unfold State.dropCancelledClaim
    split
    · rename_i c flight
      rw [if_neg (by simp [claim isClaim c flight])]
    · rfl
  · rfl

/-- A STATUS waits again without its content, alone. -/
theorem State.sends.keepFrame_status {s : State} {pre post : List TxFrame} {f : TxFrame} (h : s.sends pre f post)
    (status : f.isStatus = true) (retries : Nat) :
    s.keepFrame f retries = { s with line := { s.line with
      queue := pre.filter (fun g => !g.isStatus) ++ { f with body := .status none, retries := retries, sending := false } ::
        post.filter (fun g => !g.isStatus)
      txEnd := none, clearing := [] } } := by
  obtain ⟨p, e⟩ := TxFrame.status_of status
  have notice : f.isNotice = false := by rw [TxFrame.isNotice, e]
  have claim : f.isClaim = false := by rw [TxFrame.isClaim, e]
  have alone := State.sends.endAttempt (h.dropped TxFrame.isStatus) (some (f.returned retries))
  unfold State.keepFrame
  simp only [status, notice, claim, Bool.false_eq_true, if_false, if_true]
  rw [State.dropWaitingStatus, alone, TxFrame.returned_of_status status, Option.toList_some, List.append_assoc]; rfl

/-- A NOTICE waits again in place of a second one, unless one of class 0 waits. -/
theorem State.sends.keepFrame_notice {s : State} {pre post : List TxFrame} {f : TxFrame} (h : s.sends pre f post)
    (notice : f.isNotice = true) (retries : Nat) :
    s.keepFrame f retries = { s with line := { s.line with
      queue := if (pre ++ post).any (fun g => g.isNotice && g.cls == 0) then pre ++ post
        else pre.filter (fun g => !g.isNotice) ++ { f with retries := retries, sending := false } :: post.filter (fun g => !g.isNotice)
      txEnd := none, clearing := [] } } := by
  obtain ⟨_, _, e⟩ := TxFrame.notice_of notice
  have status : f.isStatus = false := by rw [TxFrame.isStatus, e]
  have alone := State.sends.endAttempt (h.dropped TxFrame.isNotice) (some (f.returned retries))
  rw [State.keepFrame, if_pos notice, State.keepNotice, Line.noticeStands, h.waiting]
  split
  · rw [h.endAttempt, Option.toList_none, List.append_nil]
  · rw [State.dropWaitingNotice, alone, TxFrame.returned_of_not_status status, Option.toList_some, List.append_assoc]; rfl

/-- The CLAIM of a cancelled claim leaves the queue, and the claim in flight ends. -/
theorem State.sends.keepFrame_cancelled {s : State} {pre post : List TxFrame} {f : TxFrame} (h : s.sends pre f post) {c : Claim}
    (claim : f.isClaim = true) (flight : s.share.flight = some c) (cancelled : c.cancelled = true) (late : c.lateAsk = none)
    (retries : Nat) :
    s.keepFrame f retries = { s with
      line := { s.line with queue := (pre ++ post).filter (fun g => !g.isClaim), txEnd := none, clearing := [] }
      share := { s.share with flight := none } } := by
  obtain ⟨_, _, _, e⟩ := TxFrame.claim_of claim
  have status : f.isStatus = false := by rw [TxFrame.isStatus, e]
  have notice : f.isNotice = false := by rw [TxFrame.isNotice, e]
  have waits : ({ f with retries := retries, sending := false } : TxFrame).isClaim = true := claim
  unfold State.keepFrame
  simp only [status, notice, claim, Bool.false_eq_true, if_false, if_true]
  rw [h.endAttempt, TxFrame.returned_of_not_status status, State.dropCancelledClaim]
  simp only [flight, cancelled, if_true, State.endFlight, late]
  simp [waits]

/-- A STATUS tried four times leaves the queue, and the period timer restarts. -/
theorem State.sends.giveUp_status {s : State} {pre post : List TxFrame} {f : TxFrame} (h : s.sends pre f post)
    (status : f.isStatus = true) :
    s.giveUp f = { s with line := { s.line with
      queue := pre.filter (fun g => !g.isStatus) ++ post.filter (fun g => !g.isStatus), txEnd := none, clearing := []
      period := some (s.now + 1000000) } } := by
  obtain ⟨p, e⟩ := TxFrame.status_of status
  have alone := State.sends.endAttempt (h.dropped TxFrame.isStatus) none
  rw [Option.toList_none, List.append_nil] at alone
  rw [State.giveUp, if_pos status, State.dropWaitingStatus, alone, State.reportNotSent, e]; rfl

/-- Any other frame tried four times leaves the queue, and its block is told. -/
theorem State.sends.giveUp_other {s : State} {pre post : List TxFrame} {f : TxFrame} (h : s.sends pre f post)
    (status : f.isStatus = false) :
    s.giveUp f =
      State.reportNotSent { s with line := { s.line with queue := pre ++ post, txEnd := none, clearing := [] } } f := by
  rw [State.giveUp, status, if_neg (by decide), h.endAttempt, Option.toList_none, List.append_nil]

theorem State.reportNotSent_of_claim {s : State} {f : TxFrame} (h : f.isClaim = true) {c : Claim} (flight : s.share.flight = some c) :
    s.reportNotSent f = if c.cancelled then s.endFlight else s.refuseClaim c false := by
  obtain ⟨_, _, _, e⟩ := TxFrame.claim_of h
  rw [State.reportNotSent, e]; dsimp only; rw [flight]

theorem State.reportNotSent_of_plain {s : State} {f : TxFrame} (status : f.isStatus = false) (claim : f.isClaim = false) :
    ∃ restart, s.reportNotSent f = { s with start := { s.start with restart := restart } } ∧
      ∀ k q r b, f.body = .answer k q r b true → restart = .due := by
  unfold State.reportNotSent
  split
  · rename_i e; rw [TxFrame.isStatus_of e] at status; cases status
  · rename_i e; rw [TxFrame.isClaim_of e] at claim; cases claim
  · exact ⟨.due, rfl, fun _ _ _ _ _ => rfl⟩
  · rename_i ne; exact ⟨s.start.restart, rfl, fun k q r b e => absurd e (ne k q r b)⟩

/-! ### A refused claim (R67, R69) -/

theorem State.refuseClaim_ordinary {s : State} {c : Claim} (op : c.op ≠ .dh) (ordinary : c.reclaim = false) :
    s.refuseClaim c false = { s with share := { s.share with
      flight := none
      queue := insertEntry
        { op := c.op, cls := c.op.baseClass, amps := c.nextAsk.getD c.amps, asked := c.asked
          retryAt := some (s.now + 2000000 + 250000 * s.image.ownAddress.toNat), reclaim := false } s.share.queue } } := by
  unfold State.refuseClaim State.countRefusal State.requeue
  simp only [Bool.false_eq_true, if_false, if_neg op, ordinary]
  cases h : c.op
  · exact absurd h op
  all_goals rfl

theorem State.refuseClaim_reclaim {s : State} {c : Claim} (op : c.op ≠ .dh) (again : c.reclaim = true) :
    s.refuseClaim c false = { s with share := { s.share with
      flight := none
      suspended := s.share.suspended.map fun r => if r.op = c.op then { r with amps := c.nextAsk.getD r.amps } else r
      reclaim := some (s.now + 5000000) } } := by
  unfold State.refuseClaim State.countRefusal State.requeue
  simp only [Bool.false_eq_true, if_false, if_neg op, again, if_true]
  rfl

/-- An ask leaves the refusal count, and with no claim in flight it makes none. -/
theorem State.ask_share {s : State} (op : LoadOp) (amps : Nat) (flight : s.share.flight = none) :
    (s.ask op amps).share.flight = none ∧ (s.ask op amps).share.dhRefusals = s.share.dhRefusals := by
  have place (t : State) (none : t.share.flight = .none) :
      (t.placeAsk op amps).share.flight = .none ∧ (t.placeAsk op amps).share.dhRefusals = t.share.dhRefusals := by
    have no : t.flightOf op = .none := by rw [State.flightOf, none]
    cases queued : t.entryOf op <;> cases suspended : t.suspensionOf op
    all_goals simp [State.placeAsk, State.enqueueClaim, no, queued, suspended, none]
  have class_ : s.reevaluateDh.share.flight = none ∧ s.reevaluateDh.share.dhRefusals = s.share.dhRefusals := by
    unfold State.reevaluateDh
    dsimp only
    split
    · split <;> exact ⟨flight, rfl⟩
    · exact ⟨flight, rfl⟩
  unfold State.ask
  split
  · exact ⟨flight, rfl⟩
  · split
    · exact ⟨flight, rfl⟩
    · dsimp only
      split
      · exact ⟨(place _ class_.1).1, (place _ class_.1).2.trans class_.2⟩
      · exact place s flight

theorem State.dhRefused_share {s : State} (n : Nat) (flight : s.share.flight = none) :
    (s.dhRefused n).share.flight = none ∧ (s.dhRefused n).share.dhRefusals = s.share.dhRefusals := by
  unfold State.dhRefused
  dsimp only
  split
  · split
    · exact ⟨flight, rfl⟩
    · exact State.ask_share (s := { s with defrost := _ }) .dh _ flight
  · exact ⟨flight, rfl⟩

theorem State.countRefusal_dh (s : State) :
    (s.countRefusal .dh).share.flight = s.share.flight ∧ (s.countRefusal .dh).share.dhRefusals = min 255 (s.share.dhRefusals + 1) := by
  rw [State.countRefusal, if_pos rfl, State.reevaluateDh]
  dsimp only
  split
  · split <;> exact ⟨rfl, rfl⟩
  · exact ⟨rfl, rfl⟩

theorem State.requeue_share (s : State) (c : Claim) :
    (s.requeue c).share.flight = s.share.flight ∧ (s.requeue c).share.dhRefusals = s.share.dhRefusals := by
  unfold State.requeue
  split <;> exact ⟨rfl, rfl⟩

/-- A refused DH claim: the claim in flight has ended, and the refusal is counted. -/
theorem State.refuseClaim_dh {s : State} {c : Claim} (op : c.op = .dh) :
    (s.refuseClaim c false).share.flight = none ∧ (s.refuseClaim c false).share.dhRefusals = min 255 (s.share.dhRefusals + 1) := by
  unfold State.refuseClaim
  simp only [Bool.false_eq_true, if_false, op, if_true]
  obtain ⟨flight, count⟩ := State.countRefusal_dh { s with share := { s.share with flight := none } }
  obtain ⟨flight', count'⟩ := State.requeue_share (State.countRefusal { s with share := { s.share with flight := none } } .dh) c
  obtain ⟨ended, counted⟩ := State.dhRefused_share (s := State.requeue
    (State.countRefusal { s with share := { s.share with flight := none } } .dh) c)
    (State.requeue (State.countRefusal { s with share := { s.share with flight := none } } .dh) c).share.dhRefusals (flight'.trans flight)
  exact ⟨ended, counted.trans (count'.trans count)⟩

/-- A line interface whose facets are kept is kept. -/
theorem Touches.line_eq {P : List Facet} {s t : State} (h : Touches P s t)
    (apart : autoParam (Facet.wire ∉ P ∧ Facet.queue ∉ P ∧ Facet.offers ∉ P ∧ Facet.clearing ∉ P) Rat.normalize._auto_1) :
    t.line = s.line := by
  obtain ⟨wire, queue, offers, clearing⟩ := apart
  have wireKept : WireKept s t := h .wire wire
  have queueKept : t.line.queue = s.line.queue := h .queue queue
  have clearingKept : t.line.clearing = s.line.clearing := h .clearing clearing
  obtain ⟨count, period, rotation, owed⟩ : t.line.orderCount = s.line.orderCount ∧ t.line.period = s.line.period ∧
    t.line.rotation = s.line.rotation ∧ t.line.statusOwed = s.line.statusOwed := h .offers offers
  rw [WireKept, queueKept, clearingKept, count, period, rotation, owed] at wireKept
  exact wireKept

/-- What a refusal that offers no RELEASE may touch. -/
theorem State.refuseClaim_unheard_touches (s : State) (c : Claim) :
    Touches [.flight, .claims, .suspended, .reclaim, .dhClass, .defrost] s (s.refuseClaim c false) := by
  have queued : Touches [.flight, .claims, .suspended, .reclaim, .dhClass, .defrost] s
      ((State.countRefusal { s with share := { s.share with flight := none } } c.op).requeue c) :=
    ((Touches.flight s none).trans (State.countRefusal_touches _ _).mono).trans (State.requeue_touches _ _).mono
  unfold State.refuseClaim
  dsimp only
  rw [if_neg Bool.false_ne_true]
  split
  · refine queued.trans ?_
    exact (State.dhRefused_touches _ _).mono
  · exact queued

/-! ### The end of the claim window (R66 to R68) -/

/-- A RELEASE offered outside STUCK joins the queue, if the queue has room. -/
theorem State.offerRelease_of_not_stuck {s : State} (h : s.line.mode ≠ .stuck) (tag : Byte) (cls : Nat) :
    s.offerRelease tag cls = { s with line := { s.line with
      queue := if s.line.queue.length < 6 then insertFrame (newFrame 15 cls (.release tag)) s.line.queue else s.line.queue } } := by
  have place : s.line.full = !decide (s.line.queue.length < 6) := by
    rw [Line.full, ← decide_not]; exact decide_eq_decide.mpr Nat.not_lt.symm
  rw [State.offerRelease]
  by_cases room : s.line.queue.length < 6
  · rw [if_pos room, State.offer_of_open ⟨h, by simp [place, room]⟩]; rfl
  · rw [if_neg room, State.offer_of_full h (by simp [place, room])]

/-- The expiry of the window of a claim in flight that is open. -/
theorem does_claimWindowExpiry {s t : State} {c : Claim} {stamp : Stamp} {d : Nat} (flight : s.share.flight = some c)
    (phase : c.phase = .opened stamp d)
    (e : (if c.cancelled then ((s.atMoment d).offerRelease c.tag c.cls).endFlight
      else if (s.atMoment d).admits c.cls c.amps stamp then (s.atMoment d).grantClaim c
      else ((s.atMoment d).offerRelease c.tag c.cls).refuseClaim c false) = t) : Does .claimWindowExpiry s t := by
  have due : s.windowEnd = some d := by simp only [State.windowEnd, flight, phase]
  have here : (s.atMoment d).share.flight = some c := flight
  refine does_expiry (act := State.decideClaim) rfl due ?_
  rw [← e, State.decideClaim, here]
  dsimp only
  rw [phase]; rfl

/-- What the model's test of a claim says (R66). -/
theorem State.admits_iff (s : State) (cls amps : Nat) (stamp : Stamp) : s.admits cls amps stamp = true ↔
    s.committed cls stamp + amps ≤ s.image.budget ∧ (s.line.island = true → s.ownClaimable + amps ≤ s.image.islandAllowance) := by
  rw [State.admits, Bool.and_eq_true, decide_eq_true_iff, Bool.or_eq_true, decide_eq_true_iff, Bool.not_eq_true']
  refine and_congr_right fun _ => ?_
  cases s.line.island <;> simp

/-- The claim in flight ends, and an ask that came while it was cancelled becomes an entry. -/
theorem State.endFlight_of_late {s : State} {c : Claim} (flight : s.share.flight = some c) {amps asked : Nat}
    (late : c.lateAsk = some (amps, asked)) :
    s.endFlight = { s with share := { s.share with
      flight := none
      queue := insertEntry
        { op := c.op, cls := if c.op = .dh then s.share.dhClass else c.op.baseClass, amps := amps, asked := asked
          retryAt := none, reclaim := false } s.share.queue } } := by
  simp only [State.endFlight, flight, late]
  cases h : c.op <;> rfl

theorem State.endFlight_of_not_late {s : State} {c : Claim} (flight : s.share.flight = some c) (late : c.lateAsk = none) :
    s.endFlight = { s with share := { s.share with flight := none } } := by
  simp only [State.endFlight, flight, late]

end Sys2Proof.Machine

open Sys2Proof Sys2Proof.Machine

/-- Settles O24: the frame in transmission is put back or taken out in its place, by its kind. -/
theorem failedAttemptKeepsOrDropsTheFrame : Obligations.FailedAttemptKeepsOrDropsTheFrame := by
  intro f pre post s sends without plain back again stands
  have lost : exec .lostArbitration s = (s.keepFrame f f.retries).done := by
    change s.loseArbitration.done = _
    rw [State.loseArbitration, sends.sendingFrame]
  have erred {t : State} (e : (if Config.maxTries ≤ f.retries + 1 then s.giveUp f else s.keepFrame f (f.retries + 1)) = t) :
      Does .bitError s t.lineActivity := by
    refine does_of_eq (u := if s.line.sendingFrame.isSome then s.bitError.lineActivity else s) rfl ?_
    rw [sends.sendingFrame, if_pos (by rfl), State.bitError, sends.sendingFrame]
    exact congrArg State.lineActivity e
  have waits {t : State} (few : f.retries < 3) (e : s.keepFrame f (f.retries + 1) = t) : Does .bitError s t.lineActivity :=
    erred ((if_neg (Nat.not_le.mpr (Nat.succ_lt_succ few))).trans e)
  have gives {t : State} (many : 3 ≤ f.retries) (e : s.giveUp f = t) : Does .bitError s t.lineActivity :=
    erred ((if_pos (Nat.succ_le_succ many)).trans e)
  refine ⟨fun h => ?_, fun h few => ?_, fun h claim many => ?_, fun status => ⟨?_, fun few => ?_, fun many => ?_⟩,
    fun notice => ⟨?_, fun few => ?_, fun many => ?_⟩, fun c claim flight => ⟨fun cancelled late => ⟨?_, fun few => ?_, fun many => ?_⟩,
    fun live many => ?_⟩⟩
  · obtain ⟨status, notice, claim⟩ := h
    exact ⟨_, does_of_eq lost (sends.keepFrame_plain status notice claim _), rfl, rfl, rfl, rfl⟩
  · obtain ⟨status, notice, claim⟩ := h
    refine ⟨_, waits few (sends.keepFrame_plain status notice claim _), ?_⟩
    obtain ⟨_, _, _, e⟩ := State.lineActivity_eq _
    rw [e]; exact ⟨rfl, rfl, rfl, rfl⟩
  · obtain ⟨status, -, -⟩ := h
    obtain ⟨restart, told, due⟩ := State.reportNotSent_of_plain
      (s := { s with line := { s.line with queue := pre ++ post, txEnd := none, clearing := [] } }) status claim
    refine ⟨_, gives many ((sends.giveUp_other status).trans told), ?_⟩
    obtain ⟨_, _, _, e⟩ := State.lineActivity_eq _
    rw [e]; exact ⟨rfl, rfl, rfl, rfl, due⟩
  · exact ⟨_, does_of_eq lost (sends.keepFrame_status status _), rfl, rfl, rfl⟩
  · refine ⟨_, waits few (sends.keepFrame_status status _), ?_⟩
    obtain ⟨_, _, _, e⟩ := State.lineActivity_eq _
    rw [e]; exact ⟨rfl, rfl⟩
  · refine ⟨_, gives many (sends.giveUp_status status), ?_⟩
    obtain ⟨_, _, _, e⟩ := State.lineActivity_eq _
    rw [e]; exact ⟨rfl, rfl, rfl⟩
  · exact ⟨_, does_of_eq lost (sends.keepFrame_notice notice _), rfl, rfl, rfl⟩
  · refine ⟨_, waits few (sends.keepFrame_notice notice _), ?_⟩
    obtain ⟨_, _, _, e⟩ := State.lineActivity_eq _
    rw [e]; exact ⟨rfl, rfl, rfl⟩
  · obtain ⟨_, _, body⟩ := TxFrame.notice_of notice
    obtain ⟨restart, told, -⟩ := State.reportNotSent_of_plain
      (s := { s with line := { s.line with queue := pre ++ post, txEnd := none, clearing := [] } }) (f := f)
      (by rw [TxFrame.isStatus, body]) (by rw [TxFrame.isClaim, body])
    refine ⟨_, gives many ((sends.giveUp_other (by rw [TxFrame.isStatus, body])).trans told), ?_⟩
    obtain ⟨_, _, _, e⟩ := State.lineActivity_eq _
    rw [e]; exact ⟨rfl, rfl⟩
  · exact ⟨_, does_of_eq lost (sends.keepFrame_cancelled claim flight cancelled late _), rfl, rfl⟩
  · refine ⟨_, waits few (sends.keepFrame_cancelled claim flight cancelled late _), ?_⟩
    obtain ⟨_, _, _, e⟩ := State.lineActivity_eq _
    rw [e]; exact ⟨rfl, rfl⟩
  · obtain ⟨_, _, _, body⟩ := TxFrame.claim_of claim
    have told := State.reportNotSent_of_claim
      (s := { s with line := { s.line with queue := pre ++ post, txEnd := none, clearing := [] } }) claim flight
    rw [if_pos cancelled] at told
    have ended := told.trans (State.endFlight_of_not_late flight late)
    refine ⟨_, gives many ((sends.giveUp_other (by rw [TxFrame.isStatus, body])).trans ended), ?_⟩
    obtain ⟨_, _, _, e⟩ := State.lineActivity_eq _
    rw [e]; exact ⟨rfl, rfl⟩
  · obtain ⟨_, _, _, body⟩ := TxFrame.claim_of claim
    have told := State.reportNotSent_of_claim
      (s := { s with line := { s.line with queue := pre ++ post, txEnd := none, clearing := [] } }) claim flight
    rw [if_neg (by simp [live])] at told
    have touches := State.refuseClaim_unheard_touches
      { s with line := { s.line with queue := pre ++ post, txEnd := none, clearing := [] } } c
    refine ⟨_, gives many ((sends.giveUp_other (by rw [TxFrame.isStatus, body])).trans told), ?_⟩
    obtain ⟨_, _, _, e⟩ := State.lineActivity_eq _
    rw [e]
    refine ⟨congrArg Line.queue touches.line_eq, ?_, touches .grants (by decide), fun op => (State.refuseClaim_dh op).2,
      fun op ordinary => ?_, fun op again => ?_⟩
    · by_cases op : c.op = .dh
      · exact (State.refuseClaim_dh op).1
      · cases reclaim : c.reclaim
        · rw [State.refuseClaim_ordinary op reclaim]
        · rw [State.refuseClaim_reclaim op reclaim]
    · rw [State.refuseClaim_ordinary op ordinary]
    · rw [State.refuseClaim_reclaim op again]

/-- Settles O25: what the end of the frame leaves, and what its block makes of it. -/
theorem frameSentTellsTheBlockThatQueuedIt : Obligations.FrameSentTellsTheBlockThatQueuedIt := by
  intro d f pre post s due sends
  have here : (s.atMoment d).sends pre f post := sends
  refine ⟨_, does_expiry rfl due here.frameSent, ?_⟩
  obtain ⟨_, _, _, e⟩ := State.lineActivity_eq (State.reportSent (State.countFrame
      { s.atMoment d with line := { (s.atMoment d).line with queue := pre ++ post, txEnd := none } }) f)
  rw [e]
  obtain ⟨now, queue, txEnd, count⟩ := State.reportSent_line (State.countFrame
      { s.atMoment d with line := { (s.atMoment d).line with queue := pre ++ post, txEnd := none } }) f
  refine ⟨now, queue, txEnd, count, fun status => ?_, fun other => State.reportSent_store other, fun claim c flight => ?_,
    fun other => State.reportSent_share other, fun k q r b body => ?_⟩
  · rw [State.reportSent_of_status status]
    exact ⟨rfl, fun tag => foldl_set_false _ _ _⟩
  · have inFlight : (State.countFrame
      { s.atMoment d with line := { (s.atMoment d).line with queue := pre ++ post, txEnd := none } }).share.flight = some c := flight
    rw [State.reportSent_of_claim claim, State.openClaim, inFlight]; rfl
  · rw [State.reportSent, body]

/-- Settles O36: a claim that is not granted ends with a RELEASE, and its operation is queued or kept by its kind. -/
theorem claimBeyondTheBudgetIsRefused : Obligations.ClaimBeyondTheBudgetIsRefused := by
  intro d c stamp s flight phase notStuck release u
  have released : (s.atMoment d).offerRelease c.tag c.cls = u := State.offerRelease_of_not_stuck (s := s.atMoment d) notStuck _ _
  have inFlight : u.share.flight = some c := flight
  refine ⟨fun cancelled late => ?_, fun amps asked cancelled late => ?_, fun live above => ?_⟩
  · refine does_claimWindowExpiry flight phase ?_
    rw [if_pos cancelled, released]
    exact State.endFlight_of_not_late inFlight late
  · refine does_claimWindowExpiry flight phase ?_
    rw [if_pos cancelled, released]
    exact State.endFlight_of_late inFlight late
  · have refused : (s.atMoment d).admits c.cls c.amps stamp = false := by
      rw [Bool.eq_false_iff, ne_eq, State.admits_iff, not_and]
      rintro within island
      rcases above with high | ⟨alone, high⟩
      · exact absurd within (Nat.not_le.mpr high)
      · exact absurd (island alone) (Nat.not_le.mpr high)
    have refuses {t : State} (e : u.refuseClaim c false = t) : Does .claimWindowExpiry s t := by
      refine does_claimWindowExpiry flight phase ?_
      rw [if_neg (by simp [live]), if_neg (by simp [refused]), released, e]
    refine ⟨fun op ordinary => refuses (State.refuseClaim_ordinary op ordinary),
      fun op again => refuses (State.refuseClaim_reclaim op again), fun op => ⟨_, refuses rfl, ?_⟩⟩
    have touches := State.refuseClaim_unheard_touches u c
    exact ⟨(State.refuseClaim_dh op).1, touches .grants (by decide), (State.refuseClaim_dh op).2, touches.line_eq,
      touches .view (by decide)⟩

end

/-! PROOF. Blocks put together again from the facets that they are made of, and what the operations of the defrost controller and the fault unit leave behind: the facts that the statements about single commands use. -/

section
namespace Sys2Proof.Machine

/-! ### Whole blocks -/

/-- A facet that is not touched is kept. -/
theorem Touches.at {P : List Facet} {s t : State} (h : Touches P s t) (x : Facet)
    (apart : autoParam (x ∉ P) Rat.normalize._auto_1) : x.kept s t := h x apart

/-- A share unit whose facets are kept is kept. -/
theorem Touches.share_eq {P : List Facet} {s t : State} (h : Touches P s t)
    (apart : autoParam (∀ x ∈ [Facet.grants, .claims, .flight, .tagCounter, .suspended, .reclaim, .shedDelay, .dhClass], x ∉ P)
      Rat.normalize._auto_1) : t.share = s.share := by
  have grants : t.share.grants = s.share.grants := h .grants (apart _ (by simp))
  have claims : t.share.queue = s.share.queue := h .claims (apart _ (by simp))
  have flight : t.share.flight = s.share.flight := h .flight (apart _ (by simp))
  have counter : t.share.tagCounter = s.share.tagCounter := h .tagCounter (apart _ (by simp))
  have suspended : t.share.suspended = s.share.suspended := h .suspended (apart _ (by simp))
  have reclaim : t.share.reclaim = s.share.reclaim := h .reclaim (apart _ (by simp))
  have delay : t.share.shedDelay = s.share.shedDelay := h .shedDelay (apart _ (by simp))
  obtain ⟨cls, refusals⟩ : t.share.dhClass = s.share.dhClass ∧ t.share.dhRefusals = s.share.dhRefusals := h .dhClass (apart _ (by simp))
  generalize t.share = y at *; generalize s.share = x at *
  cases y; cases x
  simp only at *; subst_vars; rfl

/-- A frost accountant whose facets are kept is kept. -/
theorem Touches.frost_eq {P : List Facet} {s t : State} (h : Touches P s t)
    (apart : autoParam (∀ x ∈ [Facet.frostF, .frostT, .hours, .gap, .hourTimer, .minute, .harvests], x ∉ P) Rat.normalize._auto_1) :
    t.frost = s.frost := by
  have f : t.frost.f = s.frost.f := h .frostF (apart _ (by simp))
  have threshold : t.frost.t = s.frost.t := h .frostT (apart _ (by simp))
  have hours : t.frost.hours = s.frost.hours := h .hours (apart _ (by simp))
  obtain ⟨gap, retry⟩ : t.frost.gap = s.frost.gap ∧ t.frost.retryTimer = s.frost.retryTimer := h .gap (apart _ (by simp))
  have hour : t.frost.hourTimer = s.frost.hourTimer := h .hourTimer (apart _ (by simp))
  have minute : Facet.kept .minute s t := h .minute (apart _ (by simp))
  obtain ⟨second, seconds, r, dz, dr, freezer, fridge⟩ := minute
  have harvests : t.frost.h = s.frost.h := h .harvests (apart _ (by simp))
  generalize t.frost = y at *; generalize s.frost = x at *
  cases y; cases x
  simp only at *; subst_vars; rfl

/-- An ice controller whose facets are kept is kept. -/
theorem Touches.ice_eq {P : List Facet} {s t : State} (h : Touches P s t)
    (apart : autoParam (∀ x ∈ [Facet.mold .a, .mold .b, .auger], x ∉ P) Rat.normalize._auto_1) : t.ice = s.ice := by
  have a : t.ice.molds.a = s.ice.molds.a := h (.mold .a) (apart _ (by simp))
  have b : t.ice.molds.b = s.ice.molds.b := h (.mold .b) (apart _ (by simp))
  obtain ⟨auger, timer⟩ : t.ice.auger = s.ice.auger ∧ t.ice.runTimer = s.ice.runTimer := h .auger (apart _ (by simp))
  generalize t.ice = y at *; generalize s.ice = x at *
  rcases y with ⟨⟨_, _⟩, _, _⟩; rcases x with ⟨⟨_, _⟩, _, _⟩
  simp only at *; subst_vars; rfl

/-- A water path whose facets are kept is kept. -/
theorem Touches.water_eq {P : List Facet} {s t : State} (h : Touches P s t)
    (apart : autoParam (∀ x ∈ [Facet.meter, .reservoir, .closed, .relaxation, .path, .fills, .dispense], x ∉ P) Rat.normalize._auto_1) :
    t.water = s.water := by
  have meter : Facet.kept .meter s t := h .meter (apart _ (by simp))
  obtain ⟨rate, pulses, opened, silence, estimate, allClosed, armed⟩ := meter
  obtain ⟨draw, tRes⟩ : t.water.draw = s.water.draw ∧ t.water.tRes = s.water.tRes := h .reservoir (apart _ (by simp))
  have closed : Facet.kept .closed s t := h .closed (apart _ (by simp))
  obtain ⟨estimated, volume, hold⟩ := closed
  have relaxation : t.water.relaxation = s.water.relaxation := h .relaxation (apart _ (by simp))
  have path : t.water.path = s.water.path := h .path (apart _ (by simp))
  have fills : Facet.kept .fills s t := h .fills (apart _ (by simp))
  obtain ⟨queue, current, held, fillLimit⟩ := fills
  have dispense : Facet.kept .dispense s t := h .dispense (apart _ (by simp))
  obtain ⟨dispense, lineHold, limit, settling⟩ := dispense
  generalize t.water = y at *; generalize s.water = x at *
  cases y; cases x
  simp only at *; subst_vars; rfl

/-! ### The defrost controller's states (R99) -/

@[simp] theorem State.setDefrost_defrost (s : State) (d : DefrostState) : (s.setDefrost d).defrost = { s.defrost with state := d } := by
  have fan (t : State) : t.fan.defrost = t.defrost := t.fan_touches.at .defrost
  unfold State.setDefrost
  dsimp only
  rw [fan]
  split <;> simp

@[simp] theorem State.setDefrost_now (s : State) (d : DefrostState) : (s.setDefrost d).now = s.now :=
  (s.setDefrost_touches d).at .now

@[simp] theorem State.setDefrost_line_queue (s : State) (d : DefrostState) : (s.setDefrost d).line.queue = s.line.queue :=
  (s.setDefrost_touches d).at .queue

@[simp] theorem State.setDefrost_fault (s : State) (d : DefrostState) : (s.setDefrost d).fault = s.fault :=
  (s.setDefrost_touches d).at .fault

@[simp] theorem State.enterPumpDown_defrost (s : State) (hold : HoldState) : (s.enterPumpDown hold).defrost =
    { s.defrost with hold := hold, speed := none, dwell := some (s.now + 60000000), state := .pumpDown } := by
  rw [State.enterPumpDown, State.setDefrost_defrost]; rfl

@[simp] theorem State.enterPumpDown_fault (s : State) (hold : HoldState) : (s.enterPumpDown hold).fault = s.fault := by
  rw [State.enterPumpDown, State.setDefrost_fault]

/-- A hold attempt that the compressor's speed of 0 has answered ends well. -/
theorem State.holdCheck_of_not_stopped {s : State} (h : s.compressorSpeed ≠ some 0) : s.holdCheck = s :=
  if_neg fun both => h both.2

theorem State.holdCheck_of_answered {s : State} (wait : s.defrost.state = .holdWait) (stopped : s.compressorSpeed = some 0)
    (heard : s.line.island = false) (answered : s.defrost.answered = true) : s.holdCheck = s.enterPumpDown .held := by
  simp [State.holdCheck, wait, stopped, heard, answered]

/-! ### Flags (R170) -/

@[simp] theorem State.setFlag_fault (s : State) (f : FaultId) : (s.setFlag f).fault = (s.capture f).fault.put f true := by
  simp [State.setFlag]

@[simp] theorem State.raiseB_now (s : State) (f : FaultId) : (s.raiseB f).now = s.now := by
  unfold State.raiseB State.setFlag State.capture
  split
  · simp
  · simp; split <;> rfl

@[simp] theorem State.raiseB_defrost (s : State) (f : FaultId) : (s.raiseB f).defrost = s.defrost := by
  unfold State.raiseB State.setFlag State.capture
  split
  · simp
  · simp; split <;> rfl

/-! ### A hold attempt that fails (R104, R106) -/

/-- One of the part's own REQUEST frames takes a sequence tag, and leaves the defrost record as it was otherwise. -/
@[simp] theorem State.offerOwnRequest_defrost (s : State) (kind : Nat) (args : List Byte) :
    (s.offerOwnRequest kind args).defrost = { s.defrost with seqCounter := s.defrost.seqCounter + 1 } := rfl

@[simp] theorem State.offerOwnRequest_now (s : State) (kind : Nat) (args : List Byte) : (s.offerOwnRequest kind args).now = s.now :=
  (s.offerOwnRequest_touches kind args).at .now

theorem State.offerOwnRequest_of_open {s : State} (h : s.queueOpen) (kind : Nat) (args : List Byte) :
    s.offerOwnRequest kind args = { s with
      line := { s.line with
        queue := insertFrame (newFrame s.image.compressor 2 (.request (BitVec.ofNat 8 kind) 0 s.defrost.seqCounter args)) s.line.queue }
      defrost := { s.defrost with seqCounter := s.defrost.seqCounter + 1 } } := by
  rw [State.offerOwnRequest, State.offer_of_open h]; rfl

/-- A queue with room takes the part's own REQUEST. -/
theorem State.offerOwnRequest_queue {s : State} (h : s.queueOpen) (kind : Nat) (args : List Byte) :
    (s.offerOwnRequest kind args).line.queue =
      insertFrame (newFrame s.image.compressor 2 (.request (BitVec.ofNat 8 kind) 0 s.defrost.seqCounter args)) s.line.queue := by
  rw [State.offerOwnRequest, State.offer_of_open h]; rfl

/-- A first or second failure: PENDING, and the attempt is repeated later. -/
theorem State.failHold_of_few {s : State} (few : s.defrost.attempts < 2) :
    s.failHold = State.setDefrost (
      let s1 := State.offerReleaseCompressor { s with defrost := { s.defrost with
        attempts := s.defrost.attempts + 1, answer := none, speed := none, outstanding := none } }
      { s1 with defrost := { s1.defrost with renew := none, hold := .none, holdRetry := some (s.now + 600000000) } }) .pending := by
  have now : (State.offerReleaseCompressor { s with defrost := { s.defrost with
        attempts := s.defrost.attempts + 1, answer := none, speed := none, outstanding := none } }).now = s.now :=
    State.offerOwnRequest_now ..
  unfold State.failHold
  dsimp only
  rw [if_pos (by omega), State.timer, now]; rfl

/-- A third failure, or a later one: HOLD_REFUSED, and the defrost goes on. -/
theorem State.failHold_of_many {s : State} (many : 2 ≤ s.defrost.attempts) :
    s.failHold = State.enterPumpDown (
      let s1 := State.raiseB { s with defrost := { s.defrost with
        attempts := s.defrost.attempts + 1, answer := none, speed := none, outstanding := none } } .holdRefused
      { s1 with defrost := { s1.defrost with renew := none } }) .refused := by
  unfold State.failHold
  dsimp only
  rw [if_neg (by omega)]

theorem State.failHold_defrost_of_few {s : State} (few : s.defrost.attempts < 2) :
    s.failHold.defrost = { s.defrost with
      state := .pending, attempts := s.defrost.attempts + 1, answer := none, speed := none, outstanding := none, renew := none
      hold := .none, holdRetry := some (s.now + 600000000), seqCounter := s.defrost.seqCounter + 1 } := by
  rw [State.failHold_of_few few, State.setDefrost_defrost]; rfl

theorem State.failHold_queue_of_few {s : State} (few : s.defrost.attempts < 2) (room : s.queueOpen) :
    s.failHold.line.queue =
      insertFrame (newFrame s.image.compressor 2 (.request 33 0 s.defrost.seqCounter [])) s.line.queue := by
  rw [State.failHold_of_few few, State.setDefrost_line_queue]
  exact State.offerOwnRequest_queue (s := { s with defrost := { s.defrost with
    attempts := s.defrost.attempts + 1, answer := none, speed := none, outstanding := none } }) room _ _

theorem State.failHold_defrost_of_many {s : State} (many : 2 ≤ s.defrost.attempts) :
    s.failHold.defrost = { s.defrost with
      state := .pumpDown, attempts := s.defrost.attempts + 1, answer := none, speed := none, outstanding := none, renew := none
      hold := .refused, dwell := some (s.now + 60000000) } := by
  rw [State.failHold_of_many many, State.enterPumpDown_defrost]; simp

theorem State.failHold_isSet_of_many {s : State} (many : 2 ≤ s.defrost.attempts) : s.failHold.fault.isSet .holdRefused = true := by
  rw [State.failHold_of_many many, State.enterPumpDown_fault]; exact State.raiseB_isSet _ _

end Sys2Proof.Machine
end

/-! PROOF. The station view: what a valid frame from a peer does before its content is taken, the contents, and the ageing of a record (sections 2.2, 2.4, 5.3). -/

section
namespace Sys2Proof.Machine

/-! ### Records (R45) -/

theorem Addr.toFin_inj {a b : Addr} (h : a.toFin = b.toFin) : a = b := BitVec.eq_of_toFin_eq h

theorem State.record_setRecord (s : State) (a b : Addr) (r : Option StationRecord) :
    (s.setRecord a r).record b = if b = a then r else s.record b := by
  by_cases e : b = a
  · subst e; simp [State.record, State.setRecord]
  · have apart : a.toFin.val ≠ b.toFin.val := fun k => e (Addr.toFin_inj (Fin.ext k)).symm
    have other : ¬ a.toNat = b.toNat := apart
    simp [State.record, State.setRecord, e, other]

theorem State.record_setRecord_self (s : State) (a : Addr) (r : Option StationRecord) : (s.setRecord a r).record a = r := by
  rw [State.record_setRecord, if_pos rfl]

theorem State.record_setRecord_ne {s : State} {a b : Addr} (h : b ≠ a) (r : Option StationRecord) :
    (s.setRecord a r).record b = s.record b := by
  rw [State.record_setRecord, if_neg h]

theorem State.record_of_view {s t : State} (h : t.view = s.view) (a : Addr) : t.record a = s.record a := by
  rw [State.record, h]; rfl

theorem State.peer_of_view {s t : State} (h : t.view = s.view) (a : Addr) (tag : Byte) : t.peer a tag = s.peer a tag := by
  rw [State.peer, State.record_of_view h]; rfl

theorem State.modifyRecord_of_some {s : State} {a : Addr} {r : StationRecord} (h : s.record a = some r) (g : StationRecord → StationRecord) :
    s.modifyRecord a g = s.setRecord a (some (g r)) := by
  rw [State.modifyRecord, h]

/-! ### The count of frames in line order (R39)

In STUCK every frame offered counts at once; outside, no operation but `State.countFrame` counts. -/

/-- Outside STUCK the line order count is as it was, and the line interface stays outside STUCK. -/
def Uncounted (s t : State) : Prop := s.line.mode ≠ .stuck → t.line.mode ≠ .stuck ∧ t.line.orderCount = s.line.orderCount

theorem Uncounted.refl (s : State) : Uncounted s s := fun h => ⟨h, rfl⟩

theorem Uncounted.trans {s t u : State} (h : Uncounted s t) (k : Uncounted t u) : Uncounted s u := fun free =>
  ⟨(k (h free).1).1, (k (h free).1).2.trans (h free).2⟩

theorem Touches.uncounted {P : List Facet} {s t : State} (h : Touches P s t)
    (apart : autoParam (Facet.wire ∉ P ∧ Facet.offers ∉ P) Rat.normalize._auto_1) : Uncounted s t := fun free => by
  have wire : WireKept s t := h .wire apart.1
  have offers : Facet.kept .offers s t := h .offers apart.2
  refine ⟨?_, offers.1⟩
  rw [wire]; exact free

theorem State.offer_uncounted (s : State) (f : TxFrame) : Uncounted s (s.offer f) := fun free => by
  unfold State.offer
  rw [if_neg (by simpa using free)]
  split <;> exact ⟨free, rfl⟩

theorem State.publishRequest_uncounted (s : State) : Uncounted s s.publishRequest := fun free => by
  unfold State.publishRequest State.offerStatus
  rw [if_neg (by simpa using free)]
  split
  · exact ⟨free, rfl⟩
  · split <;> exact ⟨free, rfl⟩

theorem State.releaseLoad_uncounted (s : State) (op : LoadOp) : Uncounted s (s.releaseLoad op) := by
  unfold State.releaseLoad
  split
  · exact .refl s
  · rename_i g _
    have released : Uncounted s { s with share := { s.share with grants := s.share.grants.filter fun g => g.op != op } } :=
      fun free => ⟨free, rfl⟩
    generalize { s with share := { s.share with grants := s.share.grants.filter fun g => g.op != op } } = u at *
    exact ((released.trans (u.offer_uncounted _)).trans (State.publishRequest_uncounted _)).trans
      (State.recomputeExcess_touches _).uncounted

theorem State.withdraw_uncounted (s : State) (op : LoadOp) : Uncounted s (s.withdraw op) := by
  unfold State.withdraw
  dsimp only
  refine Uncounted.trans ?_ ((State.releaseLoad_uncounted _ op).trans (State.dropSuspension_touches _ op).uncounted)
  split
  · exact (s.dropEntry_touches op).uncounted.trans (State.cancelFlight_touches _).uncounted
  · exact (s.dropEntry_touches op).uncounted

theorem State.endAuger_uncounted (s : State) : Uncounted s s.endAuger := by
  unfold State.endAuger
  split
  · exact (s.withdraw_uncounted .aug).trans (State.augerOff_touches _).uncounted
  · exact ((s.command_touches .aug .off).uncounted.trans (State.releaseLoad_uncounted _ .aug)).trans
      (State.augerOff_touches _).uncounted
  · exact .refl s

theorem State.paddleIceChange_uncounted (s : State) : Uncounted s s.paddleIceChange := by
  unfold State.paddleIceChange
  split
  · exact s.endAuger_uncounted
  · exact .refl s

theorem State.freshnessChanged_uncounted (s : State) (a : Addr) : Uncounted s (s.freshnessChanged a) := by
  unfold State.freshnessChanged
  dsimp only
  split
  · exact (s.recomputeExcess_touches.uncounted.trans (State.paddleWaterChange_touches _).uncounted).trans
      (State.paddleIceChange_uncounted _)
  · exact s.recomputeExcess_touches.uncounted

/-! ### A valid frame from a peer (R40, R45, R55) -/

/-- The sender's record after its frame: FRESH and heard now, with what it held. -/
def State.refreshed (s : State) (a : Addr) : StationRecord :=
  match s.record a with
  | some r => { r with freshness := .fresh, heard := s.now }
  | none => .new s.now

/-- The state before the share unit and the panel's consumers hear of a record that was not FRESH. -/
def State.noted (s : State) (a : Addr) : State :=
  { (s.setRecord a (some (s.refreshed a))) with line := { s.line with alone := none } }

theorem State.refresh_eq (s : State) (a : Addr) :
    s.refresh a = if s.isFresh a then s.noted a else (s.noted a).freshnessChanged a := by
  unfold State.refresh State.noted State.refreshed
  rfl

/-- What a frame's being taken from the line does to the line interface. -/
theorem State.frameTaken_eq (s : State) : ∃ l : Line, s.frameTaken = { s with line := l } ∧ l.queue = s.line.queue ∧
    l.orderCount = s.line.orderCount ∧ l.island = s.line.island ∧ l.lineGood = s.line.lineGood ∧ l.alone = s.line.alone ∧
    l.mode = s.line.mode ∧ l.heard = s.line.heard.tail := by
  unfold State.frameTaken
  split
  · rename_i none
    obtain ⟨idle, recessive, good, e⟩ := s.lineActivity_eq
    exact ⟨_, e, rfl, rfl, rfl, rfl, rfl, rfl, by rw [none]; rfl⟩
  · rename_i rest some
    exact ⟨_, rfl, rfl, rfl, rfl, rfl, rfl, rfl, by rw [some]; rfl⟩

/-- The wire facet of the line interface, field by field. -/
theorem WireKept.fields {s t : State} (h : WireKept s t) : t.line.alone = s.line.alone ∧ t.line.heard = s.line.heard ∧
    t.line.island = s.line.island ∧ t.line.lineGood = s.line.lineGood ∧ t.line.mode = s.line.mode ∧
    t.line.returnListen = s.line.returnListen := by
  rw [h]; exact ⟨rfl, rfl, rfl, rfl, rfl, rfl⟩

/-- The exit from island operation. -/
theorem State.exitIsland_facts (s : State) : s.exitIsland.line.island = false ∧
    s.exitIsland.line.returnListen = some (s.now + 2000000) ∧ s.exitIsland.store.changed = s.image.publish ∧
    s.exitIsland.line.alone = s.line.alone ∧ s.exitIsland.line.heard = s.line.heard ∧ Uncounted s s.exitIsland := by
  have ended : Touches (wordFacets ++ offerFacets) { s with line := { s.line with island := false, goodTimer := none } }
      (State.publishRequest (State.reportWords { s with line := { s.line with island := false, goodTimer := none } })) :=
    (State.reportWords_touches _).mono.trans (State.publishRequest_touches _).mono
  have counted : Uncounted s
      (State.publishRequest (State.reportWords { s with line := { s.line with island := false, goodTimer := none } })) :=
    Uncounted.trans (fun free => by
      have words := (State.reportWords_touches { s with line := { s.line with island := false, goodTimer := none } }).uncounted
      exact words free) (State.publishRequest_uncounted _)
  have now := ended.at .now
  have image := ended.at .image
  obtain ⟨alone, heard, island, -, -, -⟩ := WireKept.fields (ended.at .wire)
  unfold State.exitIsland
  dsimp only
  generalize State.publishRequest _ = u at *
  have listen : u.timer Config.returnListen = some (s.now + 2000000) := by rw [State.timer, now]; rfl
  have marks : u.image.publish = s.image.publish := by rw [image]
  split <;> exact ⟨island, listen, marks, alone, heard, counted⟩

/-- The state in which the content of a peer's frame is taken: its record, the clock, and the line. -/
theorem State.hears_facts (s : State) (a : Addr) : (s.hears a).view = (s.setRecord a (some (s.refreshed a))).view ∧
    (s.hears a).line.alone = none ∧ (s.hears a).line.heard = s.line.heard.tail ∧
    (s.line.mode ≠ .stuck → (s.hears a).line.orderCount = s.line.orderCount + 1) ∧
    (s.line.island = true → s.line.lineGood = true → (s.hears a).line.island = false ∧
      (s.hears a).line.returnListen = some (s.now + 2000000) ∧ (s.hears a).store.changed = s.image.publish) ∧
    (s.line.island = false → (s.hears a).line.island = false) := by
  obtain ⟨l, taken, -, count, island, good, -, mode, heard⟩ := s.frameTaken_eq
  have refreshed : ∃ u : State, (s.frameTaken.countFrame).refresh a = u ∧ u.view = (s.setRecord a (some (s.refreshed a))).view ∧
      u.line.alone = none ∧ u.line.heard = s.line.heard.tail ∧ u.line.island = s.line.island ∧ u.line.lineGood = s.line.lineGood ∧
      u.now = s.now ∧ u.image = s.image ∧
      (s.line.mode ≠ .stuck → u.line.mode ≠ .stuck ∧ u.line.orderCount = s.line.orderCount + 1) := by
    rw [taken, State.refresh_eq]
    have noted : ∀ v : State, v = State.noted (State.countFrame { s with line := l }) a →
        v.view = (s.setRecord a (some (s.refreshed a))).view ∧ v.line.alone = none ∧ v.line.heard = s.line.heard.tail ∧
        v.line.island = s.line.island ∧ v.line.lineGood = s.line.lineGood ∧ v.now = s.now ∧ v.image = s.image ∧
        (s.line.mode ≠ .stuck → v.line.mode ≠ .stuck ∧ v.line.orderCount = s.line.orderCount + 1) := by
      rintro v rfl
      refine ⟨rfl, rfl, heard, island, good, rfl, rfl, fun free => ⟨?_, ?_⟩⟩
      · exact fun stuck => free (mode.symm.trans stuck)
      · exact congrArg (· + 1) count
    split
    · exact ⟨_, rfl, noted _ rfl⟩
    · obtain ⟨view, alone, heard, island, good, now, image, counted⟩ := noted _ rfl
      have touches := State.freshnessChanged_touches (State.noted (State.countFrame { s with line := l }) a) a
      obtain ⟨alone', heard', island', good', -, -⟩ := WireKept.fields (touches.at .wire)
      refine ⟨_, rfl, (touches.at .view).trans view, alone'.trans alone, heard'.trans heard, island'.trans island,
        good'.trans good, (touches.at .now).trans now, (touches.at .image).trans image, fun free => ?_⟩
      obtain ⟨free', count'⟩ := State.freshnessChanged_uncounted _ a (counted free).1
      exact ⟨free', count'.trans (counted free).2⟩
  obtain ⟨u, e, view, alone, heard', island', good', now, image, counted⟩ := refreshed
  rw [State.hears, e, State.islandExitTest]
  obtain ⟨exited, listens, marks, alone', heard'', uncounted⟩ := u.exitIsland_facts
  split
  · rename_i both
    have inIsland : s.line.island = true := by rw [← island']; exact (Bool.and_eq_true_iff.mp both).1
    refine ⟨(u.exitIsland_touches.at .view).trans view, alone'.trans alone, heard''.trans heard', fun free => ?_,
      fun _ _ => ⟨exited, by rw [listens, now], by rw [marks, image]⟩, fun out => ?_⟩
    · exact (uncounted (counted free).1).2.trans (counted free).2
    · exact absurd inIsland (by simp [out])
  · rename_i notBoth
    refine ⟨view, alone, heard', fun free => (counted free).2, fun i g => ?_, fun out => island'.trans out⟩
    exact absurd (by rw [island', good', i, g]; rfl) notBoth

theorem State.hears_record_self (s : State) (a : Addr) : (s.hears a).record a = some (s.refreshed a) := by
  rw [State.record_of_view (s.hears_facts a).1, State.record_setRecord_self]

theorem State.hears_record_ne {s : State} {a b : Addr} (h : b ≠ a) : (s.hears a).record b = s.record b := by
  rw [State.record_of_view (s.hears_facts a).1, State.record_setRecord_ne h]

@[simp] theorem State.hears_now (s : State) (a : Addr) : (s.hears a).now = s.now := (s.hears_touches a).at .now

@[simp] theorem State.hears_image (s : State) (a : Addr) : (s.hears a).image = s.image := (s.hears_touches a).at .image

/-- A peer's quantities are as they were when its next frame is heard. -/
theorem State.hears_peer (s : State) (a : Addr) (tag : Byte) : (s.hears a).peer a tag = s.peer a tag := by
  rw [State.peer, State.peer, State.hears_record_self, State.refreshed]
  cases s.record a <;> rfl

/-- A peer's frame is heard, and then its content taken. -/
theorem State.receive_of_peer {s : State} {src : Addr} (h : s.peerHeard src) (content : State → State) :
    s.receive src content = content (s.hears src) := by
  obtain ⟨listening, zero, all, own⟩ := h
  rw [State.receive, if_pos listening, if_neg fun e => e.elim zero all, if_neg own]; rfl

/-- A command that is a frame from a peer takes its content in the state in which it is heard. -/
theorem does_receive {c : Instr} {s t : State} {src : Addr} {content : State → State}
    (run : exec c s = (s.receive src content).done) (h : s.peerHeard src) (e : content (s.hears src) = t) : Does c s t :=
  does_of_eq run ((State.receive_of_peer h content).trans e)

/-! ### The quantity items of a STATUS (R1, R2, R47) -/

theorem lookup_setQuantity (tag u : Byte) (v : Int) (l : List (Byte × Int)) :
    (setQuantity tag v l).lookup u = if u = tag then some v else l.lookup u := by
  have apart {x y : Byte} (h : x ≠ y) : (x == y) = false := by simpa using h
  induction l with
  | nil => by_cases e : u = tag <;> simp [setQuantity, List.lookup, e, apart]
  | cons q l ih =>
    obtain ⟨w, x⟩ := q
    by_cases same : tag = w
    · subst same
      by_cases e : u = tag <;> simp [setQuantity, List.lookup, e, apart]
    · by_cases before : tag.toNat < w.toNat
      · by_cases e : u = tag <;> simp [setQuantity, List.lookup, same, before, e, apart]
      · rw [setQuantity, if_neg same, if_neg before]
        by_cases here : u = w
        · subst here
          have other : u ≠ tag := fun k => same k.symm
          simp [List.lookup, other]
        · simp [List.lookup, here, ih, apart]

/-- The value that a quantity item carries. -/
def itemValue (q : QuantityItem) : Int := readValue (tagSigned q.tag) q.value

theorem State.ofInterest_of_image {s t : State} (h : t.image = s.image) (a : Addr) (tag : Byte) : t.ofInterest a tag = s.ofInterest a tag := by
  unfold State.ofInterest State.roleStation State.watchNames
  rw [h]

/-- After an item of interest its tag has the item's value; every other quantity, and every other part of the records, is as it was. -/
theorem State.takeItem_record {s : State} {a : Addr} {r : StationRecord} (h : s.record a = some r) (q : QuantityItem) :
    ∃ l, (State.takeItem a s q).record a = some { r with quantities := l } ∧
      (∀ b, b ≠ a → (State.takeItem a s q).record b = s.record b) ∧
      (s.ofInterest a q.tag = true → l.lookup q.tag = some (itemValue q)) ∧
      ∀ u : Byte, u ≠ q.tag ∨ s.ofInterest a q.tag = false → l.lookup u = r.quantities.lookup u := by
  unfold State.takeItem
  dsimp only
  split
  · rename_i interest
    split
    · rename_i same
      have held : r.quantities.lookup q.tag = some (itemValue q) := by rw [State.peer, h] at same; exact same
      exact ⟨r.quantities, h, fun _ _ => rfl, fun _ => held, fun _ _ => rfl⟩
    · rw [State.modifyRecord_of_some h]
      have view := (State.peerChanged_touches (s.setRecord a (some { r with
        quantities := setQuantity q.tag (itemValue q) r.quantities })) a q.tag).at .view
      refine ⟨setQuantity q.tag (itemValue q) r.quantities, ?_, fun b other => ?_, fun _ => ?_, fun u other => ?_⟩
      · exact (State.record_of_view view a).trans (State.record_setRecord_self ..)
      · exact (State.record_of_view view b).trans (State.record_setRecord_ne other _)
      · rw [lookup_setQuantity, if_pos rfl]
      · rcases other with ne | no
        · rw [lookup_setQuantity, if_neg ne]
        · rw [no] at interest; cases interest
  · rename_i no
    exact ⟨r.quantities, h, fun _ _ => rfl, fun yes => absurd yes no, fun _ _ => rfl⟩

/-- The items of a STATUS, none twice: each tag of interest has its item's value, every other quantity is as it was. -/
theorem State.takeItems_record {s : State} {a : Addr} {r : StationRecord} (h : s.record a = some r) (items : List QuantityItem) :
    ∃ l, (items.foldl (State.takeItem a) s).record a = some { r with quantities := l } ∧
      (∀ b, b ≠ a → (items.foldl (State.takeItem a) s).record b = s.record b) ∧
      ((items.map QuantityItem.tag).Nodup →
        (∀ q ∈ items, s.ofInterest a q.tag = true → l.lookup q.tag = some (itemValue q)) ∧
        ∀ u : Byte, (∀ q ∈ items, q.tag = u → s.ofInterest a u = false) → l.lookup u = r.quantities.lookup u) := by
  induction items generalizing s r with
  | nil => exact ⟨r.quantities, h, fun _ _ => rfl, fun _ => ⟨fun q mem => (List.not_mem_nil mem).elim, fun _ _ => rfl⟩⟩
  | cons q items ih =>
    obtain ⟨l, here, others, set, kept⟩ := State.takeItem_record h q
    obtain ⟨l', here', others', rest⟩ := ih here
    have image : ∀ u, (State.takeItem a s q).ofInterest a u = s.ofInterest a u :=
      fun u => State.ofInterest_of_image ((State.takeItem_touches s a q).at .image) a u
    refine ⟨l', here', fun b ne => (others' b ne).trans (others b ne), fun nodup => ?_⟩
    rw [List.map_cons, List.nodup_cons] at nodup
    obtain ⟨once, nodup⟩ := nodup
    obtain ⟨sets, keeps⟩ := rest nodup
    have alone (x : QuantityItem) (mem : x ∈ items) : x.tag ≠ q.tag := fun e => once (e ▸ List.mem_map_of_mem mem)
    refine ⟨fun x mem interest => ?_, fun u no => ?_⟩
    · rcases List.mem_cons.mp mem with rfl | later
      · rw [keeps x.tag fun y my e => absurd e (alone y my)]
        exact set interest
      · exact sets x later ((image _).trans interest)
    · rw [keeps u fun y my e => (image u).trans (no y (.tail _ my) e)]
      refine kept u ?_
      by_cases e : u = q.tag
      · exact .inr (e ▸ no q (.head _) e.symm)
      · exact .inl e

end Sys2Proof.Machine
end

/-! PROOF. The commands of received frames and of the ageing of a record (sections 2.2, 2.4, 5.3). -/

section
namespace Sys2Proof.Machine

/-- A frame taken from the line touches the line interface alone. -/
theorem does_discardedFrame {s : State} (listening : s.listening = true) (chars : List Byte) (framing : Bool) :
    Does (.discardedFrame chars framing) s s.frameTaken :=
  does_of_eq (u := if s.listening then s.frameTaken else s) rfl (if_pos listening)

theorem does_foreignFrame {s : State} (listening : s.listening = true) :
    Does .foreignFrameOwnAddress s (s.frameTaken.raiseB .addressClash) :=
  does_of_eq (u := if s.listening then s.frameTaken.raiseB .addressClash else s) rfl (if_pos listening)

/-! ### Pending claims (R49) -/

theorem addPending_same {p q : PendingClaim} (h : q.tag = p.tag) : addPending p [q] = [p] := by simp [addPending, h]

theorem addPending_other {p q : PendingClaim} (h : q.tag ≠ p.tag) : addPending p [q] = [q, p] := by simp [addPending, h]

theorem addPending_full {p q r : PendingClaim} (first : q.tag ≠ p.tag) (second : r.tag ≠ p.tag) :
    addPending p [q, r] = if (q.stamp - r.stamp).msb then [p, r] else [q, p] := by
  unfold addPending
  rw [if_neg (by simp [first, second])]; rfl

/-! ### An ANSWER to the outstanding hold (R103, R104) -/

theorem State.takeAnswer_of_not {s : State} {src : Addr} {kind seq : Byte}
    (h : ¬ (src = s.image.compressor ∧ kind = 32 ∧ s.defrost.outstanding = some seq)) (result : Byte) :
    s.takeAnswer src kind seq result = s := if_neg h

theorem State.takeAnswer_of_hold {s : State} {src : Addr} {kind seq : Byte}
    (h : src = s.image.compressor ∧ kind = 32 ∧ s.defrost.outstanding = some seq) (result : Byte) :
    s.takeAnswer src kind seq result = s.takeHoldAnswer result := if_pos h

theorem State.takeHoldAnswer_elsewhere {s : State} (h : s.defrost.state ≠ .holdWait) (result : Byte) :
    s.takeHoldAnswer result = { s with defrost := { s.defrost with answer := none, outstanding := none } } := if_neg h

/-- DONE: the hold is answered, and the compressor's speed decides. -/
theorem State.takeHoldAnswer_done {s : State} (h : s.defrost.state = .holdWait) : s.takeHoldAnswer 0 =
    State.holdCheck { s with defrost := { s.defrost with answer := none, outstanding := none, answered := true } } := by
  unfold State.takeHoldAnswer; dsimp only; rw [if_pos h, if_pos (show (0 : Byte) = BitVec.ofNat 8 resDone from rfl)]

/-- Another result fails the attempt. -/
theorem State.takeHoldAnswer_failed {s : State} {result : Byte} (h : s.defrost.state = .holdWait) (heard : s.line.island = false)
    (failed : result ≠ 0) : s.takeHoldAnswer result =
      State.failHold { s with defrost := { s.defrost with answer := none, outstanding := none } } := by
  unfold State.takeHoldAnswer; dsimp only; rw [if_pos h, if_neg (show ¬ result = BitVec.ofNat 8 resDone from failed), heard]; rfl

/-! ### Ageing (R46) -/

theorem does_ageStale {s : State} {a : Addr} {r : StationRecord} (held : s.record a = some r) (fresh : r.freshness = .fresh) :
    Does (.ageStale a) s (((s.atMoment (r.heard + 3000000)).setRecord a (some { r with freshness := .stale })).freshnessChanged a) := by
  refine does_expiry (act := fun t => t.becomeStale a) rfl (d := r.heard + 3000000)
    (by rw [State.staleAt, held]; exact if_pos fresh) ?_
  have there : (s.atMoment (r.heard + 3000000)).record a = some r := held
  rw [State.becomeStale, State.modifyRecord_of_some there]

theorem does_ageLost {s : State} {a : Addr} {r : StationRecord} (held : s.record a = some r) (live : r.freshness ≠ .lost) :
    Does (.ageLost a) s ((s.atMoment (r.heard + 10000000)).dropLive a r.quantities
      (some { r with freshness := .lost, grants := none, claims := [], quantities := [], notice := none })) := by
  have alive : r.live = true := by unfold StationRecord.live; split <;> simp_all
  refine does_expiry (act := fun t => t.becomeLost a) rfl (d := r.heard + 10000000)
    (by rw [State.lostAt, held]; exact if_pos alive) ?_
  have there : (s.atMoment (r.heard + 10000000)).record a = some r := held
  rw [State.becomeLost, there]

theorem State.dropLive_view (s : State) (a : Addr) (held : List (Byte × Int)) (left : Option StationRecord) :
    (s.dropLive a held left).view = (s.setRecord a left).view :=
  ((State.freshnessChanged_touches _ a).at .view).trans
    (((State.quantitiesLost_touches _ a held).at .view).trans ((s.setRecord a left).aloneTest_touches.at .view))

end Sys2Proof.Machine

open Sys2Proof Sys2Proof.Machine

/-- Settles O29: the state in which a frame is heard, fact by fact. -/
theorem validPeerFrameRefreshesItsSender : Obligations.ValidPeerFrameRefreshesItsSender := by
  intro src s peer
  obtain ⟨-, alone, heard, counted, exits, out⟩ := s.hears_facts src
  refine ⟨does_receive rfl peer rfl, fun r held => ?_, fun none => ?_, fun a other => State.hears_record_ne other, counted, alone,
    heard, exits, out⟩
  · rw [State.hears_record_self, State.refreshed, held]
  · rw [State.hears_record_self, State.refreshed, none]; rfl

/-- Settles O30: a frame taken from the line touches the line interface alone, and a clash a flag besides. -/
theorem discardedAndClashingFramesTouchNoRecord : Obligations.DiscardedAndClashingFramesTouchNoRecord := by
  intro chars framing s
  obtain ⟨l, taken, queue, count, island, -, alone, -, heard⟩ := s.frameTaken_eq
  refine ⟨fun listening => ⟨s.frameTaken, does_discardedFrame listening chars framing, ?_⟩,
    fun listening => ⟨_, does_foreignFrame listening, State.raiseB_isSet _ _, ?_⟩, fun before => ⟨?_, ?_⟩⟩
  · rw [taken]; exact ⟨rfl, queue, count, island, alone, heard⟩
  · rw [taken]
    have touches := State.raiseB_touches { s with line := l } (f := .addressClash) rfl
    exact ⟨touches.at .view, touches.share_eq, (touches.at .offers).1.trans count, (touches.at .queue).trans queue⟩
  · exact next_of_not_listening rfl (if_neg (by simp [before])) before
  · exact next_of_not_listening rfl (if_neg (by simp [before])) before

/-- Settles O31: the STATUS is taken in the state in which it is heard, its items one after another. -/
theorem statusReplacesGrantsAndClaims : Obligations.StatusReplacesGrantsAndClaims := by
  intro src grants items s peer
  let r : StationRecord := { s.refreshed src with
    grants := some (grants.map fun g => { cls := g.cls.toNat, amps := g.amps.toNat }), claims := [] }
  let s1 := (s.hears src).setRecord src (some r)
  have held : s1.record src = some r := State.record_setRecord_self ..
  obtain ⟨l, record, others, quantities⟩ := State.takeItems_record held items
  have run : (s.hears src).takeStatus src grants items = (items.foldl (State.takeItem src) s1).recomputeExcess := by
    rw [State.takeStatus, State.modifyRecord_of_some (s.hears_record_self src)]
  have view := (State.recomputeExcess_touches (items.foldl (State.takeItem src) s1)).at .view
  have hears := s.hears_touches src
  have taken := (s.hears src).takeStatus_touches src grants items
  rw [run] at taken
  have fresh : (s.refreshed src).freshness = .fresh ∧ (s.refreshed src).heard = s.now := by
    rw [State.refreshed]; cases s.record src <;> exact ⟨rfl, rfl⟩
  have before (tag : Byte) : s1.peer src tag = s.peer src tag := by
    rw [← s.hears_peer src tag, State.peer, State.peer, held, State.hears_record_self]
  refine ⟨_, { r with quantities := l }, does_receive rfl peer run, (State.record_of_view view src).trans record, fresh.1, fresh.2,
    rfl, rfl, fun a other => ?_, (taken.at .sensors).trans (hears.at .sensors), (taken.at .switches).trans (hears.at .switches),
    (taken.at .mode).trans (hears.at .mode), fun nodup => ?_⟩
  · rw [State.record_of_view view, others a other, State.record_setRecord_ne other, State.hears_record_ne other]
  · have interest (tag : Byte) : s1.ofInterest src tag = s.ofInterest src tag :=
      State.ofInterest_of_image (State.hears_image s src) src tag
    have peerOf (tag : Byte) : State.peer (items.foldl (State.takeItem src) s1).recomputeExcess src tag = l.lookup tag := by
      rw [State.peer_of_view view, State.peer, record]
    obtain ⟨set, kept⟩ := quantities nodup
    refine ⟨fun q mem yes => (peerOf _).trans (set q mem ((interest _).trans yes)), fun tag no => ?_⟩
    have same : r.quantities.lookup tag = s1.peer src tag := by rw [State.peer, held]
    rw [peerOf, kept tag fun q mem e => (interest tag).trans (no q mem e), same, before]

/-- Settles O32: the content of a CLAIM, of a RELEASE, and a pending claim's expiry. -/
theorem claimsArePendingUntilReleasedOrExpired : Obligations.ClaimsArePendingUntilReleasedOrExpired := by
  intro src tag cls amps s
  refine ⟨fun peer => ⟨_, s.hears_record_self src, ?_⟩, fun r q held found => ?_⟩
  · have record := s.hears_record_self src
    generalize s.refreshed src = r at *
    intro p after
    have claim {l : List PendingClaim} (e : addPending p r.claims = l) : Does (.claimFrameReceived src tag cls amps) s (after l) := by
      refine does_receive rfl peer ?_
      rw [State.takeClaim, State.modifyRecord_of_some record, State.hears_now]
      subst e; rfl
    refine ⟨fun none => claim (by rw [none]; rfl), fun q one same => claim (by rw [one]; exact addPending_same same),
      fun q one other => claim (by rw [one]; exact addPending_other other),
      fun q1 q2 two first second => claim (by rw [two]; exact addPending_full first second), does_receive rfl peer ?_⟩
    exact State.modifyRecord_of_some record _
  · refine does_expiry (act := fun t => t.removePending src tag) rfl (d := q.expires)
      (by rw [State.pendingAt, held]; simp only [found]; rfl) ?_
    have there : (s.atMoment q.expires).record src = some r := held
    rw [State.removePending, State.modifyRecord_of_some there]

/-- Settles O33: a NOTICE is kept, and an ANSWER is taken for the outstanding hold alone. -/
theorem noticesAreKeptAndHoldAnswersTaken : Obligations.NoticesAreKeptAndHoldAnswersTaken := by
  intro src kind seq result code cls s peer u hold
  have answers {t : State} (e : u.takeAnswer src kind seq result = t) : Does (.answerFrameReceived src kind seq result) s t :=
    does_receive rfl peer e
  have now : u.now = s.now := s.hears_now src
  refine ⟨⟨_, s.hears_record_self src, does_receive rfl peer (State.modifyRecord_of_some (s.hears_record_self src) _)⟩,
    fun not => answers (State.takeAnswer_of_not not result), fun isHold elsewhere => answers ?_, fun isHold wait heard => ?_⟩
  · rw [State.takeAnswer_of_hold isHold, State.takeHoldAnswer_elsewhere elsewhere]
  · have taken := State.takeAnswer_of_hold isHold result
    generalize u = v at *
    refine ⟨fun done moving => answers ?_, fun done stopped => ⟨_, answers rfl, ?_⟩, fun failed few => ⟨_, answers rfl, ?_⟩,
      fun failed many => ⟨_, answers rfl, ?_⟩⟩
    · subst done
      rw [taken, State.takeHoldAnswer_done wait, State.holdCheck_of_not_stopped (by exact moving)]
    · subst done
      have held := State.holdCheck_of_answered
        (s := { v with defrost := { v.defrost with answer := none, outstanding := none, answered := true } }) wait stopped heard rfl
      rw [taken, State.takeHoldAnswer_done wait, held, State.enterPumpDown_defrost]
      exact ⟨rfl, rfl, congrArg (fun n => some (n + 60000000)) now, rfl, rfl, rfl⟩
    · rw [taken, State.takeHoldAnswer_failed wait heard failed, State.failHold_defrost_of_few (by exact few)]
      exact ⟨rfl, rfl, rfl, congrArg (fun n => some (n + 600000000)) now, rfl, rfl⟩
    · rw [taken, State.takeHoldAnswer_failed wait heard failed, State.failHold_defrost_of_many (by exact many)]
      exact ⟨State.failHold_isSet_of_many many, rfl, rfl, congrArg (fun n => some (n + 60000000)) now, rfl⟩

/-- Settles O34: a record ages 3 s and 10 s after its last frame, and no other does. -/
theorem recordsAgeToStaleAndLost : Obligations.RecordsAgeToStaleAndLost := by
  intro a r s held
  refine ⟨fun fresh => ⟨_, does_ageStale held fresh, ?_⟩, fun live => ⟨_, does_ageLost held live, ?_⟩⟩
  · have touches := State.freshnessChanged_touches
      ((s.atMoment (r.heard + 3000000)).setRecord a (some { r with freshness := .stale })) a
    have view := touches.at .view
    refine ⟨touches.at .now, (State.record_of_view view a).trans (State.record_setRecord_self ..), fun b other => ?_,
      touches.at .sensors, touches.at .switches⟩
    exact (State.record_of_view view b).trans (State.record_setRecord_ne other _)
  · have touches := State.dropLive_touches (s.atMoment (r.heard + 10000000)) a r.quantities
      (some { r with freshness := .lost, grants := none, claims := [], quantities := [], notice := none })
    have view := State.dropLive_view (s.atMoment (r.heard + 10000000)) a r.quantities
      (some { r with freshness := .lost, grants := none, claims := [], quantities := [], notice := none })
    have record := (State.record_of_view view a).trans (State.record_setRecord_self ..)
    refine ⟨touches.at .now, record, fun tag => ?_, fun b other => ?_, touches.at .sensors, touches.at .switches⟩
    · rw [State.peer, record]; rfl
    · exact (State.record_of_view view b).trans (State.record_setRecord_ne other _)

end

/-! PROOF. What the operations of the share unit, the frost accountant and the defrost controller leave behind (sections 3.2, 3.3, 4.2, 4.3, 5.2 to 5.8). -/

section
namespace Sys2Proof.Machine

/-- One change after another. -/
theorem Touches.next {P Q : List Facet} {s t u : State} (h : Touches P s t) (k : Touches Q t u) : Touches (P ++ Q) s u := fun x apart =>
  x.kept_trans (h x fun mem => apart (List.mem_append_left _ mem)) (k x fun mem => apart (List.mem_append_right _ mem))

/-! ### Job commands (R161) -/

theorem State.command_job_self (s : State) (o : Output) (d : Drive) : ((s.command o d).channel o).job = d := by
  rw [State.command_job, if_pos rfl]

/-- A line interface whose wire and queue are kept takes a frame as before. -/
theorem State.queueOpen_of_kept {s t : State} (wire : WireKept s t) (queue : t.line.queue = s.line.queue) (h : s.queueOpen) :
    t.queueOpen := by
  obtain ⟨notStuck, room⟩ := h
  refine ⟨fun stuck => notStuck (wire.fields.2.2.2.2.1.symm.trans stuck), ?_⟩
  rw [Line.full, queue]; exact room

theorem Touches.queueOpen {P : List Facet} {s t : State} (h : Touches P s t) (open_ : s.queueOpen)
    (apart : autoParam (Facet.wire ∉ P ∧ Facet.queue ∉ P) Rat.normalize._auto_1) : t.queueOpen :=
  State.queueOpen_of_kept (h .wire apart.1) (h .queue apart.2) open_

/-! ### What is held for an operation (R59 to R61, R77) -/

/-- Nothing is held for an operation. -/
theorem State.holdsFor_false {s : State} {op : LoadOp} : s.holdsFor op = false ↔
    s.grantOf op = none ∧ s.entryOf op = none ∧ s.flightOf op = none ∧ s.suspensionOf op = none := by
  simp only [State.holdsFor, Bool.or_eq_false_iff, Option.isSome_eq_false_iff, Option.isNone_iff_eq_none, and_assoc]

/-- What is held for an operation is a matter of the share unit alone. -/
theorem State.holdsFor_of_share {s t : State} (h : t.share = s.share) (op : LoadOp) : t.holdsFor op = s.holdsFor op := by
  simp only [State.holdsFor, State.grantOf, State.entryOf, State.flightOf, State.suspensionOf, h]

theorem State.releaseLoad_of_none {s : State} {op : LoadOp} (h : s.grantOf op = none) : s.releaseLoad op = s := by
  rw [State.releaseLoad, h]

theorem State.dropSuspension_of_none {s : State} {op : LoadOp} (h : s.suspensionOf op = none) : s.dropSuspension op = s := by
  rw [State.dropSuspension, h]; rfl

theorem State.dropEntry_of_none {s : State} {op : LoadOp} (h : s.entryOf op = none) : s.dropEntry op = s := by
  have all : s.share.queue.filter (fun e => e.op != op) = s.share.queue := by
    rw [List.filter_eq_self]
    intro e mem
    simpa using List.find?_eq_none.mp h e mem
  rw [State.dropEntry, all]

/-- A withdrawal of an operation for which nothing is held does nothing. -/
theorem State.withdraw_of_not_held {s : State} {op : LoadOp} (h : s.holdsFor op = false) : s.withdraw op = s := by
  obtain ⟨grant, entry, flight, suspension⟩ := State.holdsFor_false.mp h
  rw [State.withdraw, State.dropEntry_of_none entry, flight]
  exact (congrArg (·.dropSuspension op) (State.releaseLoad_of_none grant)).trans (State.dropSuspension_of_none suspension)

/-- A release takes the operation's grants out of the list and leaves the others in order (R60). -/
theorem State.releaseLoad_grants (s : State) (op : LoadOp) :
    (s.releaseLoad op).share.grants = s.share.grants.filter fun g => g.op != some op := by
  unfold State.releaseLoad
  split
  · rename_i none
    refine (List.filter_eq_self.mpr fun g mem => ?_).symm
    simpa using List.find?_eq_none.mp none g mem
  · exact ((State.recomputeExcess_touches _).at .grants).trans (((State.publishRequest_touches _).at .grants).trans
      ((State.offerRelease_touches _ _ _).at .grants))

theorem State.releaseLoad_grants_ne (s : State) (op : LoadOp) : ∀ g ∈ (s.releaseLoad op).share.grants, g.op ≠ some op := by
  intro g mem
  rw [State.releaseLoad_grants] at mem
  simpa using (List.mem_filter.mp mem).2

/-- An entry found in the claim queue that it joins. -/
theorem find_insertEntry {e : ClaimEntry} {l : List ClaimEntry} {p : ClaimEntry → Bool} (new : p e = true)
    (others : ∀ x ∈ l, p x = false) : (insertEntry e l).find? p = some e := by
  induction l with
  | nil => simp [insertEntry, new]
  | cons x l ih =>
    have here := others x (.head _)
    have later := ih fun y mem => others y (.tail _ mem)
    rw [insertEntry]
    split
    · simp [new]
    · simp [here, later]

/-- The entry that a first ask makes (R59). -/
def State.askEntry (s : State) (op : LoadOp) (cls amps : Nat) : ClaimEntry :=
  { op := op, cls := cls, amps := amps, asked := s.now, retryAt := none, reclaim := false }

/-- An ask of an operation for which nothing is held joins the claim queue; only DH's may change the DH class before it. -/
theorem State.ask_of_free {s : State} {op : LoadOp} (h : s.asksFreely op) (amps : Nat) : ∃ cls dhClass,
    s.ask op amps = { s with share := { s.share with
      dhClass := dhClass, queue := insertEntry (s.askEntry op cls amps) s.share.queue } } ∧
    (s.ask op amps).entryOf op = some (s.askEntry op cls amps) ∧ (op ≠ .dh → cls = op.baseClass) := by
  obtain ⟨free, live⟩ := h
  obtain ⟨grant, entry, flight, suspension⟩ := State.holdsFor_false.mp free
  have found (cls : Nat) : (insertEntry (s.askEntry op cls amps) s.share.queue).find? (fun e => e.op == op) =
      some (s.askEntry op cls amps) :=
    find_insertEntry (by simp [State.askEntry]) fun x mem => by simpa using List.find?_eq_none.mp entry x mem
  have asks : s.ask op amps = (if op = .dh then s.reevaluateDh else s).placeAsk op amps := by
    simp [State.ask, live, grant]
  by_cases dh : op = .dh
  · subst dh
    have again : s.reevaluateDh = { s with share := { s.share with
        dhClass := escalated s.share.dhClass s.share.dhRefusals s.frost.f s.frost.t } } := by
      unfold State.reevaluateDh
      dsimp only
      split
      · rename_i e some
        exact absurd (entry.symm.trans some) (by simp)
      · rfl
    rw [if_pos rfl, again] at asks
    generalize escalated _ _ _ _ = cls at *
    have flight' : State.flightOf { s with share := { s.share with dhClass := cls } } .dh = none := flight
    have entry' : State.entryOf { s with share := { s.share with dhClass := cls } } .dh = none := entry
    have suspension' : State.suspensionOf { s with share := { s.share with dhClass := cls } } .dh = none := suspension
    rw [State.placeAsk, flight', entry', suspension'] at asks
    exact ⟨cls, cls, asks, by rw [asks]; exact found cls, fun no => absurd rfl no⟩
  · have cls : s.classOf op = op.baseClass := by
      cases op with
      | dh => exact absurd rfl dh
      | mha | mhb | aug => rfl
    have placed : s.ask op amps = s.enqueueClaim (s.askEntry op op.baseClass amps) := by
      rw [asks, if_neg dh, State.placeAsk, flight, entry, suspension, State.askEntry, ← cls]
    exact ⟨op.baseClass, s.share.dhClass, placed, by rw [placed]; exact found _, fun _ => rfl⟩

/-! ### The frost minute (R83 to R87) -/

theorem State.frostSamples_eq {s : State} {dz dr : Nat} {mz mr : Bool}
    (freezer : doorSample (s.door tagDoorFreezer) s.frost.dz s.frost.freezerMark = (dz, mz))
    (fridge : doorSample (s.door tagDoorFridge) s.frost.dr s.frost.fridgeMark = (dr, mr)) :
    s.frostSamples = { s with frost := { s.frost with
      r := if s.compressorSpeed = some 0 then s.frost.r else s.frost.r + 1
      dz := dz, freezerMark := mz, dr := dr, fridgeMark := mr, seconds := s.frost.seconds + 1 } } := by
  rw [State.frostSamples, freezer, fridge]

/-- The frost account with a new minute begun. -/
def Frost.minuteCleared (u : Frost) : Frost :=
  { u with seconds := 0, r := 0, dz := 0, dr := 0, h := 0, freezerMark := false, fridgeMark := false }

theorem State.endMinute_frost_of_discarded {s : State} (h : s.minuteDiscarded = true) : s.endMinute.frost = s.frost.minuteCleared := by
  have discarded : State.minuteDiscarded { s with frost := { s.frost with seconds := 0 } } = true := h
  unfold State.endMinute
  dsimp only
  rw [if_pos discarded]; rfl

theorem State.endMinute_frost_of_counted {s : State} (h : s.minuteDiscarded = false) :
    s.endMinute.frost = { s.frost.minuteCleared with f := min 65535 (s.frost.f + s.minuteIncrement) } := by
  have counted : ¬ State.minuteDiscarded { s with frost := { s.frost with seconds := 0 } } = true := by
    rw [show State.minuteDiscarded { s with frost := { s.frost with seconds := 0 } } = false from h]; decide
  unfold State.endMinute
  dsimp only
  rw [if_neg counted, State.demandIf_frost, State.clearMinute, State.setF_frost]; rfl

theorem State.minuteDiscarded_iff (s : State) : s.minuteDiscarded = true ↔
    s.mode = .showroom ∨ (s.defrost.state ≠ .idle ∧ s.defrost.state ≠ .pending) := by
  simp [State.minuteDiscarded]

/-- The moisture weight is a floor of a quotient that is not below 0. -/
theorem moistureWeight_eq {rh ta : Int} {m : Nat} (h : (m : Int) = rh * (ta + 100) / 4000) : moistureWeight rh ta = m := by
  rw [moistureWeight, Int.fdiv_eq_ediv_of_nonneg _ (by decide), ← h]; rfl

/-! ### The compressor hold (R101 to R106) -/

theorem State.holdCheck_state (s : State) : s.holdCheck.defrost.state = s.defrost.state ∨ s.holdCheck.defrost.state = .pumpDown := by
  unfold State.holdCheck
  split
  · split
    · exact .inr (by rw [State.enterPumpDown_defrost])
    · split
      · exact .inr (by rw [State.enterPumpDown_defrost])
      · exact .inl rfl
  · exact .inl rfl

/-- The defrost record as a hold attempt begins. -/
def Defrost.asked (u : Defrost) (now : Nat) : Defrost :=
  { u with
    state := .holdWait, hold := .asked, answered := false, outstanding := some u.seqCounter, seqCounter := u.seqCounter + 1
    answer := some (now + 2000000), speed := some (now + 180000000), renew := some (now + 60000000) }

/-- A hold attempt: the record, and in island operation the test that may end it at once. -/
theorem State.beginHold_cases (s : State) : ∃ u : State, u.defrost = s.defrost.asked s.now ∧
    (s.line.island = false → s.beginHold = u) ∧ (s.beginHold = u ∨ s.beginHold = u.holdCheck) := by
  have entered := State.setDefrost_defrost { s with defrost := { s.defrost with hold := .asked, answered := false } } .holdWait
  have touches := (State.setDefrost_touches { s with defrost := { s.defrost with hold := .asked, answered := false } } .holdWait)
  have now : _ = s.now := touches.at .now
  have wire : _ = s.line.island := (touches.at .wire).fields.2.2.1
  unfold State.beginHold
  dsimp only
  generalize State.setDefrost _ _ = v at *
  have sent := v.offerOwnRequest_defrost 32 (leBytes 2 600)
  have now' := v.offerOwnRequest_now 32 (leBytes 2 600)
  have wire' := ((v.offerOwnRequest_touches 32 (leBytes 2 600)).at .wire).fields.2.2.1
  rw [show v.offerHold = v.offerOwnRequest 32 (leBytes 2 600) from rfl]
  generalize v.offerOwnRequest _ _ = w at *
  refine ⟨{ w with defrost := { w.defrost with
      outstanding := some s.defrost.seqCounter
      answer := w.timer Config.answerTime, speed := w.timer Config.speedTime, renew := w.timer Config.minute } }, ?_, fun heard => ?_, ?_⟩
  · simp only [State.timer, now', now, sent, entered]; rfl
  · rw [if_neg]
    simp only [wire', wire, heard]; decide
  · split
    · exact .inr rfl
    · exact .inl rfl

theorem State.beginHold_defrost {s : State} (heard : s.line.island = false) : s.beginHold.defrost = s.defrost.asked s.now := by
  obtain ⟨u, record, begins, -⟩ := s.beginHold_cases
  rw [begins heard, record]

theorem State.beginHold_not_idle (s : State) : s.beginHold.defrost.state ≠ .idle := by
  obtain ⟨u, record, -, begins⟩ := s.beginHold_cases
  have waits : u.defrost.state = .holdWait := by rw [record]; rfl
  rcases begins with e | e <;> rw [e]
  · rw [waits]; decide
  · rcases u.holdCheck_state with same | down
    · rw [same, waits]; decide
    · rw [down]; decide

/-- The leave test holds. -/
def State.leaves (s : State) : Prop :=
  s.defrost.state = .pending ∧ s.mode ≠ .showroom ∧ s.classA = false ∧ s.defrost.inhibit = none ∧ s.defrost.holdRetry = none

theorem State.leaveTest_of_leaves {s : State} (h : s.leaves) : s.leaveTest = s.beginHold := if_pos h

theorem State.leaveTest_of_stays {s : State} (h : ¬ s.leaves) : s.leaveTest = s := if_neg h

theorem State.demand_of_not_idle {s : State} (h : s.defrost.state ≠ .idle) : s.demand = s := by
  have not : s.demandOutcome ≠ .taken := by unfold State.demandOutcome; split <;> simp_all
  unfold State.demand; split
  · rename_i taken; exact absurd taken not
  · rfl

/-- A demand taken: out of IDLE, and held in PENDING while the inhibit timer runs (R100 to R102). -/
theorem State.demand_of_idle {s : State} (h : s.defrost.state = .idle) : s.demand.defrost.state ≠ .idle ∧
    (s.defrost.inhibit ≠ none → s.demand.defrost.state = .pending) := by
  have outcome : s.demandOutcome = .taken := by rw [State.demandOutcome, h]
  have taken : s.demand = State.leaveTest (State.setDefrost
      { s with defrost := { s.defrost with attempts := 0, hold := .none, duty := .full } } .pending) := by
    rw [State.demand, outcome]
  have record := State.setDefrost_defrost { s with defrost := { s.defrost with attempts := 0, hold := .none, duty := .full } } .pending
  rw [taken]
  generalize State.setDefrost _ _ = u at *
  have pending : u.defrost.state = .pending := by rw [record]
  by_cases leaves : u.leaves
  · rw [State.leaveTest_of_leaves leaves]
    refine ⟨u.beginHold_not_idle, fun held => ?_⟩
    obtain ⟨-, -, -, inhibit, -⟩ := leaves
    rw [record] at inhibit
    exact absurd inhibit held
  · rw [State.leaveTest_of_stays leaves, pending]
    exact ⟨by decide, fun _ => rfl⟩

/-! ### The end of heating, the drip and the recovery (R106, R110 to R115) -/

@[simp] theorem State.heaterOff_defrost (s : State) : s.heaterOff.defrost = { s.defrost with heatSecond := none } := by
  simp [State.heaterOff]

@[simp] theorem State.enterDrip_defrost (s : State) : s.enterDrip.defrost =
    { s.defrost with state := .drip, drip := some (s.now + 300000000) } := by
  have now : ((s.setDefrost .drip).command .dr .on).now = s.now := ((State.command_touches _ .dr .on).at .now).trans (s.setDefrost_now _)
  have record : ((s.setDefrost .drip).command .dr .on).defrost = { s.defrost with state := .drip } :=
    ((State.command_touches _ .dr .on).at .defrost).trans (s.setDefrost_defrost _)
  unfold State.enterDrip
  dsimp only
  rw [State.timer, now, record]; rfl

theorem State.enterDrip_job_dr (s : State) : (s.enterDrip.channel .dr).job = .on := State.command_job_self _ .dr .on

/-- At the entries of R69 the DH class returns to 3 and its refusals to 0. -/
theorem State.setDefrost_dhClass (s : State) {d : DefrostState} (h : d.resetsClass = true) :
    (s.setDefrost d).share.dhClass = 3 ∧ (s.setDefrost d).share.dhRefusals = 0 := by
  have fan (t : State) : Facet.kept .dhClass t t.fan := t.fan_touches.at .dhClass
  unfold State.setDefrost
  dsimp only
  rw [if_pos h]
  exact fan _

/-- EF's job is off from PUMP_DOWN to RECOVERY. -/
theorem State.setDefrost_job_ef (s : State) {d : DefrostState} (idle : d ≠ .idle) (pending : d ≠ .pending) (wait : d ≠ .holdWait) :
    ((s.setDefrost d).channel .ef).job = .off := by
  have fan (t : State) (h : t.defrost.state = d) : (t.fan.channel .ef).job = .off := by
    unfold State.fan
    split
    · rename_i e; exact absurd (h.symm.trans e) idle
    · rename_i e; exact absurd (h.symm.trans e) pending
    · rename_i e; exact absurd (h.symm.trans e) wait
    · exact State.command_job_self _ .ef .off
  unfold State.setDefrost
  dsimp only
  split <;> exact fan _ (by simp)

/-- The defrost record as RECOVERY begins, and its end at once where W6 is active already. -/
theorem State.enterRecovery_defrost (s : State) :
    (s.enterRecovery.defrost = { s.defrost with
        renew := none, hold := .none, seqCounter := s.defrost.seqCounter + 1, state := .recovery
        fan := some (s.now + 300000000) } ∧ (s.enterRecovery.channel .ef).job = .off) ∨
    s.enterRecovery.defrost = { s.defrost with
        renew := none, hold := .none, seqCounter := s.defrost.seqCounter + 1, state := .idle, fan := none } := by
  have sent := s.offerOwnRequest_defrost 33 []
  have now := s.offerOwnRequest_now 33 []
  unfold State.enterRecovery
  dsimp only
  rw [show s.offerReleaseCompressor = s.offerOwnRequest 33 [] from rfl]
  generalize s.offerOwnRequest 33 [] = u at *
  have entered := State.setDefrost_defrost { u with defrost := { u.defrost with renew := none, hold := .none } } .recovery
  have off := State.setDefrost_job_ef { u with defrost := { u.defrost with renew := none, hold := .none } } (d := .recovery)
    (by decide) (by decide) (by decide)
  have now' := State.setDefrost_now { u with defrost := { u.defrost with renew := none, hold := .none } } .recovery
  generalize State.setDefrost _ _ = v at *
  split
  · refine .inr ?_
    rw [State.endRecovery, State.setDefrost_defrost, entered, sent]
  · refine .inl ⟨?_, off⟩
    simp only [State.timer, now', now, entered, sent]; rfl

/-- RELEASE_COMPRESSOR waits in its place after an entry to RECOVERY. -/
theorem State.enterRecovery_queue {s : State} (room : s.queueOpen) : s.enterRecovery.line.queue =
    insertFrame (newFrame s.image.compressor 2 (.request 33 0 s.defrost.seqCounter [])) s.line.queue := by
  have sent := State.offerOwnRequest_queue room 33 []
  rw [← show s.offerReleaseCompressor = s.offerOwnRequest 33 [] from rfl] at sent
  refine Eq.trans ?_ sent
  unfold State.enterRecovery
  dsimp only
  generalize s.offerReleaseCompressor = u
  split
  · rw [State.endRecovery, State.setDefrost_line_queue]
    exact State.setDefrost_line_queue ..
  · exact State.setDefrost_line_queue ..

/-- The record at the end of heating. -/
theorem State.endHeating_defrost (s : State) (rep : EndReport) : (s.endHeating rep).defrost =
    { s.defrost with heatSecond := none, state := .drip, drip := some (s.now + 300000000) } := by
  have touches := (s.heaterOff.releaseLoad_touches .dh).next
    (State.frostCompleted_touches (s.heaterOff.releaseLoad .dh) rep s.defrost.tEq2)
  have now : (State.frostCompleted (s.heaterOff.releaseLoad .dh) rep s.defrost.tEq2).now = s.now :=
    (touches.at .now).trans (s.heaterOff_touches.at .now)
  have record := touches.at .defrost
  rw [State.endHeating, State.enterDrip_defrost, now, show _ = _ from record, State.heaterOff_defrost]

theorem State.heaterOff_job (s : State) : (s.heaterOff.channel .dh).job = .off := State.command_job_self s .dh .off

/-- DH is off after the end of heating, and DR on. -/
theorem State.endHeating_jobs (s : State) (rep : EndReport) : ((s.endHeating rep).channel .dh).job = .off ∧
    ((s.endHeating rep).channel .dr).job = .on := by
  have touches := ((s.heaterOff.releaseLoad_touches .dh).next
    (State.frostCompleted_touches (s.heaterOff.releaseLoad .dh) rep s.defrost.tEq2)).next (State.enterDrip_touches _)
  exact ⟨(touches.at (.job .dh)).trans s.heaterOff_job, State.enterDrip_job_dr _⟩

theorem State.endHeating_grants (s : State) (rep : EndReport) : ∀ g ∈ (s.endHeating rep).share.grants, g.op ≠ some .dh := by
  have kept : (s.endHeating rep).share.grants = (s.heaterOff.releaseLoad .dh).share.grants :=
    ((State.enterDrip_touches _).at .grants).trans ((State.frostCompleted_touches _ rep s.defrost.tEq2).at .grants)
  rw [kept]
  exact State.releaseLoad_grants_ne _ _

/-- The frost account after the end of heating is that of its report. -/
theorem State.endHeating_frost (s : State) (rep : EndReport) : (s.endHeating rep).frost =
    { s.frost with
      f := 0, t := clampNat 1200 12000 (reportedT rep s.frost.t s.defrost.tEq2), hours := 0
      hourTimer := some (s.now + 3600000000), gap := .minGap, retryTimer := none } := by
  have touches := s.heaterOff_touches.next (s.heaterOff.releaseLoad_touches .dh)
  have frost := touches.frost_eq
  have now := touches.at .now
  have drip := (State.enterDrip_touches ((s.heaterOff.releaseLoad .dh).frostCompleted rep s.defrost.tEq2)).frost_eq
  rw [State.endHeating, drip, State.frostCompleted_frost, frost, show _ = _ from now]

theorem State.endHeating_overtime_isSet (s : State) : (s.endHeating .overtime).fault.isSet .defrostOvertime = true := by
  have fault := (State.enterDrip_touches ((s.heaterOff.releaseLoad .dh).frostCompleted .overtime s.defrost.tEq2)).at .fault
  rw [State.endHeating, show _ = _ from fault]
  exact State.frostCompleted_overtime_isSet _ _

end Sys2Proof.Machine
end

/-! PROOF. The timers of the frost accountant and of the defrost controller (sections 4.2, 4.3, 5.2 to 5.8). -/

section
namespace Sys2Proof.Machine

/-! ### Demands at a test (R89 to R91) -/

/-- Two tests after one another: the first that finds a demand takes the defrost out of IDLE. -/
theorem State.demandIf_twice {s : State} (idle : s.defrost.state = .idle) {a : Bool} {b : State → Bool}
    (same : ∀ c, b (s.demandIf c) = b s) :
    ((a = true ∨ b s = true) → ((s.demandIf a).demandIf (b (s.demandIf a))).defrost.state ≠ .idle ∧
      (s.defrost.inhibit ≠ none → ((s.demandIf a).demandIf (b (s.demandIf a))).defrost.state = .pending)) ∧
    (¬ (a = true ∨ b s = true) → (s.demandIf a).demandIf (b (s.demandIf a)) = s) := by
  obtain ⟨leaves, held⟩ := State.demand_of_idle idle
  cases a
  · rw [same]
    cases found : b s
    · exact ⟨fun due => due.elim nofun nofun, fun _ => rfl⟩
    · exact ⟨fun _ => ⟨leaves, held⟩, fun no => absurd (.inr rfl) no⟩
  · have again : State.demandIf (s.demandIf true) (b (s.demandIf true)) = s.demand := by
      cases b (s.demandIf true)
      · rfl
      · exact State.demand_of_not_idle leaves
    rw [again]
    exact ⟨fun _ => ⟨leaves, held⟩, fun no => absurd (.inl rfl) no⟩

/-- The threshold test on the frost account alone. -/
theorem State.thresholdTest_iff (s : State) : s.thresholdTest = true ↔
    s.frost.t ≤ s.frost.f ∧ (s.frost.gap = .retryOpen ∨ (s.frost.gap = .minGap ∧ 6 ≤ s.frost.hours)) := by
  rw [State.thresholdTest, Bool.and_eq_true, decide_eq_true_iff]
  refine and_congr_right fun _ => ?_
  cases s.frost.gap with
  | minGap => exact decide_eq_true_iff.trans (by simp [Config.minGap])
  | retryWait => simp
  | retryOpen => simp

theorem State.maxGapTest_iff (s : State) : s.maxGapTest = true ↔ 72 ≤ s.frost.hours := decide_eq_true_iff

theorem State.maxGapTest_demandIf (s : State) (c : Bool) : (s.demandIf c).maxGapTest = s.maxGapTest := by
  rw [State.maxGapTest, State.demandIf_frost]; rfl

/-! ### A failed attempt (R104) -/

/-- What a failed attempt leaves behind, whatever timers of the attempt had stopped before. -/
theorem State.failHold_facts {s u : State} {d : Nat} (now : u.now = max s.now d) (attempts : u.defrost.attempts = s.defrost.attempts)
    (seq : u.defrost.seqCounter = s.defrost.seqCounter) (image : u.image = s.image) (line : u.line = s.line) :
    (s.defrost.attempts < 2 → u.failHold.defrost.state = .pending ∧ u.failHold.defrost.attempts = s.defrost.attempts + 1 ∧
      u.failHold.defrost.hold = .none ∧ u.failHold.defrost.holdRetry = some (max s.now d + 600000000) ∧
      u.failHold.defrost.answer = none ∧ u.failHold.defrost.speed = none ∧ u.failHold.defrost.renew = none ∧
      u.failHold.defrost.seqCounter = s.defrost.seqCounter + 1 ∧ (s.queueOpen → u.failHold.line.queue =
        insertFrame (newFrame s.image.compressor 2 (.request 33 0 s.defrost.seqCounter [])) s.line.queue)) ∧
    (2 ≤ s.defrost.attempts → u.failHold.fault.isSet .holdRefused = true ∧ u.failHold.defrost.state = .pumpDown ∧
      u.failHold.defrost.hold = .refused ∧ u.failHold.defrost.dwell = some (max s.now d + 60000000) ∧
      u.failHold.defrost.renew = none) := by
  refine ⟨fun few => ?_, fun many => ?_⟩
  · have few' : u.defrost.attempts < 2 := by rw [attempts]; exact few
    rw [State.failHold_defrost_of_few few']
    refine ⟨rfl, by rw [attempts], rfl, by rw [now], rfl, rfl, rfl, by rw [seq], fun room => ?_⟩
    have room' : u.queueOpen := by rw [State.queueOpen, line]; exact room
    rw [State.failHold_queue_of_few few' room', image, seq, line]
  · have many' : 2 ≤ u.defrost.attempts := by rw [attempts]; exact many
    rw [State.failHold_defrost_of_many many']
    exact ⟨State.failHold_isSet_of_many many', rfl, rfl, by rw [now], rfl⟩

/-- What a hold attempt that begins at a timer's expiry leaves behind. -/
theorem State.leaveTest_facts {s u : State} {d : Nat} (leaves : u.leaves) (heard : u.line.island = false) (now : u.now = max s.now d)
    (seq : u.defrost.seqCounter = s.defrost.seqCounter) :
    u.leaveTest.defrost.state = .holdWait ∧ u.leaveTest.defrost.hold = .asked ∧ u.leaveTest.defrost.answered = false ∧
    u.leaveTest.defrost.outstanding = some s.defrost.seqCounter ∧ u.leaveTest.defrost.seqCounter = s.defrost.seqCounter + 1 ∧
    u.leaveTest.defrost.answer = some (max s.now d + 2000000) ∧ u.leaveTest.defrost.speed = some (max s.now d + 180000000) ∧
    u.leaveTest.defrost.renew = some (max s.now d + 60000000) := by
  rw [State.leaveTest_of_leaves leaves, State.beginHold_defrost heard, Defrost.asked, seq, now]
  exact ⟨rfl, rfl, rfl, rfl, rfl, rfl, rfl, rfl⟩

/-! ### The compressor released (R104, R106, R117, R118) -/

/-- The hold is over and RELEASE_COMPRESSOR with the old sequence tag waits in its place. -/
def State.compressorReleased (s t : State) : Prop :=
  t.defrost.hold = .none ∧ t.defrost.renew = none ∧ t.defrost.seqCounter = s.defrost.seqCounter + 1 ∧
    t.line.queue = insertFrame (newFrame s.image.compressor 2 (.request 33 0 s.defrost.seqCounter [])) s.line.queue

theorem State.failHold_compressorReleased {s : State} (few : s.defrost.attempts < 2) (room : s.queueOpen) :
    s.compressorReleased s.failHold := by
  refine ⟨?_, ?_, ?_, State.failHold_queue_of_few few room⟩ <;> rw [State.failHold_defrost_of_few few]

/-- An entry to RECOVERY, from a state that differs in no sequence tag and in no frame that waits. -/
theorem State.enterRecovery_compressorReleased {s u : State} (room : u.queueOpen) (seq : u.defrost.seqCounter = s.defrost.seqCounter)
    (image : u.image = s.image) (queue : u.line.queue = s.line.queue) : s.compressorReleased u.enterRecovery := by
  have sent := State.enterRecovery_queue room
  rw [image, seq, queue] at sent
  rcases u.enterRecovery_defrost with ⟨record, -⟩ | record <;> rw [State.compressorReleased, record, seq] <;>
    exact ⟨rfl, rfl, rfl, sent⟩

/-- RELEASE_COMPRESSOR is offered, and no hold is left. -/
def State.freed (s : State) : State :=
  let s1 := s.offerReleaseCompressor
  { s1 with defrost := { s1.defrost with hold := .none } }

/-- A RELEASE_COMPRESSOR and an entry to another state of the controller, from a state that differs in no sequence tag and in no frame that waits. -/
theorem State.setDefrost_compressorReleased {s u v : State} (room : u.queueOpen) (seq : u.defrost.seqCounter = s.defrost.seqCounter)
    (image : u.image = s.image) (queue : u.line.queue = s.line.queue) (renew : u.defrost.renew = none)
    (record : v.defrost = u.freed.defrost) (line : v.line.queue = u.freed.line.queue) (d : DefrostState) : s.compressorReleased (v.setDefrost d) := by
  have sent := State.offerOwnRequest_queue room 33 []
  rw [image, seq, queue] at sent
  have entered : (v.setDefrost d).defrost =
      { u.defrost with seqCounter := u.defrost.seqCounter + 1, hold := .none, state := d } := by
    rw [State.setDefrost_defrost, record]; rfl
  rw [State.compressorReleased, entered, State.setDefrost_line_queue, line, seq]
  exact ⟨rfl, renew, rfl, sent⟩

/-- What a defrost before heating leaves when it is given up. -/
def State.earlyEnded (s : State) : State :=
  { s with defrost := { s.defrost with answer := none, speed := none, renew := none, dwell := none, outstanding := none } }

theorem State.showroomDefrost_of_early {s : State}
    (early : s.defrost.state = .holdWait ∨ s.defrost.state = .pumpDown ∨ s.defrost.state = .heatClaim) :
    s.showroomDefrost = ((s.earlyEnded.withdraw .dh).freed).setDefrost .pending := by
  rcases early with e | e | e <;> rw [State.showroomDefrost, e] <;> rfl

theorem State.showroomDefrost_compressorReleased {s : State} (free : s.holdsFor .dh = false) (room : s.queueOpen)
    (early : s.defrost.state = .holdWait ∨ s.defrost.state = .pumpDown ∨ s.defrost.state = .heatClaim) :
    s.compressorReleased s.showroomDefrost := by
  have withdrawn : s.earlyEnded.withdraw .dh = s.earlyEnded := State.withdraw_of_not_held free
  rw [State.showroomDefrost_of_early early, withdrawn]
  exact State.setDefrost_compressorReleased (u := s.earlyEnded) room rfl rfl rfl rfl rfl rfl _

/-- What a hold attempt leaves when it is given up. -/
def State.waitEnded (s : State) : State :=
  { s with defrost := { s.defrost with answer := none, speed := none, renew := none, outstanding := none } }

theorem State.abortDefrost_of_holdWait {s : State} (h : s.defrost.state = .holdWait) :
    s.abortDefrost = s.waitEnded.freed.frostNotCompleted.setDefrost .pending := by
  rw [State.abortDefrost, h]; rfl

/-- What the dwell and the heating leave when they are given up. -/
def State.stepEnded (s : State) : State := State.heaterOff { s with defrost := { s.defrost with dwell := none } }

theorem State.abortDefrost_of_step {s : State} (h : s.defrost.state = .pumpDown ∨ s.defrost.state = .heatClaim ∨
    s.defrost.state = .heating ∨ s.defrost.state = .paused) :
    s.abortDefrost = ((s.stepEnded.withdraw .dh).frostNotCompleted).enterRecovery := by
  rcases h with e | e | e | e <;> rw [State.abortDefrost, e] <;> rfl

theorem State.abortDefrost_compressorReleased {s : State} (free : s.holdsFor .dh = false) (room : s.queueOpen)
    (idle : s.defrost.state ≠ .idle) (pending : s.defrost.state ≠ .pending) (recovery : s.defrost.state ≠ .recovery) :
    s.compressorReleased s.abortDefrost := by
  have step (h : s.defrost.state = .pumpDown ∨ s.defrost.state = .heatClaim ∨ s.defrost.state = .heating ∨
      s.defrost.state = .paused) : s.compressorReleased s.abortDefrost := by
    have touches := State.heaterOff_touches { s with defrost := { s.defrost with dwell := none } }
    have held := (State.holdsFor_of_share touches.share_eq .dh).trans free
    have record := State.heaterOff_defrost { s with defrost := { s.defrost with dwell := none } }
    rw [State.abortDefrost_of_step h, State.stepEnded, State.withdraw_of_not_held held]
    refine State.enterRecovery_compressorReleased (touches.queueOpen room) ?_ (touches.at .image) (touches.at .queue)
    show (State.heaterOff _).defrost.seqCounter = _
    rw [record]
  cases e : s.defrost.state with
  | idle => exact absurd e idle
  | pending => exact absurd e pending
  | recovery => exact absurd e recovery
  | pumpDown => exact step (.inl e)
  | heatClaim => exact step (.inr (.inl e))
  | heating => exact step (.inr (.inr (.inl e)))
  | paused => exact step (.inr (.inr (.inr e)))
  | holdWait =>
    rw [State.abortDefrost_of_holdWait e]
    have gap := s.waitEnded.freed.frostNotCompleted_touches
    exact State.setDefrost_compressorReleased (u := s.waitEnded) room rfl rfl rfl rfl (gap.at .defrost) (gap.at .queue) _
  | drip =>
    simp only [State.abortDefrost, e]
    have touches := s.command_touches .dr .off
    have record : (s.command .dr .off).defrost = s.defrost := touches.at .defrost
    refine State.enterRecovery_compressorReleased (touches.queueOpen room) ?_ (touches.at .image) (touches.at .queue)
    show (s.command .dr .off).defrost.seqCounter = _
    rw [record]

end Sys2Proof.Machine

open Sys2Proof Sys2Proof.Machine

/-- Settles O40: the samples of a second, and at the sixtieth the increment by R87. -/
theorem frostSecondSamplesAndMinuteEnds : Obligations.FrostSecondSamplesAndMinuteEnds := by
  intro d s timer r dz dr mz mr
  have freezer : doorSample (s.door tagDoorFreezer) s.frost.dz s.frost.freezerMark = (dz, mz) := by
    simp only [dz, mz]; cases s.door tagDoorFreezer <;> rfl
  have fridge : doorSample (s.door tagDoorFridge) s.frost.dr s.frost.fridgeMark = (dr, mr) := by
    simp only [dr, mr]; cases s.door tagDoorFridge <;> rfl
  let u : State := { s.atMoment d with frost := { s.frost with
    secondTimer := some (max s.now d + 1000000), seconds := s.frost.seconds + 1
    r := r, dz := dz, dr := dr, freezerMark := mz, fridgeMark := mr } }
  have sampled : State.frostSamples { s.atMoment d with frost := { s.frost with
      secondTimer := some (max s.now d + 1000000) } } = u := State.frostSamples_eq freezer fridge
  have second : State.frostSecond (s.atMoment d) = if s.frost.seconds + 1 = 60 then u.endMinute else u := by
    rw [State.frostSecond]
    dsimp only
    rw [show State.frostSamples { s.atMoment d with frost := { (s.atMoment d).frost with
      secondTimer := (s.atMoment d).timer Config.sec } } = u from sampled]
  refine ⟨fun early => does_expiry (act := State.frostSecond) rfl timer (second.trans (if_neg early)),
    fun full => ⟨_, does_expiry (act := State.frostSecond) rfl timer (second.trans (if_pos full)), ?_⟩⟩
  cases counted : u.minuteDiscarded
  · rw [State.endMinute_frost_of_counted counted]
    have notDiscarded := mt u.minuteDiscarded_iff.mpr (by rw [counted]; decide)
    refine ⟨rfl, rfl, rfl, rfl, rfl, rfl, rfl, rfl, rfl, rfl, fun no => absurd no notDiscarded, fun _ _ m weight => ?_⟩
    have weight' : moistureWeight u.ambientRh u.ambientTemp = m := moistureWeight_eq weight
    have increment : u.minuteIncrement = r / 15 + (if s.mode = .sabbath then 0 else
        2 * m * (if mz then max dz 4 else dz) + m * (if mr then max dr 8 else dr) / 2) + 8 * s.frost.h := by
      rw [State.minuteIncrement, weight']
      by_cases sabbath : s.mode = .sabbath
      · have sabbath' : u.mode = .sabbath := sabbath
        simp only [sabbath, sabbath', if_true, frostIncrement, Nat.mul_zero, Nat.zero_div]
        rfl
      · have other : u.mode ≠ .sabbath := sabbath
        simp only [sabbath, other, if_false, frostIncrement, doorSeconds, Config.freezerDoorAllowance, Config.fridgeDoorAllowance,
          ← Nat.add_assoc]
        rfl
    rw [increment]
  · rw [State.endMinute_frost_of_discarded counted]
    have discarded := u.minuteDiscarded_iff.mp counted
    refine ⟨rfl, rfl, rfl, rfl, rfl, rfl, rfl, rfl, rfl, rfl, fun _ => rfl, fun mode state => ?_⟩
    rcases discarded with showroom | ⟨idle, pending⟩
    · exact absurd showroom mode
    · exact (state.elim idle pending).elim

/-- Settles O41: the tests of R88 to R91 at an hour and at the end of the retry gap. -/
theorem hoursAndRetryGapRaiseDemands : Obligations.HoursAndRetryGapRaiseDemands := by
  intro d s
  refine ⟨fun timer => ?_, fun timer => ⟨fun idle reached => ?_, fun stays => ?_⟩⟩
  · let u : State := State.setHours { s.atMoment d with frost := { s.frost with
      hourTimer := some (max s.now d + 3600000000) } } (s.frost.hours + 1)
    have frost : u.frost = { s.frost with
        hourTimer := some (max s.now d + 3600000000), hours := min 65535 (s.frost.hours + 1) } := State.setHours_frost ..
    have record : u.defrost = s.defrost := (State.setHours_touches _ _).at .defrost
    have passed : State.hourPassed (s.atMoment d) =
        (u.demandIf u.thresholdTest).demandIf (u.demandIf u.thresholdTest).maxGapTest := rfl
    have account := ((u.demandIf u.thresholdTest).demandIf_frost (u.demandIf u.thresholdTest).maxGapTest).trans
      ((u.demandIf_frost u.thresholdTest).trans frost)
    refine ⟨_, does_expiry (act := State.hourPassed) rfl timer passed, by rw [account], by rw [account], by rw [account],
      by rw [account], by rw [account], fun idle => ?_⟩
    intro due
    obtain ⟨leaves, stays⟩ := State.demandIf_twice (s := u) (a := u.thresholdTest) (b := State.maxGapTest) (by rw [record]; exact idle)
      u.maxGapTest_demandIf
    have tests : (u.thresholdTest = true ∨ u.maxGapTest = true) ↔ due := by
      rw [State.thresholdTest_iff, State.maxGapTest_iff, frost, or_comm]
    rw [tests, record] at leaves
    rw [tests] at stays
    exact ⟨leaves, fun no => by rw [stays no, record]⟩
  all_goals
    let u : State := { s.atMoment d with frost := { s.frost with gap := .retryOpen, retryTimer := none } }
    have opens : State.retryOpens (s.atMoment d) = u.demandIf u.thresholdTest := rfl
    have test : u.thresholdTest = true ↔ s.frost.t ≤ s.frost.f := u.thresholdTest_iff.trans (and_iff_left (.inl rfl))
  · have demands : u.demandIf u.thresholdTest = u.demand := if_pos (test.mpr reached)
    refine ⟨_, does_expiry (act := State.retryOpens) rfl timer (opens.trans demands), ?_, ?_, State.demand_of_idle idle⟩ <;>
      rw [State.demand_frost]
  · refine does_expiry (act := State.retryOpens) rfl timer (opens.trans ?_)
    cases found : u.thresholdTest
    · rfl
    · rcases stays with below | busy
      · exact absurd (test.mp found) (Nat.not_le.mpr below)
      · exact State.demand_of_not_idle busy

/-- Settles O43: the attempt fails, is renewed, or begins again, as R104 to R106 and R101 say. -/
theorem holdTimersFailRenewAndRetryTheHold : Obligations.HoldTimersFailRenewAndRetryTheHold := by
  intro d s
  refine ⟨fun c due wait heard => ?_, fun timer other => ?_, fun timer wait island => ?_, fun timer hold room => ?_,
    fun c due pending mode live heard => ?_, fun timer other => ?_, fun timer other => ?_⟩
  · rcases due with ⟨rfl, timer⟩ | ⟨rfl, timer⟩
    · have late : State.answerLate (s.atMoment d) =
          State.failHold { s.atMoment d with defrost := { s.defrost with answer := none } } := if_pos ⟨wait, heard⟩
      exact ⟨_, does_expiry (act := State.answerLate) rfl timer late, State.failHold_facts rfl rfl rfl rfl rfl⟩
    · have late : State.speedLate (s.atMoment d) =
          State.failHold { s.atMoment d with defrost := { s.defrost with speed := none } } :=
        (if_pos wait).trans (if_neg (show ¬ s.line.island = true by rw [heard]; decide))
      exact ⟨_, does_expiry (act := State.speedLate) rfl timer late, State.failHold_facts rfl rfl rfl rfl rfl⟩
  · refine does_expiry (act := State.answerLate) rfl timer (if_neg fun both => ?_)
    obtain ⟨wait, heard⟩ := both
    rcases other with island | elsewhere
    · exact absurd (island.symm.trans heard) (by decide)
    · exact elsewhere wait
  · have late : State.speedLate (s.atMoment d) =
        State.enterPumpDown { s.atMoment d with defrost := { s.defrost with speed := none } } .unconfirmed :=
      (if_pos wait).trans (if_pos island)
    refine ⟨_, does_expiry (act := State.speedLate) rfl timer late, ?_⟩
    rw [State.enterPumpDown_defrost, State.enterPumpDown_fault]
    exact ⟨rfl, rfl, rfl, rfl, rfl⟩
  · have renewed : s.defrost.hold.renewed = true := by rcases hold with e | e | e <;> rw [e] <;> rfl
    intro again
    have offered : (s.atMoment d).offerHold = { s.atMoment d with
        line := { s.line with queue := insertFrame again s.line.queue }
        defrost := { s.defrost with seqCounter := s.defrost.seqCounter + 1 } } :=
      State.offerOwnRequest_of_open (s := s.atMoment d) room 32 [0x58, 0x02]
    refine does_expiry (act := State.renewHold) rfl timer ((if_pos renewed).trans ?_)
    rw [offered]; rfl
  · rcases due with ⟨rfl, timer, free⟩ | ⟨rfl, timer, free⟩
    · let u : State := { s.atMoment d with defrost := { s.defrost with holdRetry := none } }
      exact ⟨_, does_expiry (act := fun t => State.leaveTest { t with defrost := { t.defrost with holdRetry := none } }) rfl timer rfl,
        State.leaveTest_facts (u := u) ⟨pending, mode, live, free, rfl⟩ heard rfl rfl⟩
    · let u : State := { s.atMoment d with defrost := { s.defrost with inhibit := none } }
      exact ⟨_, does_expiry (act := fun t => State.leaveTest { t with defrost := { t.defrost with inhibit := none } }) rfl timer rfl,
        State.leaveTest_facts (u := u) ⟨pending, mode, live, rfl, free⟩ heard rfl rfl⟩
  all_goals
    have stays (pending : s.defrost.state = .pending) (mode : s.mode ≠ .showroom) (live : s.classA = false) :
        ¬ (s.defrost.state ≠ .pending ∨ s.mode = .showroom ∨ s.classA = true) := by
      rintro (no | no | no)
      · exact no pending
      · exact mode no
      · rw [live] at no; cases no
  · refine does_expiry (act := fun t => State.leaveTest { t with defrost := { t.defrost with holdRetry := none } }) rfl timer
      (State.leaveTest_of_stays ?_)
    rintro ⟨pending, mode, live, inhibit, -⟩
    rcases other with no | no | no | no
    · exact stays pending mode live (.inl no)
    · exact stays pending mode live (.inr (.inl no))
    · exact stays pending mode live (.inr (.inr no))
    · exact no inhibit
  · refine does_expiry (act := fun t => State.leaveTest { t with defrost := { t.defrost with inhibit := none } }) rfl timer
      (State.leaveTest_of_stays ?_)
    rintro ⟨pending, mode, live, -, retry⟩
    rcases other with no | no | no | no
    · exact stays pending mode live (.inl no)
    · exact stays pending mode live (.inr (.inl no))
    · exact stays pending mode live (.inr (.inr no))
    · exact no retry

/-- Settles O44: the dwell, the drip and the fan timer move the defrost on, and every exit from the hold span releases the compressor. -/
theorem dwellDripAndFanTimersMoveTheDefrostOn : Obligations.DwellDripAndFanTimersMoveTheDefrostOn := by
  intro d s releaseFrame
  refine ⟨fun timer free => ?_, fun timer => ?_, fun free room t exits => ?_, fun timer => ?_⟩
  · let u : State := { s.atMoment d with defrost := { s.defrost with
      dwell := none, tEq2 := 0, heatSeconds := 0, duty := .full } }
    let v : State := u.setDefrost .heatClaim
    have touches := u.setDefrost_touches .heatClaim
    have record : v.defrost = { u.defrost with state := .heatClaim } := u.setDefrost_defrost _
    have grants : v.share.grants = s.share.grants := touches.at .grants
    have free' : v.asksFreely .dh := by
      obtain ⟨held, live⟩ := free
      refine ⟨?_, (congrArg (fun x => x != (0 : BitVec 16)) (congrArg FaultUnit.aFlags (touches.at .fault))).trans live⟩
      rw [State.holdsFor_false] at held ⊢
      obtain ⟨grant, entry, flight, suspension⟩ := held
      refine ⟨?_, ?_, ?_, ?_⟩
      · rw [State.grantOf, grants]; exact grant
      · rw [State.entryOf, touches.at .claims]; exact entry
      · rw [State.flightOf, touches.at .flight]; exact flight
      · rw [State.suspensionOf, touches.at .suspended]; exact suspension
    have reply : v.askReply .dh = .wait := by
      rw [State.askReply, free'.2, (State.holdsFor_false.mp free'.1).1]; rfl
    have enters : State.enterHeatClaim (s.atMoment d) = v.ask .dh v.image.dhAmps := by
      have unfolded : State.enterHeatClaim (s.atMoment d) = match v.askReply .dh with
        | .granted amps => (v.ask .dh v.image.dhAmps).dhGranted amps none
        | _ => v.ask .dh v.image.dhAmps := rfl
      rw [unfolded, reply]
    obtain ⟨cls, dhClass, asked, entry, -⟩ := State.ask_of_free free' v.image.dhAmps
    refine ⟨v.ask .dh v.image.dhAmps, v.askEntry .dh cls v.image.dhAmps, does_expiry (act := State.enterHeatClaim) rfl timer enters, ?_⟩
    have image : v.image = s.image := touches.at .image
    have now : v.now = max s.now d := touches.at .now
    have job : (v.channel .ef).job = .off := u.setDefrost_job_ef (by decide) (by decide) (by decide)
    rw [entry]
    rw [asked]
    show v.defrost.state = _ ∧ v.defrost.tEq2 = _ ∧ v.defrost.heatSeconds = _ ∧ v.defrost.duty = _ ∧ v.defrost.dwell = _ ∧
      _ ∧ _ ∧ _ ∧ _ ∧ _ ∧ v.share.grants = _ ∧ (v.channel .ef).job = .off
    rw [record]
    exact ⟨rfl, rfl, rfl, rfl, rfl, rfl, congrArg Image.dhAmps image, now, rfl, rfl, grants, job⟩
  · let u : State := State.command { s.atMoment d with defrost := { s.defrost with drip := none } } .dr .off
    have touches := State.command_touches { s.atMoment d with defrost := { s.defrost with drip := none } } .dr .off
    have record : u.defrost = { s.defrost with drip := none } := touches.at .defrost
    have image : u.image = s.image := touches.at .image
    have queue : u.line.queue = s.line.queue := touches.at .queue
    have now : u.now = max s.now d := touches.at .now
    have frost : u.enterRecovery.frost = s.frost := (u.enterRecovery_touches.frost_eq).trans touches.frost_eq
    have job : (u.enterRecovery.channel .dr).job = .off :=
      (u.enterRecovery_touches.at (.job .dr)).trans (State.command_job_self _ .dr .off)
    have sent (room : s.queueOpen) : u.enterRecovery.line.queue = insertFrame releaseFrame s.line.queue := by
      have sent := State.enterRecovery_queue (touches.queueOpen (s := { s.atMoment d with
        defrost := { s.defrost with drip := none } }) room)
      rw [show u.defrost.seqCounter = s.defrost.seqCounter by rw [record]] at sent
      rw [sent, queue, image]
    refine ⟨u.enterRecovery, does_expiry (act := State.dripEnds) rfl timer rfl, ?_⟩
    rcases u.enterRecovery_defrost with ⟨entered, off⟩ | entered <;> rw [entered, record]
    · exact ⟨rfl, job, rfl, rfl, frost, rfl, sent, .inl ⟨rfl, congrArg (fun n => some (n + 300000000)) now, off⟩⟩
    · exact ⟨rfl, job, rfl, rfl, frost, rfl, sent, .inr ⟨rfl, rfl⟩⟩
  · rcases exits with ⟨rfl, few⟩ | ⟨rfl, idle, pending, recovery⟩ | ⟨rfl, early⟩
    · exact State.failHold_compressorReleased few room
    · exact State.abortDefrost_compressorReleased free room idle pending recovery
    · exact State.showroomDefrost_compressorReleased free room early
  · let u : State := { s.atMoment d with defrost := { s.defrost with fan := none } }
    have record : (u.setDefrost .idle).defrost = { u.defrost with state := .idle } := u.setDefrost_defrost _
    refine ⟨u.setDefrost .idle, does_expiry (act := State.endRecovery) rfl timer rfl, ?_⟩
    rw [record]
    obtain ⟨cls, refusals⟩ := u.setDefrost_dhClass (d := .idle) rfl
    exact ⟨rfl, rfl, cls, refusals, (u.setDefrost_touches .idle).frost_eq⟩

/-- Settles O45: the second counts by the duty, and the first limit met ends the heating. -/
theorem heatingSecondCountsAndEndsHeating : Obligations.HeatingSecondCountsAndEndsHeating := by
  intro d s timer heating low high q n overtime timed
  let u : State := { s.atMoment d with defrost := { s.defrost with
    heatSecond := some (max s.now d + 1000000), heatSeconds := n, tEq2 := q } }
  have weight : s.defrost.tEq2 + s.defrost.duty.weight = q := by simp only [q]; cases s.defrost.duty <;> rfl
  have run : State.heatingSecond (s.atMoment d) = if overtime then u.endHeating .overtime
      else if timed then u.endHeating .timed else u := by
    have second : State.heatingSecond (s.atMoment d) = u.limitTest := by
      rw [State.heatingSecond]
      exact congrArg (fun x => State.limitTest { s.atMoment d with defrost := { s.defrost with
        heatSecond := some (max s.now d + 1000000), heatSeconds := n, tEq2 := x } }) weight
    rw [second]
    exact if_pos heating
  have does {t : State} (e : State.heatingSecond (s.atMoment d) = t) : Does .heatingSecondExpiry s t :=
    does_expiry (act := State.heatingSecond) rfl timer e
  have ends (rep : EndReport) : (u.endHeating rep).defrost.state = .drip ∧ (u.endHeating rep).defrost.heatSecond = none ∧
      (u.endHeating rep).defrost.drip = some (max s.now d + 300000000) ∧ ((u.endHeating rep).channel .dh).job = .off ∧
      ((u.endHeating rep).channel .dr).job = .on ∧ (∀ g ∈ (u.endHeating rep).share.grants, g.op ≠ some .dh) ∧
      (u.endHeating rep).frost.f = 0 ∧ (u.endHeating rep).frost.hours = 0 ∧ (u.endHeating rep).frost.gap = .minGap ∧
      (u.endHeating rep).frost.hourTimer = some (max s.now d + 3600000000) := by
    rw [State.endHeating_defrost, State.endHeating_frost]
    exact ⟨rfl, rfl, rfl, (u.endHeating_jobs rep).1, (u.endHeating_jobs rep).2, u.endHeating_grants rep, rfl, rfl, rfl, rfl⟩
  refine ⟨fun notOver notTimed => does (run.trans ((if_neg notOver).trans (if_neg notTimed))), fun reached => ?_⟩
  by_cases long : overtime
  · obtain ⟨state, second, drip, dh, dr, grants, f, hours, gap, hour⟩ := ends .overtime
    refine ⟨_, does (run.trans (if_pos long)), state, second, drip, dh, dr, grants, f, hours, gap, hour, fun _ => ⟨?_, ?_⟩,
      fun no => absurd long no⟩
    · rw [State.endHeating_frost]
      exact clampNat_eq_self (le_max_left ..) (max_le (by decide) (show 3 * s.frost.t / 4 ≤ 12000 by omega))
    · exact u.endHeating_overtime_isSet
  · obtain ⟨state, second, drip, dh, dr, grants, f, hours, gap, hour⟩ := ends .timed
    refine ⟨_, does (run.trans ((if_neg long).trans (if_pos (reached.resolve_left long)))), state, second, drip, dh, dr, grants, f,
      hours, gap, hour, fun yes => absurd yes long, fun _ => ?_⟩
    rw [State.endHeating_frost]
    exact clampNat_eq_self low high

end

/-! PROOF. The ice controller: a mold's record through its harvest, the auger's end, a fill that opens, and the timers of a mold (sections 6.2, 7.2 to 7.5, 7.9). -/

section
namespace Sys2Proof.Machine

/-! ### A mold's outputs and record (R141) -/

theorem moldHeater_ne_ejector (m : Mold) : m.heater ≠ m.ejector := by cases m <;> decide

theorem State.command_job_ne {s : State} {o p : Output} (h : p ≠ o) (d : Drive) :
    ((s.command o d).channel p).job = (s.channel p).job := by rw [State.command_job, if_neg h]

@[simp] theorem State.command_mold (s : State) (o : Output) (d : Drive) (m : Mold) : (s.command o d).mold m = s.mold m := by
  simp [State.mold]

theorem State.setMold_ice (s : State) (m : Mold) (r : MoldRecord) :
    (s.setMold m r).ice = { s.ice with molds := s.ice.molds.set m r } := by simp [State.setMold]

@[simp] theorem State.setMold_mold (s : State) (m : Mold) (r : MoldRecord) : (s.setMold m r).mold m = r := by
  rw [State.mold, State.setMold_ice]; exact PerMold.get_set_self ..

theorem State.setMold_mold_ne (s : State) {m n : Mold} (h : n ≠ m) (r : MoldRecord) : (s.setMold m r).mold n = s.mold n := by
  rw [State.mold, State.setMold_ice]; exact PerMold.get_set_ne _ _ h

@[simp] theorem State.setMold_now (s : State) (m : Mold) (r : MoldRecord) : (s.setMold m r).now = s.now := by simp [State.setMold]

@[simp] theorem State.setMold_out (s : State) (m : Mold) (r : MoldRecord) : (s.setMold m r).out = s.out := by simp [State.setMold]

@[simp] theorem State.setMold_share (s : State) (m : Mold) (r : MoldRecord) : (s.setMold m r).share = s.share := by simp [State.setMold]

@[simp] theorem State.setMold_water (s : State) (m : Mold) (r : MoldRecord) : (s.setMold m r).water = s.water := by simp [State.setMold]

@[simp] theorem State.setMold_fault (s : State) (m : Mold) (r : MoldRecord) : (s.setMold m r).fault = s.fault := by simp [State.setMold]

@[simp] theorem State.setMold_image (s : State) (m : Mold) (r : MoldRecord) : (s.setMold m r).image = s.image := by simp [State.setMold]

@[simp] theorem State.setMold_switches (s : State) (m : Mold) (r : MoldRecord) : (s.setMold m r).switches = s.switches := by
  simp [State.setMold]

/-- A record with the tag value that the store holds is set without a report. -/
theorem State.setMold_of_agrees {s : State} {m : Mold} {r : MoldRecord} (h : s.own m.tag = r.tagValue) :
    s.setMold m r = { s with ice := { s.ice with molds := s.ice.molds.set m r } } := if_pos h

/-- Heater and ejector off leave every record as it was. -/
theorem State.moldOff_facts (s : State) (m : Mold) : (s.moldOff m).ice = s.ice ∧ ((s.moldOff m).channel m.heater).job = .off ∧
    ((s.moldOff m).channel m.ejector).job = .off ∧ (s.moldOff m).now = s.now := by
  refine ⟨by simp [State.moldOff], ?_, State.command_job_self _ _ _, by simp [State.moldOff]⟩
  rw [State.moldOff, State.command_job_ne (moldHeater_ne_ejector m), State.command_job_self]

theorem State.moldOff_mold (s : State) (m n : Mold) : (s.moldOff m).mold n = s.mold n := by
  rw [State.mold, (s.moldOff_facts m).1]; rfl

/-! ### Heat and eject (R147, R148) -/

/-- The record of a mold that enters EJECT. -/
def State.ejectRecord (s : State) (m : Mold) : MoldRecord :=
  { s.mold m with
    state := .eject, resumeEject := false, heatSecond := none
    leaveSeen := !(s.switches.home.get m).level, eject := some (s.now + 30000000) }

/-- Entry to EJECT: the record, the heater on and the ejector by its pattern. -/
theorem State.enterEject_facts (s : State) (m : Mold) : (s.enterEject m).mold m = s.ejectRecord m ∧
    ((s.enterEject m).channel m.heater).job = .on ∧ ((s.enterEject m).channel m.ejector).job = .pattern 2 := by
  refine ⟨?_, ?_, State.command_job_self _ _ _⟩
  · simp only [State.enterEject, State.command_mold, State.setMold_mold]; rfl
  · rw [State.enterEject, State.command_job_ne (moldHeater_ne_ejector m), State.command_job_self]

theorem State.heatEndTest_of_ends {s : State} {m : Mold} {atSecond : Bool} (heat : (s.mold m).state = .harvestHeat)
    (active : (s.mold m).suspended = false) (ends : s.heatEnds m atSecond = true) : s.heatEndTest m atSecond = s.enterEject m :=
  if_pos ⟨heat, active, ends⟩

theorem State.heatEndTest_of_not {s : State} {m : Mold} {atSecond : Bool} (h : s.heatEnds m atSecond = false) :
    s.heatEndTest m atSecond = s := if_neg fun both => absurd (both.2.2.symm.trans h) (by decide)

/-- What a record keeps from a harvest's claim to its end, in a state of the harvest. -/
def MoldRecord.harvestedFrom (r r' : MoldRecord) : Prop :=
  r'.state.inHarvest = true ∧ r'.leastFreeze = r.leastFreeze ∧ r'.timedFreeze = r.timedFreeze ∧ r'.short = r.short

/-- A harvest is not a wait for one. -/
theorem MoldRecord.harvestedFrom.ne {r r' : MoldRecord} (h : r.harvestedFrom r') :
    r'.state ≠ .freezing ∧ r'.state ≠ .harvestPending := by
  constructor <;> intro e <;> exact absurd h.1 (by rw [e]; decide)

/-- Entry to HARVEST_HEAT: the heater on, in HARVEST_HEAT or, its end test met at once, in EJECT. -/
theorem State.enterHarvestHeat_facts (s : State) (m : Mold) : ((s.enterHarvestHeat m).channel m.heater).job = .on ∧
    (((s.enterHarvestHeat m).mold m).state = .harvestHeat ∨ ((s.enterHarvestHeat m).mold m).state = .eject) ∧
    (s.mold m).harvestedFrom ((s.enterHarvestHeat m).mold m) := by
  have record : ((s.setMold m { s.mold m with state := .harvestHeat, heatSecond := s.timer Config.sec }).command m.heater .on).mold m =
      { s.mold m with state := .harvestHeat, heatSecond := s.timer Config.sec } := by
    rw [State.command_mold, State.setMold_mold]
  have job := State.command_job_self (s.setMold m { s.mold m with state := .harvestHeat, heatSecond := s.timer Config.sec }) m.heater .on
  unfold State.enterHarvestHeat
  dsimp only
  generalize State.command _ m.heater .on = u at *
  unfold State.heatEndTest
  split
  · obtain ⟨record', heater, -⟩ := u.enterEject_facts m
    refine ⟨heater, .inr (by rw [record']; rfl), ?_⟩
    rw [record', State.ejectRecord, record]
    exact ⟨rfl, rfl, rfl, rfl⟩
  · rw [record]
    exact ⟨job, .inl rfl, rfl, rfl, rfl, rfl⟩

/-- Entry to HARVEST_CLAIM, granted again at once or not. -/
theorem State.enterHarvestClaim_harvested (s : State) (m : Mold) : (s.mold m).harvestedFrom ((s.enterHarvestClaim m).mold m) := by
  have record : (s.setMold m { s.mold m with state := .harvestClaim }).mold m = { s.mold m with state := .harvestClaim } :=
    State.setMold_mold ..
  unfold State.enterHarvestClaim
  dsimp only
  generalize s.setMold m _ = u at *
  have kept : (u.ask m.op (u.image.ampsOf m.op)).mold m = u.mold m := (u.ask_touches _ _).at (.mold m) (by cases m <;> decide)
  split
  · obtain ⟨-, -, state, least, timed, short⟩ := (u.ask m.op (u.image.ampsOf m.op)).enterHarvestHeat_facts m
    rw [kept, record] at least timed short
    exact ⟨state, least, timed, short⟩
  · rw [kept, record]
    exact ⟨rfl, rfl, rfl, rfl⟩

theorem State.holdTestMold_of_held {s : State} (h : s.harvestHeld = true) (m : Mold) : s.holdTestMold m = s :=
  if_neg fun both => absurd (both.2.symm.trans h) (by decide)

/-- The hold test without a hold takes the mold into its harvest. -/
theorem State.holdTestMold_of_free {s : State} {m : Mold} (pending : (s.mold m).state = .harvestPending) (free : s.harvestHeld = false) :
    (s.mold m).harvestedFrom ((s.holdTestMold m).mold m) := by
  obtain ⟨state, least, timed, short⟩ := (s.setMold m { s.mold m with heatSeconds := 0 }).enterHarvestClaim_harvested m
  rw [State.setMold_mold] at least timed short
  have run : s.holdTestMold m = (s.setMold m { s.mold m with heatSeconds := 0 }).enterHarvestClaim m := if_pos ⟨pending, free⟩
  rw [run]
  exact ⟨state, least, timed, short⟩

/-- A bin that is FULL, as the input says, holds every harvest. -/
theorem State.harvestHeld_of_bin {s : State} (h : s.switches.bin.level = true) : s.harvestHeld = true := by
  simp [State.harvestHeld, h]

/-- Entry to HARVEST_PENDING: there, or on to the harvest where nothing holds it. -/
theorem State.enterHarvestPending_facts (s : State) (m : Mold) :
    (((s.enterHarvestPending m).mold m).state = .harvestPending ∨ ((s.enterHarvestPending m).mold m).state.inHarvest = true) ∧
    ((s.enterHarvestPending m).mold m).leastFreeze = (s.mold m).leastFreeze ∧
    ((s.enterHarvestPending m).mold m).timedFreeze = (s.mold m).timedFreeze ∧
    (s.switches.bin.level = true →
      (s.enterHarvestPending m).mold m = { s.mold m with state := .harvestPending }) := by
  have record : (s.setMold m { s.mold m with state := .harvestPending }).mold m = { s.mold m with state := .harvestPending } :=
    State.setMold_mold ..
  have switches : (s.setMold m { s.mold m with state := .harvestPending }).switches = s.switches := State.setMold_switches ..
  unfold State.enterHarvestPending
  generalize s.setMold m _ = u at *
  cases held : u.harvestHeld
  · obtain ⟨state, least, timed, -⟩ := State.holdTestMold_of_free (m := m) (by rw [record]) held
    rw [record] at least timed
    refine ⟨.inr state, least, timed, fun full => ?_⟩
    have holds := State.harvestHeld_of_bin (s := u) (by rw [switches]; exact full)
    exact absurd (held.symm.trans holds) (by decide)
  · rw [State.holdTestMold_of_held held, record]
    exact ⟨.inl rfl, rfl, rfl, fun _ => rfl⟩

/-! ### Freezing (R143, R144) -/

/-- The freeze test's whole condition. -/
def State.freezes (s : State) (m : Mold) : Prop := s.running = true ∧ (s.mold m).state = .freezing ∧ s.frozen m = true

theorem State.freezeTest_of_not {s : State} {m : Mold} (h : ¬ s.freezes m) : s.freezeTest m = s := if_neg h

/-- The freeze test met: out of FREEZING, both timers stopped, and in HARVEST_PENDING under a full bin. -/
theorem State.freezeTest_facts {s : State} {m : Mold} (h : s.freezes m) : ((s.freezeTest m).mold m).state ≠ .freezing ∧
    ((s.freezeTest m).mold m).leastFreeze = none ∧ ((s.freezeTest m).mold m).timedFreeze = none ∧
    (s.switches.bin.level = true → ((s.freezeTest m).mold m).state = .harvestPending) := by
  have run : s.freezeTest m =
      (s.setMold m { s.mold m with leastFreeze := none, timedFreeze := none }).enterHarvestPending m := if_pos h
  obtain ⟨state, least, timed, full⟩ :=
    (s.setMold m { s.mold m with leastFreeze := none, timedFreeze := none }).enterHarvestPending_facts m
  rw [State.setMold_mold] at least timed full
  rw [State.setMold_switches] at full
  rw [run]
  refine ⟨?_, least, timed, fun level => by rw [full level]⟩
  rcases state with pending | harvest
  · rw [pending]; decide
  · intro e; rw [e] at harvest; exact absurd harvest (by decide)

/-! ### A fill that opens (R121) -/

theorem State.setPath_water (s : State) (p : PathState) : (s.setPath p).water.path = p := by
  have lamp := (State.lamp_touches (State.write { s with water := { s.water with path := p } } .waterPathState p.code)).at .path
  rw [State.setPath, lamp, State.write_water]

/-- A fill that opens is the current one, its valve commanded, its limit running for the time that is left. -/
theorem State.openFill_facts (s : State) (f : Fill) : (s.openFill f).water.path = .filling ∧
    (s.openFill f).water.current = some f ∧ (s.openFill f).water.queue = s.water.queue ∧ (s.openFill f).water.held = s.water.held ∧
    (s.openFill f).water.fillLimit = some (s.now + (15000 - f.openMs) * 1000) ∧
    ((s.openFill f).channel f.mold.valve).job = .pattern 0 ∧
    ((s.mold f.mold).state = .fillWait → ((s.openFill f).mold f.mold).state = .filling) := by
  let u : State := State.setPath { s with water := { s.water with
    current := some f, fillLimit := s.timer ((Config.fillLimitMs - f.openMs) * Config.ms) } } .filling
  have path : u.water.path = .filling := State.setPath_water _ _
  have touches := State.setPath_touches { s with water := { s.water with
    current := some f, fillLimit := s.timer ((Config.fillLimitMs - f.openMs) * Config.ms) } } .filling
  obtain ⟨queue, current, held, limit⟩ : u.water.queue = s.water.queue ∧ u.water.current = some f ∧ u.water.held = s.water.held ∧
    u.water.fillLimit = some (s.now + (15000 - f.openMs) * 1000) := touches.at .fills
  have mold : u.mold f.mold = s.mold f.mold := touches.at (.mold f.mold) (by cases f.mold <;> decide)
  let v : State := u.openValveJob f.mold.valve
  have opens := u.openValveJob_touches f.mold.valve
  have path' : v.water.path = u.water.path := opens.at .path (by cases f.mold <;> decide)
  obtain ⟨queue', current', held', limit'⟩ : v.water.queue = u.water.queue ∧ v.water.current = u.water.current ∧
    v.water.held = u.water.held ∧ v.water.fillLimit = u.water.fillLimit := opens.at .fills (by cases f.mold <;> decide)
  have mold' : v.mold f.mold = u.mold f.mold := opens.at (.mold f.mold) (by cases f.mold <;> decide)
  have job : (v.channel f.mold.valve).job = .pattern 0 := State.command_job_self _ _ _
  have run : s.openFill f = v.fillOpened f.mold := rfl
  rw [run, State.fillOpened]
  split
  · rename_i waits
    rw [State.setMold_water, State.setMold_mold]
    refine ⟨path'.trans path, current'.trans current, queue'.trans queue, held'.trans held, limit'.trans limit, ?_, fun _ => rfl⟩
    rw [State.channel, State.setMold_out]; exact job
  · rename_i not
    refine ⟨path'.trans path, current'.trans current, queue'.trans queue, held'.trans held, limit'.trans limit, job, fun waits => ?_⟩
    exact absurd (by rw [mold', mold]; exact waits) not

/-- What lets a fill open is a matter of the start-up state, the mode and the flags alone. -/
theorem State.mayFill_of_kept {s t : State} (start : t.start.state = s.start.state) (mode : t.mode = s.mode)
    (flags : t.fault.aFlags = s.fault.aFlags) (h : s.mayFill) : t.mayFill := by
  obtain ⟨running, showroom, live⟩ := h
  refine ⟨?_, ?_, ?_⟩
  · rw [State.running, start]; exact running
  · rw [mode]; exact showroom
  · rw [State.classA, flags]; exact live

theorem State.fillsAllowed_of {s : State} (h : s.mayFill) : s.fillsAllowed = true := by
  obtain ⟨running, mode, live⟩ := h
  simp [State.fillsAllowed, running, mode, live]

theorem State.not_mayFill {s : State} (h : ¬ s.mayFill) : s.fillsAllowed = false := by
  rw [Bool.eq_false_iff]
  intro allowed
  simp only [State.fillsAllowed, Bool.and_eq_true, bne_iff_ne, Bool.not_eq_true'] at allowed
  obtain ⟨⟨running, mode⟩, live⟩ := allowed
  exact h ⟨running, mode, live⟩

/-- The start test takes the held fill first, then the head of the queue. -/
theorem State.startTest_of_held {s : State} (may : s.mayFill) {f : Fill} (held : s.water.held = some f) :
    s.startTest = { s with water := { s.water with held := none } }.openFill f := by
  rw [State.startTest, if_pos (State.fillsAllowed_of may), held]

theorem State.startTest_of_queued {s : State} (may : s.mayFill) (held : s.water.held = none) {f : Fill} {rest : List Fill}
    (queue : s.water.queue = f :: rest) :
    s.startTest = { s with water := { s.water with queue := rest } }.openFill { f with openMs := 0 } := by
  rw [State.startTest, if_pos (State.fillsAllowed_of may), held, queue]

theorem State.startTest_of_none {s : State} (h : ¬ s.mayFill ∨ (s.water.held = none ∧ s.water.queue = [])) :
    s.startTest = s.setPath .idle := by
  rcases h with no | ⟨held, queue⟩
  · rw [State.startTest, State.not_mayFill no]; rfl
  · rw [State.startTest, held, queue]
    split <;> rfl

/-! ### Stall and the auger's end (R149, R158) -/

/-- AUG off and IDLE. -/
theorem State.augerOff_facts (s : State) : s.augerOff.ice = { s.ice with runTimer := none, auger := .idle } ∧
    (s.augerOff.channel .aug).job = .off := by
  have job := State.command_job_self s .aug .off
  have ice : (s.command .aug .off).ice = s.ice := (s.command_touches .aug .off).ice_eq
  unfold State.augerOff
  dsimp only
  generalize s.command .aug .off = u at *
  have lamp := State.lamp_touches { u with ice := { u.ice with runTimer := none, auger := .idle } }
  refine ⟨?_, (lamp.at (.job .aug)).trans job⟩
  rw [State.setAuger, show _ = _ from lamp.ice_eq, ice]

/-- A stall: heater, ejector and grant off, and the count of stalls. -/
theorem State.stall_facts (s : State) (m : Mold) : ((s.stall m).channel m.heater).job = .off ∧
    ((s.stall m).channel m.ejector).job = .off ∧ (∀ g ∈ (s.stall m).share.grants, g.op ≠ some m.op) ∧
    ((s.mold m).stalls = 0 → (s.stall m).mold m = { s.mold m with
      eject := none, heatSeconds := 0, stalls := 1, state := .stallWait, stallWait := some (s.now + 120000000) }) ∧
    ((s.mold m).stalls ≠ 0 → (s.stall m).mold m = { s.mold m with
      eject := none, heatSeconds := 0, stalls := (s.mold m).stalls + 1, state := .outOfService } ∧
      (s.stall m).fault.isSet .ejectorStall = true) := by
  obtain ⟨ice, heater, ejector, now⟩ := s.moldOff_facts m
  have touches := (s.moldOff m).releaseLoad_touches m.op
  have grants := State.releaseLoad_grants_ne (s.moldOff m) m.op
  have record : ((s.moldOff m).releaseLoad m.op).mold m = s.mold m :=
    (touches.at (.mold m) (by cases m <;> decide)).trans (s.moldOff_mold m m)
  have now' : ((s.moldOff m).releaseLoad m.op).now = s.now := (touches.at .now).trans now
  have heater' := (touches.at (.job m.heater) (by cases m <;> decide)).trans heater
  have ejector' := (touches.at (.job m.ejector) (by cases m <;> decide)).trans ejector
  unfold State.stall
  dsimp only
  generalize (s.moldOff m).releaseLoad m.op = u at *
  rw [record]
  by_cases first : (s.mold m).stalls = 0
  · rw [if_pos (by rw [first])]
    refine ⟨?_, ?_, ?_, fun _ => ?_, fun no => absurd first no⟩
    · rw [State.channel, State.setMold_out]; exact heater'
    · rw [State.channel, State.setMold_out]; exact ejector'
    · rw [State.setMold_share]; exact grants
    · rw [State.setMold_mold, State.timer, now', first]; rfl
  · rw [if_neg (by omega)]
    have raised := State.raiseB_touches u (f := .ejectorStall) rfl
    refine ⟨?_, ?_, ?_, fun no => absurd no first, fun _ => ⟨State.setMold_mold .., ?_⟩⟩
    · rw [State.channel, State.setMold_out]
      exact (raised.at (.job m.heater) (by cases m <;> decide)).trans heater'
    · rw [State.channel, State.setMold_out]
      exact (raised.at (.job m.ejector) (by cases m <;> decide)).trans ejector'
    · rw [State.setMold_share, show _ = _ from raised.at .grants]; exact grants
    · rw [State.setMold_fault]; exact State.raiseB_isSet _ _

end Sys2Proof.Machine

open Sys2Proof Sys2Proof.Machine

/-- Settles O54: each timer of a mold, and the auger's run timer. -/
theorem moldAndAugerTimersMoveTheirUnit : Obligations.MoldAndAugerTimersMoveTheirUnit := by
  intro d m s agrees r only
  have set (r' : MoldRecord) (same : r'.tagValue = r.tagValue) : (s.atMoment d).setMold m r' = only r' :=
    State.setMold_of_agrees (agrees.trans same.symm)
  have record (r' : MoldRecord) : (only r').mold m = r' := PerMold.get_set_self ..
  have retries : State.fillRetries (s.atMoment d) m = (only { r with fillRetry := none }).fillRequest m :=
    congrArg (State.fillRequest · m) (set { r with fillRetry := none } rfl)
  refine ⟨fun timer new busy => ?_, fun timer known => ?_, fun timer may idle held queue current => ?_, ?_⟩
  · have known : (only { r with fillRetry := none }).fillKnown m = false := new
    have path : (only { r with fillRetry := none }).water.path ≠ .idle := busy
    have requested : (only { r with fillRetry := none }).fillRequest m = { only { r with fillRetry := none } with
        water := { s.water with queue := s.water.queue ++ [{ mold := m, owed := r.owed, attempt := r.attempt, openMs := 0 }] } } := by
      rw [State.fillRequest, known, record]
      exact if_neg path
    exact ⟨_, does_expiry (act := fun t => t.fillRetries m) rfl timer (retries.trans requested), rfl, record _, rfl, rfl⟩
  · have known' : (only { r with fillRetry := none }).fillKnown m = true := known
    exact does_expiry (act := fun t => t.fillRetries m) rfl timer (retries.trans (if_pos known'))
  · have known : (only { r with fillRetry := none }).fillKnown m = false := by
      show s.fillKnown m = false
      simp [State.fillKnown, queue, current, held]
    let f : Fill := { mold := m, owed := r.owed, attempt := r.attempt, openMs := 0 }
    let u : State := { only { r with fillRetry := none } with water := { s.water with queue := s.water.queue ++ [f] } }
    have requested : (only { r with fillRetry := none }).fillRequest m = u.startTest := by
      rw [State.fillRequest, known, record]
      exact if_pos idle
    have starts : u.startTest = { u with water := { u.water with queue := [] } }.openFill f :=
      State.startTest_of_queued (s := u) (f := f) (rest := []) (State.mayFill_of_kept (s := s) rfl rfl rfl may) held
        (by show s.water.queue ++ [f] = [f]; rw [queue]; rfl)
    obtain ⟨path, current', -, -, -, job, filling⟩ := State.openFill_facts { u with water := { u.water with queue := [] } } f
    refine ⟨_, does_expiry (act := fun t => t.fillRetries m) rfl timer ((retries.trans requested).trans starts), path, current', job,
      fun waits => filling ?_⟩
    exact (congrArg MoldRecord.state (record { r with fillRetry := none })).trans waits
  · refine ⟨fun c due running freezing => ?_, fun timer stays => ?_, fun timer stays => ?_, fun timer heat active => ?_,
      fun timer => ?_, fun timer free => ?_, fun timer running => ?_⟩
    · have frozen {r' : MoldRecord} (state : r'.state = r.state)
          (finished : s.substituted m.channel = false ∧ r'.leastFreeze = none ∧ s.watchActive m.freezePoint = true ∨
            s.substituted m.channel = true ∧ r'.timedFreeze = none) : (only r').freezes m := by
        refine ⟨running, by rw [record, state]; exact freezing, ?_⟩
        have same : (only r').substituted m.channel = s.substituted m.channel := rfl
        have point : (only r').watchActive m.freezePoint = s.watchActive m.freezePoint := rfl
        rw [State.frozen, record, same, point]
        rcases finished with ⟨good, least, active⟩ | ⟨lost, timed⟩
        · rw [good, least, active]; rfl
        · rw [lost, timed]; rfl
      rcases due with ⟨rfl, timer, good, active⟩ | ⟨rfl, timer, lost⟩
      · exact ⟨_, does_expiry (act := fun t => (t.setMold m { t.mold m with leastFreeze := none }).freezeTest m) rfl timer
          (congrArg (State.freezeTest · m) (set { r with leastFreeze := none } rfl)),
          State.freezeTest_facts (frozen rfl (.inl ⟨good, rfl, active⟩))⟩
      · exact ⟨_, does_expiry (act := fun t => (t.setMold m { t.mold m with timedFreeze := none }).freezeTest m) rfl timer
          (congrArg (State.freezeTest · m) (set { r with timedFreeze := none } rfl)),
          State.freezeTest_facts (frozen rfl (.inr ⟨lost, rfl⟩))⟩
    · refine does_expiry (act := fun t => (t.setMold m { t.mold m with leastFreeze := none }).freezeTest m) rfl timer
        ((congrArg (State.freezeTest · m) (set { r with leastFreeze := none } rfl)).trans (State.freezeTest_of_not ?_))
      rintro ⟨running, freezing, frozen⟩
      have same : (only { r with leastFreeze := none }).substituted m.channel = s.substituted m.channel := rfl
      have point : (only { r with leastFreeze := none }).watchActive m.freezePoint = s.watchActive m.freezePoint := rfl
      rw [record] at freezing
      rw [State.frozen, record, same, point] at frozen
      rcases stays with no | no | ⟨good, no⟩ | ⟨lost, no⟩
      · exact absurd (running.symm.trans no) (by decide)
      · exact no freezing
      · rw [good, no] at frozen; simp at frozen
      · rw [lost] at frozen; exact no (Option.isNone_iff_eq_none.mp frozen)
    · refine does_expiry (act := fun t => (t.setMold m { t.mold m with timedFreeze := none }).freezeTest m) rfl timer
        ((congrArg (State.freezeTest · m) (set { r with timedFreeze := none } rfl)).trans (State.freezeTest_of_not ?_))
      rintro ⟨running, freezing, frozen⟩
      have same : (only { r with timedFreeze := none }).substituted m.channel = s.substituted m.channel := rfl
      have point : (only { r with timedFreeze := none }).watchActive m.freezePoint = s.watchActive m.freezePoint := rfl
      rw [record] at freezing
      rw [State.frozen, record, same, point] at frozen
      rcases stays with no | no | ⟨good, no⟩
      · exact absurd (running.symm.trans no) (by decide)
      · exact no freezing
      · rw [good] at frozen
        obtain ⟨least, active⟩ := Bool.and_eq_true_iff.mp frozen
        rcases no with no | no
        · exact no (Option.isNone_iff_eq_none.mp least)
        · exact absurd (active.symm.trans no) (by decide)
    · intro n ends
      let u : State := only { r with heatSecond := some (max s.now d + 1000000), heatSeconds := n }
      have recordU : u.mold m = { r with heatSecond := some (max s.now d + 1000000), heatSeconds := n } := record _
      have second : State.heaterSecond (s.atMoment d) m = u.heatEndTest m true :=
        congrArg (State.heatEndTest · m true) (set { r with heatSecond := some (max s.now d + 1000000), heatSeconds := n } rfl)
      have test : u.heatEnds m true = true ↔ ends := by
        have same : u.substituted m.channel = s.substituted m.channel := rfl
        have point : u.watchActive m.releasePoint = s.watchActive m.releasePoint := rfl
        rw [State.heatEnds, recordU, same, point, Bool.or_eq_true, Bool.true_and]
        refine or_congr_left ?_
        cases s.substituted m.channel
        · simp
        · simp
      refine ⟨fun no => ?_, fun yes => ?_⟩
      · exact does_expiry (act := fun t => t.heaterSecond m) rfl timer
          (second.trans (State.heatEndTest_of_not (Bool.eq_false_iff.mpr (mt test.mp no))))
      · obtain ⟨ejected, heater, ejector⟩ := u.enterEject_facts m
        refine ⟨_, does_expiry (act := fun t => t.heaterSecond m) rfl timer
          (second.trans (State.heatEndTest_of_ends (by rw [recordU]; exact heat) (by rw [recordU]; exact active) (test.mpr yes))), ?_⟩
        rw [ejected, State.ejectRecord, recordU]
        exact ⟨rfl, rfl, rfl, rfl, rfl, heater, ejector⟩
    · obtain ⟨heater, ejector, grants, first, later⟩ := (s.atMoment d).stall_facts m
      refine ⟨_, does_expiry (act := fun t => t.stall m) rfl timer rfl, heater, ejector, grants, ?_⟩
      by_cases none : r.stalls = 0
      · rw [first none]
        exact ⟨rfl, rfl, by rw [none], fun _ => ⟨rfl, rfl⟩, fun no => absurd none no⟩
      · obtain ⟨record', flag⟩ := later none
        rw [record']
        exact ⟨rfl, rfl, rfl, fun no => absurd no none, fun _ => ⟨rfl, flag⟩⟩
    · let u : State := (only { r with stallWait := none }).setMold m { r with stallWait := none, state := .harvestClaim }
      have recordU : u.mold m = { r with stallWait := none, state := .harvestClaim } := State.setMold_mold ..
      have share : u.share = s.share := State.setMold_share ..
      have out : u.out = s.out := State.setMold_out ..
      have now : u.now = max s.now d := State.setMold_now ..
      have image : u.image = s.image := State.setMold_image ..
      have fault : u.fault = s.fault := State.setMold_fault ..
      have free' : u.asksFreely m.op :=
        ⟨(State.holdsFor_of_share share m.op).trans free.1,
          (congrArg (fun x : FaultUnit => x.aFlags != 0) fault).trans free.2⟩
      have reply : u.askReply m.op = .wait := by
        rw [State.askReply, free'.2, (State.holdsFor_false.mp free'.1).1]; rfl
      have claims : State.enterHarvestClaim ((s.atMoment d).setMold m { r with stallWait := none }) m =
          u.ask m.op (u.image.ampsOf m.op) := by
        have unfolded : (only { r with stallWait := none }).enterHarvestClaim m =
            match ((only { r with stallWait := none }).setMold m
              { (only { r with stallWait := none }).mold m with state := .harvestClaim }).askReply m.op with
            | .granted _ => (State.ask ((only { r with stallWait := none }).setMold m
              { (only { r with stallWait := none }).mold m with state := .harvestClaim }) m.op
                (State.image ((only { r with stallWait := none }).setMold m
              { (only { r with stallWait := none }).mold m with state := .harvestClaim }) |>.ampsOf m.op)).enterHarvestHeat m
            | _ => State.ask ((only { r with stallWait := none }).setMold m
              { (only { r with stallWait := none }).mold m with state := .harvestClaim }) m.op
                (State.image ((only { r with stallWait := none }).setMold m
              { (only { r with stallWait := none }).mold m with state := .harvestClaim }) |>.ampsOf m.op) := rfl
        rw [set { r with stallWait := none } rfl, unfolded, record]
        rw [show ((only { r with stallWait := none }).setMold m
          { ({ r with stallWait := none } : MoldRecord) with state := .harvestClaim }) = u from rfl, reply]
      obtain ⟨cls, dhClass, asked, entry, base⟩ := State.ask_of_free free' (u.image.ampsOf m.op)
      refine ⟨_, u.askEntry m.op cls (u.image.ampsOf m.op),
        does_expiry (act := fun t => (t.setMold m { t.mold m with stallWait := none }).enterHarvestClaim m) rfl timer claims,
        ?_, ?_, entry, congrArg (fun i : Image => i.ampsOf m.op) image, now, ?_, rfl, rfl, ?_, ?_⟩
      · rw [asked]; exact congrArg MoldRecord.state recordU
      · rw [asked]; exact congrArg MoldRecord.stallWait recordU
      · exact (base (moldOp_ne_dh m)).trans (by cases m <;> rfl)
      · rw [asked]; show u.share.grants = _; rw [share]
      · rw [asked]; exact out
    · let u : State := State.command (s.atMoment d) .aug .off
      have ends : State.endAuger (s.atMoment d) = (u.releaseLoad .aug).augerOff := by
        rw [State.endAuger, show (s.atMoment d).ice.auger = .running from running]
      obtain ⟨ice, job⟩ := (u.releaseLoad .aug).augerOff_facts
      have kept : (u.releaseLoad .aug).ice = s.ice :=
        ((u.releaseLoad_touches .aug).ice_eq).trans (State.command_touches (s.atMoment d) .aug .off).ice_eq
      refine ⟨_, does_expiry (act := State.endAuger) rfl timer ends, ?_⟩
      rw [ice, kept]
      refine ⟨rfl, rfl, job, ?_, rfl⟩
      rw [show _ = _ from ((u.releaseLoad .aug).augerOff_touches.at .grants)]
      exact State.releaseLoad_grants_ne _ _

end

/-! PROOF. The thermistor channels (section 1.2). -/

section
namespace Sys2Proof.Machine

@[simp] theorem perChannel_get_set {α : Type} (p : PerChannel α) (c : Channel) (x : α) : (p.set c x).get c = x := by cases c <;> rfl

@[simp] theorem perChannel_set_set {α : Type} (p : PerChannel α) (c : Channel) (x y : α) : (p.set c x).set c y = p.set c y := by
  cases c <;> rfl

theorem channelTag_unreported (c : Channel) : c.tag.unreported :=
  (unreported_iff _).mpr (by cases c <;> decide)

theorem channelFault_isB (c : Channel) : c.fault.isA = false := by cases c <;> rfl

/-- The jobs at a channel's change leave every sensor as it was. -/
theorem State.channelJobs_sensors (s : State) (c : Channel) : (s.channelJobs c).sensors = s.sensors :=
  (s.channelJobs_touches c).at .sensors

/-- The state at a sample, its timer restarted. -/
def State.sampling (s : State) (c : Channel) (raw : BitVec 12) (d : Nat) : State :=
  { s.atMoment d with
    pins := { s.pins with thermistor := s.pins.thermistor.set c raw }
    sensors := s.sensors.set c { s.sensors.get c with sample := some (max s.now d + 1000000) } }

/-- A sample of a channel whose timer runs. -/
theorem does_sample {s t : State} {c : Channel} {raw : BitVec 12} {d : Nat} (timer : (s.sensors.get c).sample = some d)
    (e : (if goodSample s.image.table raw.toNat then (s.sampling c raw d).goodReading c raw.toNat
      else (s.sampling c raw d).badReading c) = t) : Does (.sample c raw) s t := by
  refine does_of_eq (u := onExpiry (s.sensors.get c).sample (fun t => t.takeSample c) (s.setThermistor c raw)) rfl ?_
  rw [timer, onExpiry_some, ← e, State.takeSample]
  have pin : (State.atMoment (s.setThermistor c raw) d).pins.thermistor.get c = raw := perChannel_get_set ..
  rw [pin]
  rfl

theorem State.sampling_get (s : State) (c : Channel) (raw : BitVec 12) (d : Nat) :
    (s.sampling c raw d).sensors.get c = { s.sensors.get c with sample := some (max s.now d + 1000000) } := perChannel_get_set ..

/-- The state after a good sample, before the jobs and the watch unit hear of it. -/
def State.converted (s : State) (c : Channel) (raw : Nat) : State :=
  (s.setSensor c { s.sensors.get c with state := .normal, badCount := 0, hold := none }).putOwn c.tag (convert s.image.table raw)

theorem State.converted_sensors (s : State) (c : Channel) (raw : Nat) : (s.converted c raw).sensors =
    s.sensors.set c { s.sensors.get c with state := .normal, badCount := 0, hold := none } := by
  unfold State.converted State.putOwn
  split <;> rfl

theorem State.converted_fault (s : State) (c : Channel) (raw : Nat) : (s.converted c raw).fault = s.fault := by
  unfold State.converted State.putOwn
  split <;> rfl

theorem State.converted_own (s : State) (c : Channel) (raw : Nat) : (s.converted c raw).own c.tag = convert s.image.table raw := by
  rw [State.converted, State.own_putOwn, if_pos rfl]

@[simp] theorem State.overtempTest_fields (s : State) (c : Channel) : (s.overtempTest c).sensors = s.sensors ∧
    (s.overtempTest c).fault = s.fault ∧ (s.overtempTest c).store = s.store := by
  unfold State.overtempTest
  split
  · split <;> exact ⟨rfl, rfl, rfl⟩
  · exact ⟨rfl, rfl, rfl⟩

/-- A good sample brings the channel to NORMAL (R9). -/
theorem State.goodReading_sensors (s : State) (c : Channel) (raw : Nat) : (s.goodReading c raw).sensors =
    s.sensors.set c { s.sensors.get c with state := .normal, badCount := 0, hold := none } := by
  have notified (t : State) : (t.validityChange c).sensors = t.sensors := (t.notify_touches _).at .sensors
  have jobs : (if (s.sensors.get c).state = .normal then s.converted c raw else (s.converted c raw).channelJobs c).sensors =
      (s.converted c raw).sensors := by
    split
    · rfl
    · exact State.channelJobs_sensors _ c
  rw [← State.converted_sensors, ← jobs]
  unfold State.goodReading
  dsimp only
  rw [(State.overtempTest_fields _ c).1]
  split
  · exact notified _
  · rfl

/-- In NORMAL a good sample writes its temperature and touches no flag (R9). -/
theorem State.goodReading_of_normal {s : State} {c : Channel} (normal : (s.sensors.get c).state = .normal) (raw : Nat) :
    (s.goodReading c raw).own c.tag = convert s.image.table raw ∧ (s.goodReading c raw).fault = s.fault := by
  unfold State.goodReading
  dsimp only
  rw [if_pos normal, (State.overtempTest_fields _ c).2.1, State.own, (State.overtempTest_fields _ c).2.2]
  rw [show (s.setSensor c { s.sensors.get c with state := .normal, badCount := 0, hold := none }).putOwn c.tag
    (convert s.image.table raw) = s.converted c raw from rfl]
  split
  · exact ⟨(State.own_notify _ _ (channelTag_unreported c)).trans (State.converted_own s c raw),
      ((State.notify_touches _ _).at .fault).trans (State.converted_fault s c raw)⟩
  · exact ⟨State.converted_own s c raw, State.converted_fault s c raw⟩

/-- A bad sample below the third, or of a channel that gives no temperature, counts and no more (R10). -/
theorem State.badReading_of_count {s : State} {c : Channel}
    (h : (s.sensors.get c).badCount + 1 < 3 ∨ (s.sensors.get c).state = .holding ∨ (s.sensors.get c).state = .substituted) :
    s.badReading c = s.setSensor c { s.sensors.get c with badCount := min 3 ((s.sensors.get c).badCount + 1) } := by
  unfold State.badReading
  dsimp only
  split
  · rename_i normal
    have few : ¬ min 3 ((s.sensors.get c).badCount + 1) = 3 := by
      rcases h with few | no | no
      · omega
      · exact absurd (normal.symm.trans no) (by decide)
      · exact absurd (normal.symm.trans no) (by decide)
    rw [if_neg few]
  · rename_i starting
    have few : ¬ min 3 ((s.sensors.get c).badCount + 1) = 3 := by
      rcases h with few | no | no
      · omega
      · exact absurd (starting.symm.trans no) (by decide)
      · exact absurd (starting.symm.trans no) (by decide)
    rw [if_neg few]
  · rfl

/-- The third bad sample raises the channel's fault: HOLDING out of NORMAL, SUBSTITUTED out of STARTING (R10). -/
theorem State.badReading_third {s : State} {c : Channel} (third : 3 ≤ (s.sensors.get c).badCount + 1) {state : ChannelState}
    {hold : Timer}
    (moves : (s.sensors.get c).state = .normal ∧ state = .holding ∧ hold = some (s.now + 60000000) ∨
      (s.sensors.get c).state = .starting ∧ state = .substituted ∧ hold = (s.sensors.get c).hold) :
    (s.badReading c).sensors = s.sensors.set c { s.sensors.get c with state := state, badCount := 3, hold := hold } ∧
    (s.badReading c).own c.tag = s.own c.tag ∧ (s.badReading c).fault.isSet c.fault = true := by
  have count : min 3 ((s.sensors.get c).badCount + 1) = 3 := by omega
  have touches := State.raiseB_touches (s.setSensor c { s.sensors.get c with badCount := 3 }) (channelFault_isB c)
  have sensors : _ = s.sensors.set c { s.sensors.get c with badCount := 3 } := touches.at .sensors
  have now : _ = s.now := touches.at .now
  have own : _ = s.own c.tag := touches.at (.own c.tag) (by cases c <;> decide)
  have flag := State.raiseB_isSet (s.setSensor c { s.sensors.get c with badCount := 3 }) c.fault
  rcases moves with ⟨normal, rfl, rfl⟩ | ⟨starting, rfl, rfl⟩
  · have run : s.badReading c = State.setSensor (State.raiseB (s.setSensor c { s.sensors.get c with badCount := 3 }) c.fault) c
        { (State.raiseB (s.setSensor c { s.sensors.get c with badCount := 3 }) c.fault).sensors.get c with
          state := .holding
          hold := (State.raiseB (s.setSensor c { s.sensors.get c with badCount := 3 }) c.fault).timer Config.sensorHold } := by
      unfold State.badReading
      dsimp only
      rw [normal, count]; rfl
    rw [run]
    generalize State.raiseB _ c.fault = u at *
    refine ⟨?_, own, flag⟩
    rw [State.setSensor, sensors, perChannel_get_set, State.timer, now]
    exact perChannel_set_set ..
  · have run : s.badReading c = State.setSensor (State.raiseB (s.setSensor c { s.sensors.get c with badCount := 3 }) c.fault) c
        { (State.raiseB (s.setSensor c { s.sensors.get c with badCount := 3 }) c.fault).sensors.get c with
          state := .substituted } := by
      unfold State.badReading
      dsimp only
      rw [starting, count]; rfl
    rw [run]
    generalize State.raiseB _ c.fault = u at *
    refine ⟨?_, own, flag⟩
    rw [State.setSensor, sensors, perChannel_get_set]
    exact perChannel_set_set ..

/-- With no job acting on the channel nothing is tested (R111, R143, R147). -/
theorem State.channelJobs_of_idle {s : State} (defrost : s.defrost.state ≠ .heating)
    (molds : ∀ m : Mold, (s.mold m).state ≠ .freezing ∧ (s.mold m).state ≠ .harvestHeat) (c : Channel) : s.channelJobs c = s := by
  have mold (m : Mold) : s.moldChannelChange m = s := by
    have freeze : s.freezeTest m = s := State.freezeTest_of_not fun h => (molds m).1 h.2.1
    rw [State.moldChannelChange, freeze]
    exact if_neg fun h => (molds m).2 h.1
  cases c with
  | evap => exact if_neg fun h => defrost h.1
  | freezerAir => rfl
  | moldA => exact mold .a
  | moldB => exact mold .b

end Sys2Proof.Machine

open Sys2Proof Sys2Proof.Machine

/-- Settles O46: a good sample, a bad one by its count, and the hold that runs out. -/
theorem samplesAndTheHoldMoveTheirChannel : Obligations.SamplesAndTheHoldMoveTheirChannel := by
  intro c raw d s r next
  have sampled (x : ChannelRecord) : (s.sampling c raw d).sensors.set c x = s.sensors.set c x := perChannel_set_set ..
  have get := s.sampling_get c raw d
  refine ⟨fun timer good normal => ⟨_, does_sample timer (if_pos good), ?_⟩, fun timer good => ⟨_, does_sample timer (if_pos good), ?_⟩,
    fun timer bad => ⟨fun few => ⟨_, does_sample timer (if_neg (by rw [bad]; decide)), ?_⟩, fun third normal =>
      ⟨_, does_sample timer (if_neg (by rw [bad]; decide)), ?_⟩, fun third starting =>
      ⟨_, does_sample timer (if_neg (by rw [bad]; decide)), ?_⟩⟩, fun timer holding => ?_, fun stopped => ?_⟩
  · rw [State.goodReading_sensors, sampled, get]
    obtain ⟨own, fault⟩ := State.goodReading_of_normal (s := s.sampling c raw d) (by rw [get]; exact normal) raw.toNat
    exact ⟨rfl, own, fault⟩
  · rw [State.goodReading_sensors, sampled, get]
  · rw [State.badReading_of_count (by rw [get]; exact few), State.setSensor, sampled, get]
    exact ⟨rfl, rfl, rfl⟩
  · obtain ⟨sensors, own, flag⟩ := State.badReading_third (s := s.sampling c raw d) (c := c) (by rw [get]; exact third)
      (.inl ⟨by rw [get]; exact normal, rfl, rfl⟩)
    rw [sensors, sampled, get]
    exact ⟨rfl, own, flag⟩
  · obtain ⟨sensors, own, flag⟩ := State.badReading_third (s := s.sampling c raw d) (c := c) (by rw [get]; exact third)
      (.inr ⟨by rw [get]; exact starting, rfl, rfl⟩)
    rw [sensors, sampled, get]
    exact ⟨rfl, own, flag⟩
  · let u : State := State.write ((s.atMoment d).setSensor c { r with state := .substituted, hold := none }) c.tag
      (s.image.substitutes.get c)
    have touches := State.write_touches ((s.atMoment d).setSensor c { r with state := .substituted, hold := none }) c.tag
      (s.image.substitutes.get c)
    let v : State := u.validityChange c
    have notified := u.notify_touches (.own c.tag)
    have run : State.holdRunsOut (s.atMoment d) c = v.channelJobs c := if_pos holding
    refine ⟨_, does_expiry (act := fun t => t.holdRunsOut c) rfl timer run, ?_, fun defrost molds => ?_⟩
    · exact (v.channelJobs_sensors c).trans ((notified.at .sensors).trans (touches.at .sensors (by cases c <;> decide)))
    · have idle : v.channelJobs c = v := by
        refine State.channelJobs_of_idle ?_ (fun m => ?_) c
        · rw [show v.defrost = s.defrost from (notified.at .defrost).trans (touches.at .defrost (by cases c <;> decide))]
          exact defrost
        · rw [show v.mold m = s.mold m from (notified.at (.mold m) (by cases m <;> decide)).trans
            (touches.at (.mold m) (by cases m <;> cases c <;> decide))]
          exact molds m
      rw [idle]
      refine ⟨?_, (notified.at .fault).trans (touches.at .fault (by cases c <;> decide))⟩
      rw [show v = u.notify (.own c.tag) from rfl, State.own_notify _ _ (channelTag_unreported c),
        State.own_write _ _ _ (channelTag_unreported c), if_pos rfl]
  · refine does_of_eq (u := onExpiry (s.sensors.get c).sample (fun t => t.takeSample c) (s.setThermistor c raw)) rfl ?_
    rw [show (s.sensors.get c).sample = none from stopped, onExpiry_none]; rfl

end

/-! PROOF. The watch points: the delay timer, a change of the source, and a change of the tracking reference (section 1.4). -/

section
namespace Sys2Proof.Machine

/-! ### What follows from a point's move (R25) -/

/-- A move that leaves the effective state leaves nothing to follow. -/
theorem watchSignals_of_effective (i : Fin 16) {w w' : WatchPoint} (h : w'.effective = w.effective) : watchSignals i w w' = [] := by
  simp [watchSignals, WatchPoint.isActive, h]
  exact fun active no => active.resolve_left no

/-- A move between two states neither of which is active leaves nothing to follow. -/
theorem watchSignals_of_inactive (i : Fin 16) {w w' : WatchPoint} (before : w.isActive = false) (after : w'.isActive = false) :
    watchSignals i w w' = [] := by
  have notActive : w'.effective ≠ .active := fun e => by simp [WatchPoint.isActive, e] at after
  simp [watchSignals, before, notActive]

/-- An entry to ACTIVE from a state that is not active. -/
theorem watchSignals_of_entry (i : Fin 16) {w w' : WatchPoint} (before : w.isActive = false) (after : w'.effective = .active) :
    watchSignals i w w' = [.watchEntered i] := by
  have notActive : w.effective ≠ .active := fun e => by simp [WatchPoint.isActive, e] at before
  simp [watchSignals, before, after, notActive]

theorem WatchPoint.effective_of_unforced {w : WatchPoint} (h : w.forced = .none) : w.effective = w.computed := by
  rw [WatchPoint.effective, h]

theorem WatchPoint.isActive_of_unforced {w : WatchPoint} (h : w.forced = .none) :
    w.isActive = (w.computed == .active || w.computed == .latched) := by
  rw [WatchPoint.isActive, WatchPoint.effective_of_unforced h]

/-- A forced state hides every move of the computed one. -/
theorem WatchPoint.effective_of_forced {w w' : WatchPoint} (h : w.forced ≠ .none) (same : w'.forced = w.forced) :
    w'.effective = w.effective := by
  rw [WatchPoint.effective, WatchPoint.effective, same]
  cases e : w.forced with
  | none => exact absurd e h
  | active => rfl
  | inactive => rfl

theorem State.putWatch_of_silent {s : State} {i : Fin 16} {w : WatchPoint} (h : watchSignals i s.watch[i] w = []) :
    s.putWatch i w = { s with watch := s.watch.set i w } := by
  rw [State.putWatch, h, List.append_nil]

theorem State.putWatch_get (s : State) (i : Fin 16) (w : WatchPoint) : (s.putWatch i w).watch[i] = w := by
  simp [State.putWatch]

theorem State.putWatch_get_ne (s : State) {i k : Fin 16} (h : k ≠ i) (w : WatchPoint) : (s.putWatch i w).watch[k] = s.watch[k] := by
  have apart : i.val ≠ k.val := fun e => h (Fin.ext e).symm
  simp [State.putWatch, apart]

/-! ### Evaluation (R18) -/

/-- The value lies beyond the threshold. -/
def WatchConfig.trips (cfg : WatchConfig) (level value : Int) : Prop :=
  match cfg.sense with
  | .above => level < value
  | .below => value < level

/-- The value lies at or within the break level, the hysteresis inside the threshold. -/
def WatchConfig.breaks (cfg : WatchConfig) (level value : Int) : Prop :=
  match cfg.sense with
  | .above => value ≤ level - cfg.hysteresis
  | .below => level + cfg.hysteresis ≤ value

theorem evaluate_isTrue {cfg : WatchConfig} {level value : Int} {c : Condition} (notTrue : c ≠ .isTrue) (h : cfg.trips level value) :
    evaluate cfg level value c = .isTrue := by
  cases sense : cfg.sense <;> rw [WatchConfig.trips, sense] at h <;> cases c
  case above.isTrue | below.isTrue => exact absurd rfl notTrue
  all_goals simp only [evaluate, sense]; exact if_pos h

theorem evaluate_isFalse {cfg : WatchConfig} {level value : Int} {c : Condition}
    (h : (c = .isTrue ∧ cfg.breaks level value) ∨ (c = .unknown ∧ ¬ cfg.trips level value)) :
    evaluate cfg level value c = .isFalse := by
  rcases h with ⟨rfl, breaks⟩ | ⟨rfl, notTrips⟩ <;> cases sense : cfg.sense
  case inl.above | inl.below => rw [WatchConfig.breaks, sense] at breaks; simp only [evaluate, sense]; exact if_pos breaks
  case inr.above | inr.below => rw [WatchConfig.trips, sense] at notTrips; simp only [evaluate, sense]; exact if_neg notTrips

theorem evaluate_same {cfg : WatchConfig} {level value : Int} {c : Condition} (makes : ¬ (c ≠ .isTrue ∧ cfg.trips level value))
    (ends : ¬ ((c = .isTrue ∧ cfg.breaks level value) ∨ (c = .unknown ∧ ¬ cfg.trips level value))) :
    evaluate cfg level value c = c := by
  cases c with
  | isTrue =>
    have notBreaks : ¬ cfg.breaks level value := fun k => ends (.inl ⟨rfl, k⟩)
    cases sense : cfg.sense <;> rw [WatchConfig.breaks, sense] at notBreaks <;> simp only [evaluate, sense] <;> exact if_neg notBreaks
  | isFalse =>
    have notTrips : ¬ cfg.trips level value := fun k => makes ⟨by decide, k⟩
    cases sense : cfg.sense <;> rw [WatchConfig.trips, sense] at notTrips <;> simp only [evaluate, sense] <;> exact if_neg notTrips
  | unknown =>
    exact absurd (Classical.byContradiction fun no => ends (.inr ⟨rfl, no⟩)) fun k => makes ⟨by decide, k⟩

/-- The condition's event moves the point; a condition that stays moves nothing. -/
theorem applyCondition_same (cfg : WatchConfig) (now : Nat) (w : WatchPoint) : applyCondition cfg now w.condition w = w := if_pos rfl

theorem applyCondition_isTrue {cfg : WatchConfig} {w : WatchPoint} (now : Nat) (h : w.condition ≠ .isTrue) :
    applyCondition cfg now .isTrue w = onTrueEvent cfg now { w with condition := .isTrue } := if_neg fun e => h e.symm

theorem applyCondition_isFalse {cfg : WatchConfig} {w : WatchPoint} (now : Nat) (h : w.condition ≠ .isFalse) :
    applyCondition cfg now .isFalse w = onFalseEvent cfg now { w with condition := .isFalse } := if_neg fun e => h e.symm

/-- The moves of a condition-true event (Table 1-8). -/
theorem onTrueEvent_facts (cfg : WatchConfig) (now : Nat) (w : WatchPoint) :
    (onTrueEvent cfg now w).condition = w.condition ∧
    (w.computed = .inactive → cfg.makeDelay = 0 → (onTrueEvent cfg now w).computed = .active) ∧
    (w.computed = .inactive → cfg.makeDelay ≠ 0 →
      (onTrueEvent cfg now w).computed = .making ∧ (onTrueEvent cfg now w).delay = .running (now + cfg.makeDelay * 1000000)) ∧
    (w.computed = .breaking → (onTrueEvent cfg now w).computed = .active ∧ (onTrueEvent cfg now w).delay = .stopped) ∧
    (w.computed ≠ .inactive → w.computed ≠ .breaking → onTrueEvent cfg now w = w) := by
  unfold onTrueEvent
  cases w.computed with
  | inactive =>
    by_cases delay : cfg.makeDelay = 0
    · rw [if_pos delay]
      exact ⟨rfl, fun _ _ => rfl, fun _ no => absurd delay no, nofun, fun no => absurd rfl no⟩
    · rw [if_neg delay]
      exact ⟨rfl, fun _ no => absurd no delay, fun _ _ => ⟨rfl, rfl⟩, nofun, fun no => absurd rfl no⟩
  | breaking => exact ⟨rfl, nofun, nofun, fun _ => ⟨rfl, rfl⟩, fun _ no => absurd rfl no⟩
  | making | active | latched | inhibited => exact ⟨rfl, nofun, nofun, nofun, fun _ _ => rfl⟩

/-- The moves of a condition-false event (Table 1-8). -/
theorem onFalseEvent_facts (cfg : WatchConfig) (now : Nat) (w : WatchPoint) :
    (onFalseEvent cfg now w).condition = w.condition ∧
    (w.computed = .making → (onFalseEvent cfg now w).computed = .inactive ∧ (onFalseEvent cfg now w).delay = .stopped) ∧
    (w.computed = .inhibited → (onFalseEvent cfg now w).computed = .inactive) ∧
    (w.computed = .active → cfg.latch = true → (onFalseEvent cfg now w).computed = .latched) ∧
    (w.computed = .active → cfg.latch = false → cfg.breakDelay = 0 → (onFalseEvent cfg now w).computed = .inactive) ∧
    (w.computed = .active → cfg.latch = false → cfg.breakDelay ≠ 0 →
      (onFalseEvent cfg now w).computed = .breaking ∧ (onFalseEvent cfg now w).delay = .running (now + cfg.breakDelay * 1000000)) ∧
    (w.computed ≠ .making → w.computed ≠ .inhibited → w.computed ≠ .active → onFalseEvent cfg now w = w) := by
  unfold onFalseEvent
  cases w.computed with
  | making => exact ⟨rfl, fun _ => ⟨rfl, rfl⟩, nofun, nofun, nofun, nofun, fun no => absurd rfl no⟩
  | inhibited => exact ⟨rfl, nofun, fun _ => rfl, nofun, nofun, nofun, fun _ no => absurd rfl no⟩
  | active =>
    cases cfg.latch
    · by_cases delay : cfg.breakDelay = 0
      · rw [if_neg (by decide), if_pos delay]
        exact ⟨rfl, nofun, nofun, nofun, fun _ _ _ => rfl, fun _ _ no => absurd delay no, fun _ _ no => absurd rfl no⟩
      · rw [if_neg (by decide), if_neg delay]
        exact ⟨rfl, nofun, nofun, nofun, fun _ _ no => absurd no delay, fun _ _ _ => ⟨rfl, rfl⟩, fun _ _ no => absurd rfl no⟩
    · rw [if_pos rfl]
      exact ⟨rfl, nofun, nofun, fun _ _ => rfl, nofun, nofun, fun _ _ no => absurd rfl no⟩
  | inactive | breaking | latched => exact ⟨rfl, nofun, nofun, nofun, nofun, nofun, fun _ _ _ => rfl⟩

/-- No event of the condition changes the threshold. -/
theorem applyCondition_threshold (cfg : WatchConfig) (now : Nat) (c : Condition) (w : WatchPoint) :
    (applyCondition cfg now c w).known = w.known ∧ (applyCondition cfg now c w).threshold = w.threshold := by
  unfold applyCondition onTrueEvent onFalseEvent
  repeat' split
  all_goals exact ⟨rfl, rfl⟩

/-! ### A point hears a change (R17, R18, R22) -/

theorem State.recheck_of_holds {s : State} {i : Fin 16} (h : s.pointValue i = none ∨ s.thresholdKnown i = false) :
    s.recheck i = s.putWatch i { s.watch[i] with delay := s.watch[i].delay.pause s.now } := by
  unfold State.recheck
  split
  · rename_i v value known
    rcases h with none | unknown
    · exact absurd (value.symm.trans none) (by simp)
    · exact absurd (known.symm.trans unknown) (by decide)
  · rfl

theorem State.recheck_of_value {s : State} {i : Fin 16} {v : Int} (value : s.pointValue i = some v) (known : s.thresholdKnown i = true) :
    s.recheck i = s.putWatch i (applyCondition s.image.watch[i] s.now
      (evaluate s.image.watch[i] (s.threshold i) v s.watch[i].condition)
      { s.watch[i] with delay := s.watch[i].delay.resume s.now }) := by
  rw [State.recheck, value, known]

/-- A recheck leaves the point's threshold as it was. -/
theorem State.recheck_threshold (s : State) (i : Fin 16) : (s.recheck i).watch[i].known = s.watch[i].known ∧
    (s.recheck i).watch[i].threshold = s.watch[i].threshold := by
  unfold State.recheck
  split <;> rw [State.putWatch_get]
  · exact applyCondition_threshold _ _ _ _
  · exact ⟨rfl, rfl⟩

theorem State.hear_source {s : State} {src : Source} {i : Fin 16} (source : s.image.watch[i].source = some src)
    (other : s.image.watch[i].reference ≠ some src) : s.hear src i = s.recheck i := by
  unfold State.hear
  dsimp only
  rw [if_neg other, if_pos source]

theorem State.hear_reference {s : State} {src : Source} {i : Fin 16} (h : s.image.watch[i].reference = some src) :
    s.hear src i = (s.recompute i).recheck i := by
  unfold State.hear
  dsimp only
  rw [if_pos h]

/-- The expiry of a point's delay timer. -/
theorem does_watchDelay {s : State} {i : Fin 16} {d : Nat} {c : Computed} {g : List Signal} (running : s.watch[i].delay = .running d)
    (moves : onDelay s.watch[i] = { s.watch[i] with computed := c, delay := .stopped })
    (signals : watchSignals i s.watch[i] { s.watch[i] with computed := c, delay := .stopped } = g) :
    Does (.watchDelayExpiry i) s { s.atMoment d with
      watch := s.watch.set i { s.watch[i] with computed := c, delay := .stopped }, agenda := s.agenda ++ g } := by
  refine does_expiry (act := fun t => t.putWatch i (onDelay t.watch[i])) rfl (d := d) (by rw [running]; rfl) ?_
  show (s.atMoment d).putWatch i (onDelay s.watch[i]) = _
  rw [moves, ← signals]
  rfl

end Sys2Proof.Machine

open Sys2Proof Sys2Proof.Machine

/-- Settles O50: the delay timer's moves, a change of the source, and a change of the reference. -/
theorem watchDelayMovesItsPoint : Obligations.WatchDelayMovesItsPoint := by
  intro i d s w cfg
  refine ⟨?_, fun src source other => ?_, fun src q tr tracking reference source => ?_⟩
  · intro after running
    have inactive {c : Computed} (computed : w.computed = c) (no : c ≠ .active) (no' : c ≠ .latched) (free : w.forced = .none) :
        w.isActive = false := by
      rw [WatchPoint.isActive_of_unforced free, computed]
      simp [no, no']
    refine ⟨fun making free => ?_, fun making forced => ?_, fun breaking => ?_⟩
    · refine does_watchDelay running (by rw [onDelay, show s.watch[i].computed = .making from making]) ?_
      exact watchSignals_of_entry i (inactive making (by decide) (by decide) free) (WatchPoint.effective_of_unforced free)
    · refine does_watchDelay running (by rw [onDelay, show s.watch[i].computed = .making from making]) ?_
      exact watchSignals_of_effective i (WatchPoint.effective_of_forced forced rfl)
    · refine does_watchDelay running (by rw [onDelay, show s.watch[i].computed = .breaking from breaking]) ?_
      by_cases forced : w.forced = .none
      · exact watchSignals_of_inactive i (inactive breaking (by decide) (by decide) forced)
          (WatchPoint.isActive_of_unforced (w := { w with computed := .inactive, delay := .stopped }) forced)
      · exact watchSignals_of_effective i (WatchPoint.effective_of_forced forced rfl)
  · intro t paused resumed
    have heard : t = s.recheck i := State.hear_source source other
    have value : s.pointValue i = s.sourceValue src := by rw [State.pointValue, show s.image.watch[i].source = some src from source]
    have pauses : w.delay.pause s.now = paused := by simp only [paused]; cases w.delay <;> rfl
    have resumes : w.delay.resume s.now = resumed := by simp only [resumed]; cases w.delay <;> rfl
    refine ⟨fun holds => ?_, fun v valid known => ?_⟩
    · have holds' : s.pointValue i = none ∨ s.thresholdKnown i = false := by
        rcases holds with none | ⟨tracks, unknown⟩
        · exact .inl (value.trans none)
        · refine .inr ?_
          have tracks' : s.image.watch[i].tracking.isNone = false :=
            Bool.eq_false_iff.mpr fun none => tracks (Option.isNone_iff_eq_none.mp none)
          rw [State.thresholdKnown, tracks', show s.watch[i].known = false from unknown]; rfl
      rw [heard, State.recheck_of_holds holds']
      refine (State.putWatch_of_silent (s := s) (i := i) (w := { w with delay := w.delay.pause s.now })
        (watchSignals_of_effective i rfl)).trans ?_
      exact congrArg (fun x => { s with watch := s.watch.set i { w with delay := x } }) pauses
    · intro level trips breaks makes ends
      have known' : s.thresholdKnown i = true := by
        rw [State.thresholdKnown, Bool.or_eq_true, Option.isNone_iff_eq_none]; exact known
      have threshold : s.threshold i = level := by
        simp only [State.threshold, level, Option.isNone_iff_eq_none]; rfl
      have moved : t = s.putWatch i (applyCondition cfg s.now (evaluate cfg level v w.condition) { w with delay := resumed }) := by
        rw [heard, State.recheck_of_value (value.trans valid) known', threshold]
        exact congrArg (fun x => s.putWatch i (applyCondition cfg s.now (evaluate cfg level v w.condition) { w with delay := x }))
          resumes
      have point : t.watch[i] = applyCondition cfg s.now (evaluate cfg level v w.condition) { w with delay := resumed } := by
        rw [moved, State.putWatch_get]
      refine ⟨by rw [moved]; rfl, fun k ne => by rw [moved]; exact State.putWatch_get_ne s ne _, fun notMakes notEnds => ?_,
        fun make => ?_, fun falls => ?_⟩
      · rw [point, evaluate_same (cfg := cfg) notMakes notEnds]
        exact applyCondition_same cfg s.now { w with delay := resumed }
      · obtain ⟨notTrue, trip⟩ := make
        rw [point, evaluate_isTrue (cfg := cfg) notTrue trip, applyCondition_isTrue (w := { w with delay := resumed }) s.now notTrue]
        exact onTrueEvent_facts cfg s.now { w with condition := .isTrue, delay := resumed }
      · have notFalse : w.condition ≠ .isFalse := by
          rcases falls with ⟨isTrue, -⟩ | ⟨unknown, -⟩
          · rw [isTrue]; decide
          · rw [unknown]; decide
        rw [point, evaluate_isFalse (cfg := cfg) falls, applyCondition_isFalse (w := { w with delay := resumed }) s.now notFalse]
        exact onFalseEvent_facts cfg s.now { w with condition := .isFalse, delay := resumed }
  · intro t
    have heard : t = (s.recompute i).recheck i := State.hear_reference (by
      rw [WatchConfig.reference, show s.image.watch[i].tracking = some tr from tracking]; exact reference)
    obtain ⟨known, threshold⟩ := (s.recompute i).recheck_threshold i
    rw [heard, known, threshold]
    have value : tr.reference.bind s.sourceValue = s.sourceValue src := by rw [reference]; rfl
    refine ⟨fun v valid => ?_, fun none => ?_⟩
    · have computed : s.recompute i = s.putWatch i { s.watch[i] with threshold := clampTo q.signed (v + tr.offset), known := true } := by
        rw [State.recompute, show s.image.watch[i].tracking = some tr from tracking,
          show s.image.watch[i].source = some q from source]
        simp only [value, valid]
      rw [computed, State.putWatch_get]
      exact ⟨rfl, rfl⟩
    · have unchanged : s.recompute i = s := by
        rw [State.recompute, show s.image.watch[i].tracking = some tr from tracking,
          show s.image.watch[i].source = some q from source]
        simp only [value, none]
      rw [unchanged]
      exact ⟨rfl, rfl⟩

end

/-! PROOF. A class A raise: the record, the flag, and what it releases, locks and ends (sections 3.7, 5.8, 6.6, 7.7, 7.9, 9.2 to 9.4). -/

section
namespace Sys2Proof.Machine

/-! ### Offered frames and the share unit (R34, R63)

Only a CLAIM's fate is a matter of the share unit. -/

theorem State.sendStuck_share {s : State} {f : TxFrame} (h : f.isClaim = false) : (s.sendStuck f).share = s.share := by
  unfold State.sendStuck
  split
  · exact State.reportSent_share (by simpa using h)
  · exact State.reportSent_share (s := s.countFrame) h

theorem State.offer_share {s : State} {f : TxFrame} (h : f.isClaim = false) : (s.offer f).share = s.share := by
  unfold State.offer
  split
  · exact State.sendStuck_share h
  · split <;> rfl

theorem State.offerRelease_share (s : State) (tag : Byte) (cls : Nat) : (s.offerRelease tag cls).share = s.share :=
  State.offer_share rfl

theorem State.offerOwnRequest_share (s : State) (kind : Nat) (args : List Byte) : (s.offerOwnRequest kind args).share = s.share :=
  State.offer_share (s := s) rfl

theorem State.offerStatus_share (s : State) : s.offerStatus.share = s.share := by
  unfold State.offerStatus
  split
  · exact State.sendStuck_share rfl
  · split
    · rfl
    · split <;> rfl

theorem State.offerNotice_share (s : State) (cls : Nat) (code fclass : Byte) : (s.offerNotice cls code fclass).share = s.share := by
  unfold State.offerNotice
  dsimp only
  split
  · exact State.sendStuck_share rfl
  · repeat' split
    all_goals rfl

theorem State.publishRequest_share (s : State) : s.publishRequest.share = s.share := State.offerStatus_share _

/-! ### Nothing held (R61, R80) -/

theorem State.released_of_kept {s t : State} (grants : t.share.grants = s.share.grants) (queue : t.share.queue = s.share.queue)
    (suspended : t.share.suspended = s.share.suspended) (flight : t.share.flight = s.share.flight) (h : s.released) : t.released := by
  unfold State.released at *
  rw [grants, queue, suspended, flight]; exact h

theorem State.released_of_share {s t : State} (share : t.share = s.share) (h : s.released) : t.released :=
  State.released_of_kept (by rw [share]) (by rw [share]) (by rw [share]) (by rw [share]) h

theorem Touches.released {P : List Facet} {s t : State} (h : Touches P s t) (held : s.released)
    (apart : autoParam (Facet.grants ∉ P ∧ Facet.claims ∉ P ∧ Facet.suspended ∉ P ∧ Facet.flight ∉ P) Rat.normalize._auto_1) :
    t.released :=
  State.released_of_kept (h .grants apart.1) (h .claims apart.2.1) (h .suspended apart.2.2.1) (h .flight apart.2.2.2) held

theorem State.cancelFlight_share (s : State) : s.cancelFlight.share.grants = s.share.grants ∧
    s.cancelFlight.share.queue = s.share.queue ∧ s.cancelFlight.share.suspended = s.share.suspended ∧
    ∀ c, s.cancelFlight.share.flight = some c → c.cancelled = true := by
  unfold State.cancelFlight
  split
  · rename_i none
    exact ⟨rfl, rfl, rfl, fun c some => absurd (none.symm.trans some) (by simp)⟩
  · split
    · exact ⟨rfl, rfl, rfl, nofun⟩
    · refine ⟨rfl, rfl, rfl, fun c some => ?_⟩
      cases some; rfl

/-- A withdrawal leaves nothing held where nothing was. -/
theorem State.withdraw_released {s : State} (h : s.released) (op : LoadOp) : (s.withdraw op).released := by
  obtain ⟨grants, queue, suspended, flight⟩ := h
  have entry : s.entryOf op = none := by rw [State.entryOf, queue]; rfl
  have free (t : State) (kept : t.share.grants = s.share.grants) (kept' : t.share.suspended = s.share.suspended) :
      (t.releaseLoad op).dropSuspension op = t := by
    have grant : t.grantOf op = none := by
      rw [State.grantOf, kept, List.find?_eq_none]
      intro g mem
      rw [grants g mem]; simp
    have suspension : t.suspensionOf op = none := by rw [State.suspensionOf, kept', suspended]; rfl
    rw [State.releaseLoad_of_none grant, State.dropSuspension_of_none suspension]
  rw [State.withdraw, State.dropEntry_of_none entry]
  split
  · obtain ⟨grants', queue', suspended', flight'⟩ := s.cancelFlight_share
    rw [free _ grants' suspended']
    exact ⟨by rw [grants']; exact grants, by rw [queue']; exact queue, by rw [suspended']; exact suspended, flight'⟩
  · rw [free s rfl rfl]
    exact ⟨grants, queue, suspended, flight⟩

theorem State.releaseAll_share (s : State) : s.releaseAll.share =
    { s.share with grants := s.share.grants.filter fun g => g.op.isNone } := by
  have offers (l : List Grant) (t : State) : (l.foldl (fun st g => st.offerRelease g.tag g.cls) t).share = t.share := by
    induction l generalizing t with
    | nil => rfl
    | cons g l ih => exact (ih _).trans (t.offerRelease_share g.tag g.cls)
  exact offers _ _

/-- A general release leaves nothing held (R80). -/
theorem State.generalRelease_released (s : State) : s.generalRelease.released := by
  obtain ⟨grants, -, -, flight⟩ := s.releaseAll.cancelFlight_share
  have emptied : State.released { s.releaseAll.cancelFlight with
      share := { s.releaseAll.cancelFlight.share with queue := [], suspended := [], reclaim := none } } := by
    refine ⟨fun g mem => ?_, rfl, rfl, flight⟩
    have mem' : g ∈ s.releaseAll.share.grants := by rw [← grants]; exact mem
    rw [State.releaseAll_share] at mem'
    simpa using (List.mem_filter.mp mem').2
  unfold State.generalRelease
  dsimp only
  refine (State.recomputeExcess_touches _).released ?_
  split
  · exact State.released_of_share (State.publishRequest_share _) emptied
  · exact emptied

/-! ### The capture and the flag (R170, R176) -/

@[simp] theorem FaultUnit.put_record (u : FaultUnit) (f : FaultId) (on : Bool) : (u.put f on).record = u.record := by
  unfold FaultUnit.put; dsimp only; split <;> rfl

/-- A set flag of class A is a class A flag. -/
theorem State.classA_of_isSet {s : State} {f : FaultId} (isA : f.isA = true) (h : s.fault.isSet f = true) : s.classA = true := by
  rw [FaultUnit.isSet, if_pos isA] at h
  rw [State.classA, bne_iff_ne]
  intro zero
  rw [zero] at h; simp at h

theorem State.setFlag_record (s : State) (f : FaultId) : (s.setFlag f).fault.record =
    if captures s.fault.record f then some (s.detailNow f) else s.fault.record := by
  rw [State.setFlag_fault, FaultUnit.put_record, State.capture]
  split <;> rfl

theorem raiseEvent_eq (f : FaultId) : raiseEvent f = 0x80 + f.code := by simp [raiseEvent]

theorem lastEvent_unreported : OwnTag.lastEvent.unreported := (unreported_iff _).mpr (by decide)

theorem State.setFlag_lastEvent (s : State) (f : FaultId) : (s.setFlag f).own .lastEvent = 0x80 + f.code := by
  rw [State.setFlag, State.writeEvent, State.own_write _ _ _ lastEvent_unreported, if_pos rfl, raiseEvent_eq]

/-! ### The water path locked (R138) -/

@[simp] theorem State.setPath_path (s : State) (p : PathState) : (s.setPath p).water.path = p := State.setPath_water s p

theorem State.lockPath_path (s : State) : s.lockPath.water.path = .locked := by
  unfold State.lockPath
  split
  · assumption
  · exact State.setPath_path ..
  · split <;> exact State.setPath_path ..
  · exact State.setPath_path ..
  · split <;> exact State.setPath_path ..

/-! ### The defrost aborted (R117) -/

/-- What the abort of the defrost's step may touch. -/
def abortStepFacets : List Facet := .gap :: .job .dh :: .job .dr :: holdFacets ++ withdrawFacets

theorem State.abortDefrost_touches_step (s : State) : Touches abortStepFacets s s.abortDefrost := by
  have step (h : s.defrost.state = .pumpDown ∨ s.defrost.state = .heatClaim ∨ s.defrost.state = .heating ∨
      s.defrost.state = .paused) : Touches abortStepFacets s s.abortDefrost := by
    rw [State.abortDefrost_of_step h]
    exact ((((Touches.defrost s { s.defrost with dwell := none }).trans (State.heaterOff_touches _).mono).trans
      (State.withdraw_touches _ _).mono).trans (State.frostNotCompleted_touches _).mono).trans (State.enterRecovery_touches _).mono
  cases e : s.defrost.state with
  | pumpDown => exact step (.inl e)
  | heatClaim => exact step (.inr (.inl e))
  | heating => exact step (.inr (.inr (.inl e)))
  | paused => exact step (.inr (.inr (.inr e)))
  | holdWait =>
    rw [State.abortDefrost_of_holdWait e]
    have ended : Touches abortStepFacets s s.waitEnded := Touches.defrost s _
    have freed : Touches abortStepFacets s.waitEnded s.waitEnded.freed :=
      (State.offerReleaseCompressor_touches _).mono.trans (Touches.defrost _ _)
    exact ((ended.trans freed).trans (State.frostNotCompleted_touches _).mono).trans (State.setDefrost_touches _ _).mono
  | drip =>
    have run : s.abortDefrost = State.enterRecovery { s.command .dr .off with
        defrost := { (s.command .dr .off).defrost with drip := none } } := by rw [State.abortDefrost, e]
    rw [run]
    exact ((s.command_touches .dr .off).mono.trans (Touches.defrost _ _)).trans (State.enterRecovery_touches _).mono
  | idle | pending | recovery =>
    rw [State.abortDefrost, e]; exact .refl _ s

/-- RECOVERY is entered, and left at once where W6 is active. -/
theorem State.enterRecovery_state (s : State) : s.enterRecovery.defrost.state = .recovery ∨ s.enterRecovery.defrost.state = .idle := by
  rcases s.enterRecovery_defrost with ⟨record, -⟩ | record
  · exact .inl (by rw [record])
  · exact .inr (by rw [record])

theorem State.abortDefrost_state (s : State) : s.abortDefrost.defrost.state = .idle ∨ s.abortDefrost.defrost.state = .pending ∨
    s.abortDefrost.defrost.state = .recovery := by
  have recovers {u : State} (h : s.abortDefrost = u.enterRecovery) : s.abortDefrost.defrost.state = .idle ∨
      s.abortDefrost.defrost.state = .pending ∨ s.abortDefrost.defrost.state = .recovery := by
    rw [h]
    rcases u.enterRecovery_state with e | e
    · exact .inr (.inr e)
    · exact .inl e
  cases e : s.defrost.state with
  | pumpDown => exact recovers (State.abortDefrost_of_step (.inl e))
  | heatClaim => exact recovers (State.abortDefrost_of_step (.inr (.inl e)))
  | heating => exact recovers (State.abortDefrost_of_step (.inr (.inr (.inl e))))
  | paused => exact recovers (State.abortDefrost_of_step (.inr (.inr (.inr e))))
  | holdWait =>
    rw [State.abortDefrost_of_holdWait e, State.setDefrost_defrost]
    exact .inr (.inl rfl)
  | drip =>
    exact recovers (u := { s.command .dr .off with defrost := { (s.command .dr .off).defrost with drip := none } })
      (by rw [State.abortDefrost, e])
  | idle => rw [State.abortDefrost, e]; exact .inl e
  | pending => rw [State.abortDefrost, e]; exact .inr (.inl e)
  | recovery => rw [State.abortDefrost, e]; exact .inr (.inr e)

/-- An entry to a state of the defrost leaves nothing held where nothing was. -/
theorem State.enterRecovery_released {s : State} (h : s.released) : s.enterRecovery.released := by
  have sent : s.offerReleaseCompressor.released := State.released_of_share (s.offerOwnRequest_share _ _) h
  unfold State.enterRecovery
  dsimp only
  generalize s.offerReleaseCompressor = u at *
  have entered : (State.setDefrost { u with defrost := { u.defrost with renew := none, hold := .none } } .recovery).released :=
    (State.setDefrost_touches _ _).released sent
  split
  · exact (State.endRecovery_touches _).released entered
  · exact entered

theorem State.abortDefrost_released {s : State} (h : s.released) : s.abortDefrost.released := by
  have step (k : s.defrost.state = .pumpDown ∨ s.defrost.state = .heatClaim ∨ s.defrost.state = .heating ∨
      s.defrost.state = .paused) : s.abortDefrost.released := by
    rw [State.abortDefrost_of_step k]
    have ended : s.stepEnded.released := (State.heaterOff_touches _).released h
    exact State.enterRecovery_released ((State.frostNotCompleted_touches _).released (State.withdraw_released ended .dh))
  cases e : s.defrost.state with
  | pumpDown => exact step (.inl e)
  | heatClaim => exact step (.inr (.inl e))
  | heating => exact step (.inr (.inr (.inl e)))
  | paused => exact step (.inr (.inr (.inr e)))
  | holdWait =>
    rw [State.abortDefrost_of_holdWait e]
    have freed : s.waitEnded.freed.released := State.released_of_share (s.waitEnded.offerOwnRequest_share _ _) h
    exact (State.setDefrost_touches _ _).released ((State.frostNotCompleted_touches _).released freed)
  | drip =>
    have run : s.abortDefrost = State.enterRecovery { s.command .dr .off with
        defrost := { (s.command .dr .off).defrost with drip := none } } := by rw [State.abortDefrost, e]
    rw [run]
    exact State.enterRecovery_released ((s.command_touches .dr .off).released h)
  | idle | pending | recovery => rw [State.abortDefrost, e]; exact h

/-! ### The harvests aborted (R153) -/

theorem State.harvestHeld_of_classA {s : State} (h : s.classA = true) : s.harvestHeld = true := by simp [State.harvestHeld, h]

/-- The record of a mold whose harvest is aborted. -/
def MoldRecord.aborted (r : MoldRecord) : MoldRecord :=
  { r with
    heatSecond := none, eject := none, stallWait := none, suspended := false, resumeEject := false, heatSeconds := 0
    state := .harvestPending }

theorem State.classA_of_fault {s t : State} (h : t.fault = s.fault) : t.classA = s.classA := by rw [State.classA, h]; rfl

/-- Where a harvest hold applies, a harvest in progress is withdrawn and waits. -/
theorem State.abortMold_of_held {s : State} {m : Mold} (h : (s.mold m).state.inHarvest = true)
    (held : ((((s.moldOff m).withdraw m.op).setMold m { ((s.moldOff m).withdraw m.op).mold m with
      heatSecond := none, eject := none, stallWait := none, suspended := false, resumeEject := false, heatSeconds := 0 }).setMold m
      (((s.moldOff m).withdraw m.op).mold m).aborted).harvestHeld = true) :
    s.abortMold m = (((s.moldOff m).withdraw m.op).setMold m { ((s.moldOff m).withdraw m.op).mold m with
      heatSecond := none, eject := none, stallWait := none, suspended := false, resumeEject := false, heatSeconds := 0 }).setMold m
      (((s.moldOff m).withdraw m.op).mold m).aborted := by
  unfold State.abortMold
  rw [if_pos h]
  dsimp only
  rw [State.enterHarvestPending, State.setMold_mold]
  exact State.holdTestMold_of_held held m

/-- A class A flag, or SHOWROOM, holds every harvest (R145). -/
def State.barsHarvest (s : State) : Prop := s.classA = true ∨ s.mode = .showroom

theorem State.harvestHeld_of_barred {s : State} (h : s.barsHarvest) : s.harvestHeld = true := by
  rcases h with classA | showroom
  · exact State.harvestHeld_of_classA classA
  · simp [State.harvestHeld, showroom]

theorem State.barsHarvest_of_kept {s t : State} (fault : t.fault = s.fault) (mode : t.mode = s.mode) (h : s.barsHarvest) : t.barsHarvest :=
  h.imp (State.classA_of_fault fault).trans mode.trans

/-- Where harvests are barred an aborted mold waits for its harvest, and nothing is held where nothing was. -/
theorem State.abortMold_facts {s : State} (barred : s.barsHarvest) (m : Mold) :
    ((s.abortMold m).mold m).state.inHarvest = false ∧ (s.abortMold m).barsHarvest ∧
    (s.released → (s.abortMold m).released) := by
  by_cases harvest : (s.mold m).state.inHarvest = true
  · let u : State := (s.moldOff m).withdraw m.op
    let v : State := u.setMold m { u.mold m with
      heatSecond := none, eject := none, stallWait := none, suspended := false, resumeEject := false, heatSeconds := 0 }
    let w : State := v.setMold m (u.mold m).aborted
    have toU : Touches (.job m.heater :: .job m.ejector :: resolveFacets ++ withdrawFacets) s u :=
      ((s.moldOff_touches m).mono (List.subset_append_left _ _)).trans
        (((s.moldOff m).withdraw_touches m.op).mono (List.subset_append_right _ _))
    have toW : Touches (moldFacets m) u w := (u.setMold_touches m _).trans (v.setMold_touches m _)
    have fault : w.fault = s.fault := (toW.at .fault (by cases m <;> decide)).trans (toU.at .fault (by cases m <;> decide))
    have mode : w.mode = s.mode := (toW.at .mode (by cases m <;> decide)).trans (toU.at .mode (by cases m <;> decide))
    have barred' : w.barsHarvest := State.barsHarvest_of_kept fault mode barred
    have run : s.abortMold m = w := State.abortMold_of_held harvest (State.harvestHeld_of_barred barred')
    rw [run]
    refine ⟨by rw [State.setMold_mold]; rfl, barred', fun held => ?_⟩
    have off : (s.moldOff m).released := by
      have touches := s.moldOff_touches m
      exact State.released_of_kept (touches .grants (by cases m <;> decide)) (touches .claims (by cases m <;> decide))
        (touches .suspended (by cases m <;> decide)) (touches .flight (by cases m <;> decide)) held
    exact State.released_of_share ((State.setMold_share ..).trans (State.setMold_share ..)) (State.withdraw_released off m.op)
  · have run : s.abortMold m = s := if_neg harvest
    rw [run]
    exact ⟨Bool.eq_false_iff.mpr harvest, barred, id⟩

/-- What the aborts of both molds leave behind where harvests are barred. -/
theorem State.abortMolds_facts {s : State} (barred : s.barsHarvest) : (∀ m : Mold, (s.abortMolds.mold m).state.inHarvest = false) ∧
    (s.released → s.abortMolds.released) := by
  obtain ⟨a, barred', heldA⟩ := State.abortMold_facts barred .a
  obtain ⟨b, -, heldB⟩ := State.abortMold_facts barred' .b
  refine ⟨fun m => ?_, fun held => heldB (heldA held)⟩
  cases m with
  | a => rw [show s.abortMolds.mold .a = (s.abortMold .a).mold .a from ((s.abortMold .a).abortMold_touches .b).at (.mold .a)]; exact a
  | b => exact b

/-! ### The raise (R172) -/

theorem State.augerAborted_idle (s : State) : s.augerAborted.ice.auger = .idle := by
  unfold State.augerAborted
  split
  · assumption
  · rw [(State.augerOff_facts s).1]

/-- What a class A raise releases, locks and ends, once the flag is set and the outputs are resolved. -/
def State.endsA (s : State) : State := ((((s.generalRelease).lockPath).abortDefrost).abortMolds).augerAborted

theorem State.raiseA_of_new {s : State} {f : FaultId} (h : s.fault.isSet f = false) :
    s.raiseA f = ((s.setFlag f).resolve.endsA).announce f := by
  rw [State.raiseA, if_neg (by rw [h]; decide)]; rfl

theorem State.raiseA_of_set {s : State} {f : FaultId} (h : s.fault.isSet f = true) : s.raiseA f = s.write .lastEvent (0x80 + f.code) := by
  rw [State.raiseA, if_pos h, State.writeEvent, raiseEvent_eq]

/-- What the releases and ends of a raise may touch. -/
def endsFacets : List Facet := withdrawFacets ++ lockFacets ++ abortStepFacets ++ abortsFacets ++ augerFacets

theorem State.endsA_touches (s : State) : Touches endsFacets s s.endsA :=
  ((((State.generalRelease_touches _).mono.trans (State.lockPath_touches _).mono).trans
    (State.abortDefrost_touches_step _).mono).trans (State.abortMolds_touches _).mono).trans (State.augerAborted_touches _).mono

/-- Under class A: nothing held, the path locked, every step ended. -/
theorem State.endsA_facts {s : State} (classA : s.classA = true) : s.endsA.released ∧ s.endsA.water.path = .locked ∧
    s.endsA.ice.auger = .idle ∧ (∀ m : Mold, (s.endsA.mold m).state.inHarvest = false) ∧
    (s.endsA.defrost.state = .idle ∨ s.endsA.defrost.state = .pending ∨ s.endsA.defrost.state = .recovery) := by
  have locked : s.generalRelease.lockPath.water.path = .locked := State.lockPath_path _
  have released : s.generalRelease.lockPath.released := (State.lockPath_touches _).released s.generalRelease_released
  have classA' : s.generalRelease.lockPath.classA = true :=
    (State.classA_of_fault (((State.lockPath_touches _).at .fault).trans (s.generalRelease_touches.at .fault))).trans classA
  unfold State.endsA
  generalize s.generalRelease.lockPath = c at *
  have toE := c.abortDefrost_touches_step
  have path : c.abortDefrost.water.path = .locked := (toE.at .path).trans locked
  have state := c.abortDefrost_state
  have released' := State.abortDefrost_released released
  have classA'' : c.abortDefrost.classA = true := (State.classA_of_fault (toE.at .fault)).trans classA'
  generalize c.abortDefrost = e at *
  obtain ⟨molds, held⟩ := State.abortMolds_facts (.inl classA'')
  have toG := e.abortMolds_touches
  have path' : e.abortMolds.water.path = .locked := (toG.at .path).trans path
  have defrost : e.abortMolds.defrost = e.defrost := toG.at .defrost
  have released'' := held released'
  generalize e.abortMolds = g at *
  have toT := g.augerAborted_touches
  refine ⟨toT.released released'', (toT.at .path).trans path', g.augerAborted_idle, fun m => ?_, ?_⟩
  · rw [show g.augerAborted.mold m = g.mold m from toT.at (.mold m) (by cases m <;> decide)]
    exact molds m
  · rw [show g.augerAborted.defrost = g.defrost from toT.at .defrost, defrost]
    exact state

theorem State.announce_record (s : State) (f : FaultId) : (s.announce f).fault =
    { s.fault with noticeTimer := some (s.now + 10000000) } := by
  simp [State.announce, State.startNoticeRepeat, State.offerFaultNotice, State.timer, Config.noticeRepeat, Config.sec]

end Sys2Proof.Machine

open Sys2Proof Sys2Proof.Machine

/-- Settles O56: the blocks of a class A raise in their order, a class B raise, a repeat, and the two inputs that detect one. -/
theorem classARaiseReleasesLocksAndSwitchesOff : Obligations.ClassARaiseReleasesLocksAndSwitchesOff := by
  intro f d s captured
  refine ⟨fun isA new => ?_, fun isB new => ?_, fun _ set => State.raiseA_of_set set, fun timer wet => ?_, fun timer tripped => ?_⟩
  · intro t
    have run : t = ((s.setFlag f).resolve.endsA).announce f := State.raiseA_of_new new
    have resolved := (s.setFlag f).resolve_touches
    have flagged := s.setFlag_touches f
    have record : (s.setFlag f).fault.record = if captures s.fault.record f then some captured else s.fault.record :=
      s.setFlag_record f
    have set : (s.setFlag f).resolve.fault.isSet f = true := by
      rw [show _ = _ from resolved.at .fault]; exact s.setFlag_isSet f
    have fault : (s.setFlag f).resolve.fault = (s.setFlag f).fault := resolved.at .fault
    have now : (s.setFlag f).resolve.now = s.now := (resolved.at .now).trans (flagged.at .now)
    have event : (s.setFlag f).resolve.own .lastEvent = 0x80 + f.code := (resolved.at (.own .lastEvent)).trans (s.setFlag_lastEvent f)
    have threshold : (s.setFlag f).resolve.frost.t = s.frost.t := (resolved.at .frostT).trans (flagged.at .frostT)
    have view : (s.setFlag f).resolve.view = s.view := (resolved.at .view).trans (flagged.at .view)
    have mode : (s.setFlag f).resolve.mode = s.mode := (resolved.at .mode).trans (flagged.at .mode)
    have safe : (s.setFlag f).resolve.outputsSafe := (s.setFlag f).resolveFrom_safe _
    rw [← fault] at record
    generalize (s.setFlag f).resolve = a at *
    have ends := a.endsA_touches
    obtain ⟨released, path, auger, molds, defrost⟩ := State.endsA_facts (State.classA_of_isSet isA set)
    have faultE : a.endsA.fault = a.fault := ends.at .fault
    have nowE : a.endsA.now = s.now := (ends.at .now).trans now
    have eventE : a.endsA.own .lastEvent = 0x80 + f.code := (ends.at (.own .lastEvent)).trans event
    have thresholdE : a.endsA.frost.t = s.frost.t := (ends.at .frostT).trans threshold
    have viewE : a.endsA.view = s.view := (ends.at .view).trans view
    have modeE : a.endsA.mode = s.mode := (ends.at .mode).trans mode
    have safeE : a.endsA.outputsSafe := (ends.at .safe) safe
    generalize a.endsA = u at *
    have notice := u.announce_touches f
    have faultT : (u.announce f).fault = { a.fault with noticeTimer := some (s.now + 10000000) } := by
      rw [State.announce_record, faultE, nowE]
    have setT : (u.announce f).fault.isSet f = true := by rw [faultT]; exact set
    have safeT : (u.announce f).outputsSafe := (notice.at .safe) safeE
    clear_value t
    subst run
    rw [faultT]
    refine ⟨record.trans ?_, set, State.released_of_share (State.offerNotice_share _ _ _ _) released, (notice.at .path).trans path,
      (notice.at .auger).1.trans auger, fun m => ?_, ?_, fun o safety => ?_, (notice.at (.own .lastEvent)).trans eventE, rfl,
      (notice.at .frostT).trans thresholdE, (notice.at .view).trans viewE, (notice.at .mode).trans modeE⟩
    · cases e : s.fault.record with
      | none => rfl
      | some r =>
        have test : captures (some r) f = true ↔ (r.fault.isA = false ∨ f.code < r.fault.code) := by simp [captures, isA]
        by_cases k : r.fault.isA = false ∨ f.code < r.fault.code
        · rw [if_pos (test.mpr k)]; exact (if_pos k).symm
        · rw [if_neg (mt test.mp k)]; exact (if_neg k).symm
    · rw [show (u.announce f).mold m = u.mold m from notice.at (.mold m) (by cases m <;> decide)]
      exact molds m
    · rw [show (u.announce f).defrost = u.defrost from notice.at .defrost]
      exact defrost
    · obtain ⟨-, -, off⟩ := safeT
      rw [State.forcedOff, State.classA_of_isSet isA setT] at off
      have here := List.all_eq_true.mp off o (by cases o <;> decide)
      simpa [safety] using here
  · intro t
    have run : t = s.setFlag f := if_neg (by rw [new]; decide)
    have touches := s.raiseB_touches isB
    refine ⟨s.raiseB_isSet f, by rw [run]; exact s.setFlag_lastEvent f, touches.at .outputs, touches.share_eq, ?_⟩
    rw [run, State.setFlag_record]
    cases e : s.fault.record with
    | none => rfl
    | some r =>
      have no : captures (some r) f = false := by simp [captures, isB]
      rw [no]; rfl
  · refine does_expiry (act := State.leakQualified) rfl timer ?_
    have pin : (s.atMoment d).pins.leak = true := wet
    rw [State.leakQualified, pin]; rfl
  · refine does_expiry (act := State.cutoutQualified) rfl timer ?_
    have pin : (s.atMoment d).pins.cutout = true := tripped
    rw [State.cutoutQualified, pin]; rfl

end

/-! PROOF. The draw counter and T_res: what a mixing and a resolution make of them (section 6.4). -/

section
namespace Sys2Proof.Machine

/-- T_res after the draw counter has been mixed into it (R136). -/
def State.mixed (s : State) : Int := s.water.tRes + mixChange s.image.tIn s.water.tRes s.image.vRes s.water.draw

/-- The draw counter and T_res stand as they did, or the counter has been mixed in. -/
def Mixes (s t : State) : Prop :=
  t.water.draw = s.water.draw ∧ t.water.tRes = s.water.tRes ∨ t.water.draw = 0 ∧ t.water.tRes = s.mixed

theorem mixChange_zero (tIn tRes : Int) (vRes : Nat) : mixChange tIn tRes vRes 0 = 0 := by
  unfold mixChange roundHalfUp
  rw [Int.fdiv_eq_ediv_of_nonneg _ (by omega)]
  rcases Nat.eq_zero_or_pos vRes with rfl | pos
  · simp
  · exact Int.ediv_eq_zero_of_lt (by omega) (by push_cast; nlinarith)

/-- With nothing drawn there is nothing to mix. -/
theorem State.mixed_of_no_draw {s : State} (h : s.water.draw = 0) : s.mixed = s.water.tRes := by
  rw [State.mixed, h, mixChange_zero, Int.add_zero]

theorem State.mixRemainder_water (s : State) : s.mixRemainder.water = { s.water with draw := 0, tRes := s.mixed } := by
  unfold State.mixRemainder
  split
  · rename_i none
    rw [State.mixed_of_no_draw none, ← none]
  · rw [State.mixStep, State.setTRes, State.write_water]
    rfl

theorem Mixes.refl (s : State) : Mixes s s := .inl ⟨rfl, rfl⟩

theorem Mixes.trans {s t u : State} (h : Mixes s t) (k : Mixes t u) (image : t.image = s.image) : Mixes s u := by
  unfold Mixes State.mixed at *
  rcases h with ⟨draw, res⟩ | ⟨draw, res⟩
  · rw [draw, res, image] at k; exact k
  · rw [draw, res, image, mixChange_zero, Int.add_zero] at k
    rcases k with k | k <;> exact .inr k

/-- A step that leaves the counter, T_res and the image mixes the same. -/
theorem Mixes.of_eq {s t : State} (h : t.water.draw = s.water.draw ∧ t.water.tRes = s.water.tRes) : Mixes s t := .inl h

theorem Touches.mixes {P : List Facet} {s t : State} (h : Touches P s t) (apart : autoParam (Facet.reservoir ∉ P) Rat.normalize._auto_1) :
    Mixes s t := .inl (h .reservoir apart)

theorem State.closedWatch_reservoir (s : State) (b : Bool) : (s.closedWatch b).water.draw = s.water.draw ∧
    (s.closedWatch b).water.tRes = s.water.tRes := by
  unfold State.closedWatch
  repeat' split
  all_goals exact ⟨rfl, rfl⟩

theorem State.meterTimers_reservoir (s : State) (m : Option Output) : (s.meterTimers m).water.draw = s.water.draw ∧
    (s.meterTimers m).water.tRes = s.water.tRes := by
  unfold State.meterTimers
  dsimp only
  repeat' split
  all_goals exact ⟨rfl, rfl⟩

/-- What follows from a resolution mixes at most once. -/
theorem State.afterResolve_mixes {s t : State} (water : t.water = s.water) (image : t.image = s.image) (mixes wasOpen : Bool)
    (m : Option Output) (hot : State → Bool) (v : State)
    (hv : v = ((if mixes then t.mixRemainder else t).closedWatch wasOpen).meterTimers m) :
    Mixes s (if hot v then { v with agenda := v.agenda ++ [.overtemp] } else v) := by
  have quiet : Mixes s v := by
    rw [Mixes, State.mixed, ← water, ← image, ← State.mixed]
    obtain ⟨draw, res⟩ := State.meterTimers_reservoir ((if mixes then t.mixRemainder else t).closedWatch wasOpen) m
    obtain ⟨draw', res'⟩ := State.closedWatch_reservoir (if mixes then t.mixRemainder else t) wasOpen
    rw [hv, draw, res, draw', res']
    split
    · rw [State.mixRemainder_water]; exact .inr ⟨rfl, rfl⟩
    · exact .inl ⟨rfl, rfl⟩
  split
  · exact quiet
  · exact quiet

theorem State.resolveFrom_mixes (s : State) (m : Option Output) : Mixes s (s.resolveFrom m) := by
  unfold State.resolveFrom
  extract_lets channels gens held s1 s2 s3
  exact State.afterResolve_mixes (t := s1) rfl rfl _ _ m (fun t => heaters.any fun h => !s.isOn h && t.overtempOf h) s3 rfl

theorem State.resolve_mixes (s : State) : Mixes s s.resolve := s.resolveFrom_mixes _

theorem State.command_mixes (s : State) (o : Output) (d : Drive) : Mixes s (s.command o d) := by
  unfold State.command
  split
  · exact .refl s
  · generalize e : ({ s with out := _ } : State) = t
    have water : t.water = s.water := by rw [← e]
    have image : t.image = s.image := by rw [← e]
    have mixes := t.resolveFrom_mixes s.meteredValve
    rw [Mixes, State.mixed, water, image] at mixes
    exact mixes

/-- With nothing drawn T_res stays. -/
theorem Mixes.of_no_draw {s t : State} (h : Mixes s t) (none : s.water.draw = 0) : t.water.draw = 0 ∧ t.water.tRes = s.water.tRes := by
  rcases h with ⟨draw, res⟩ | ⟨draw, res⟩
  · exact ⟨draw.trans none, res⟩
  · exact ⟨draw, res.trans (State.mixed_of_no_draw none)⟩

/-- What has been mixed in part mixes to the same. -/
theorem Mixes.mixed {s t : State} (h : Mixes s t) (image : t.image = s.image) : t.mixed = s.mixed := by
  rcases h with ⟨draw, res⟩ | ⟨draw, res⟩
  · rw [State.mixed, draw, res, image]; rfl
  · rw [State.mixed_of_no_draw draw, res]

end Sys2Proof.Machine
end

/-! PROOF. The start of the part: the supply, the image load, the entries to LISTEN and RUN (chapter 11). -/

section
namespace Sys2Proof.Machine

/-- With blank outputs and no station in the view nothing is on and nobody is known. -/
theorem State.record_of_blank {s : State} (h : s.view = Vector.replicate 16 none) (a : Addr) : s.record a = none := by
  unfold State.record
  rw [h]
  exact Vector.getElem_replicate _

theorem watchPoint_bare_fields (w : WatchPoint) : w.bare.computed = (if w.computed = .latched then .latched else .inactive) ∧
    w.bare.condition = .unknown ∧ w.bare.delay = .stopped ∧ w.bare.known = false ∧ w.bare.forced = .none := by
  unfold WatchPoint.bare
  split <;> exact ⟨rfl, rfl, rfl, rfl, rfl⟩

/-! ### The first samples of the entry to LISTEN (R7) -/

/-- What a first sample may touch, but for the jobs. -/
def firstFacets : List Facet :=
  [.sensors, .own .evapTemp, .own .freezerAirTemp, .own .moldATemp, .own .moldBTemp] ++ wordFacets

/-- A channel that waits for its first sample. -/
def State.fresh (s : State) (c : Channel) : Prop := (s.sensors.get c).state = .starting ∧ (s.sensors.get c).badCount = 0

/-- A first sample counts as bad, or converts and lets the jobs hear of it. -/
theorem State.takeSample_of_fresh {R : List Facet} {s : State} {c : Channel} (fresh : s.fresh c) (sub : firstFacets ⊆ R)
    (jobs : ∀ t, Touches R s t → Touches R t (t.channelJobs c)) :
    Touches R s (s.takeSample c) ∧ ∃ r, (s.takeSample c).sensors = s.sensors.set c r := by
  have few {P : List Facet} {t u : State} (h : Touches P t u) (k : P ⊆ firstFacets) : Touches R t u := h.mono (List.Subset.trans k sub)
  have restarted : Touches R s (s.setSensor c { s.sensors.get c with sample := s.timer Config.sampleTime }) :=
    few (s.setSensor_touches c _) (by decide)
  unfold State.takeSample
  dsimp only
  have restartedSensors : (s.setSensor c { s.sensors.get c with sample := s.timer Config.sampleTime }).sensors =
      s.sensors.set c { s.sensors.get c with sample := s.timer Config.sampleTime } := rfl
  have fresh' : (s.setSensor c { s.sensors.get c with sample := s.timer Config.sampleTime }).fresh c := by
    rw [State.fresh, restartedSensors, perChannel_get_set]; exact fresh
  generalize s.setSensor c { s.sensors.get c with sample := s.timer Config.sampleTime } = t at *
  split
  · refine ⟨?_, _, by rw [State.goodReading_sensors, restartedSensors, perChannel_set_set]⟩
    have converted : Touches R s (t.converted c (s.pins.thermistor.get c).toNat) :=
      restarted.trans ((few (t.setSensor_touches c _) (by decide)).trans (few (State.putOwn_touches _ c.tag _) (by cases c <;> decide)))
    have heard (u : State) (touched : Touches R s u) : Touches R s (u.validityChange c) :=
      touched.trans (few (u.notify_touches _) (by decide))
    have tested (u : State) (touched : Touches R s u) : Touches R s (u.overtempTest c) :=
      touched.trans (few (u.overtempTest_touches c) (by decide))
    have job := converted.trans (jobs _ converted)
    unfold State.goodReading
    dsimp only
    have notNormal : (t.sensors.get c).state ≠ .normal := by rw [fresh'.1]; decide
    rw [if_neg notNormal]
    refine tested _ ?_
    split
    · exact heard _ job
    · exact job
  · rw [State.badReading_of_count (.inl (by rw [fresh'.2]; decide))]
    exact ⟨restarted.trans (few (t.setSensor_touches c _) (by decide)), _,
      by rw [State.setSensor, restartedSensors, perChannel_set_set]⟩

theorem perChannel_get_set_ne {α : Type} (p : PerChannel α) {c d : Channel} (x : α) (h : d ≠ c) : (p.set c x).get d = p.get d := by
  cases c <;> cases d <;> first | rfl | exact absurd rfl h

theorem State.takeSample_fresh_ne {s : State} {c d : Channel} {r : ChannelRecord} (h : (s.takeSample c).sensors = s.sensors.set c r)
    (apart : d ≠ c) (fresh : s.fresh d) : (s.takeSample c).fresh d := by
  rw [State.fresh, h, perChannel_get_set_ne _ _ apart]; exact fresh

/-- The four first samples, with a property that they keep and under which the jobs touch no more. -/
theorem State.firstSamples_touches {R : List Facet} {s : State} {K : State → Prop} (sub : firstFacets ⊆ R) (fresh : ∀ c, s.fresh c)
    (kept : ∀ t u, Touches R t u → K t → K u) (jobs : ∀ t c, K t → Touches R t (t.channelJobs c)) (start : K s) :
    Touches R s ((((s.takeSample .evap).takeSample .freezerAir).takeSample .moldA).takeSample .moldB) := by
  have sample (t : State) (c : Channel) (fresh : t.fresh c) (k : K t) :=
    State.takeSample_of_fresh fresh sub fun u touched => jobs u c (kept t u touched k)
  obtain ⟨first, _, firstSensors⟩ := sample s .evap (fresh _) start
  have other (d : Channel) (apart : d ≠ .evap) := State.takeSample_fresh_ne firstSensors apart (fresh d)
  have k := kept _ _ first start
  obtain ⟨second, _, secondSensors⟩ := sample _ .freezerAir (other _ (by decide)) k
  have other' (d : Channel) (apart : d ≠ .evap) (apart' : d ≠ .freezerAir) :=
    State.takeSample_fresh_ne secondSensors apart' (other d apart)
  have k' := kept _ _ second k
  obtain ⟨third, _, thirdSensors⟩ := sample _ .moldA (other' _ (by decide) (by decide)) k'
  have last := State.takeSample_fresh_ne thirdSensors (by decide) (other' .moldB (by decide) (by decide))
  exact first.trans (second.trans (third.trans (sample _ .moldB last (kept _ _ third k')).1))

/-- In LISTEN, with the defrost in IDLE, a channel's change reaches no more than the molds' harvests. -/
theorem State.channelJobs_of_listen {s : State} (listen : s.start.state = .listen) (idle : s.defrost.state = .idle) (c : Channel) :
    Touches harvestsFacets s (s.channelJobs c) ∧ ((∀ m, (s.mold m).state ≠ .harvestHeat) → s.channelJobs c = s) := by
  have stopped : s.running = false := by rw [State.running, listen]; rfl
  have mold (m : Mold) : s.moldChannelChange m = s.heatEndTest m false := by
    rw [State.moldChannelChange, State.freezeTest, if_neg (by simp [stopped])]
  have cold (m : Mold) (cold : ∀ m, (s.mold m).state ≠ .harvestHeat) : s.heatEndTest m false = s := by
    rw [State.heatEndTest, if_neg fun h => cold m h.1]
  cases c
  · have same : s.evapSubstituted = s := by rw [State.evapSubstituted, if_neg (by simp [idle])]
    exact ⟨by rw [State.channelJobs, same]; exact .refl _ s, fun _ => same⟩
  · exact ⟨.refl _ s, fun _ => rfl⟩
  · rw [State.channelJobs, mold]; exact ⟨(s.heatEndTest_touches .a false).mono, cold .a⟩
  · rw [State.channelJobs, mold]; exact ⟨(s.heatEndTest_touches .b false).mono, cold .b⟩

theorem State.listenBlocks_fresh (s : State) (c : Channel) : s.listenBlocks.resolve.fresh c := by
  have sensors : s.listenBlocks.resolve.sensors = s.listenSensors := s.listenBlocks.resolve_touches.at .sensors
  rw [State.fresh, sensors]
  cases c <;> exact ⟨rfl, rfl⟩

/-- The entry to LISTEN leaves the blocks' values but for the resolution, the samples and a harvest that ends. -/
theorem State.enterListen_samples (s : State) : Touches (firstFacets ++ harvestsFacets) s.listenBlocks s.enterListen := by
  have resolved := s.listenBlocks.resolve_touches
  refine resolved.mono.trans (State.firstSamples_touches (K := fun t => t.start.state = .listen ∧ t.defrost.state = .idle)
    (by decide) s.listenBlocks_fresh (fun t u touched k => ?_) (fun t c k => (State.channelJobs_of_listen k.1 k.2 c).1.mono) ?_)
  · have defrost : u.defrost = t.defrost := touched.at .defrost
    exact ⟨touched.start_state.trans k.1, by rw [defrost]; exact k.2⟩
  · have defrost : s.listenBlocks.resolve.defrost = s.listenBlocks.defrost := resolved.at .defrost
    exact ⟨resolved.start_state, by rw [defrost]; rfl⟩

/-- With no mold in HARVEST_HEAT the entry to LISTEN resolves the outputs and takes the samples, and no more. -/
theorem State.enterListen_cold {s : State} (cold : ∀ m, (s.mold m).state ≠ .harvestHeat) :
    Touches firstFacets s.listenBlocks.resolve s.enterListen := by
  have resolved := s.listenBlocks.resolve_touches
  have molds : (s.listenBlocks.mold .a).state = (s.mold .a).state ∧ (s.listenBlocks.mold .b).state = (s.mold .b).state := ⟨rfl, rfl⟩
  refine State.firstSamples_touches (K := fun t => (t.start.state = .listen ∧ t.defrost.state = .idle) ∧
    ∀ m, (t.mold m).state ≠ .harvestHeat) (by decide) s.listenBlocks_fresh (fun t u touched k => ?_) (fun t c k => ?_) ?_
  · have defrost : u.defrost = t.defrost := touched.at .defrost
    have mold (m : Mold) : u.mold m = t.mold m := touched.at (.mold m) (by cases m <;> decide)
    exact ⟨⟨touched.start_state.trans k.1.1, by rw [defrost]; exact k.1.2⟩, fun m => by rw [mold]; exact k.2 m⟩
  · rw [(State.channelJobs_of_listen k.1.1 k.1.2 c).2 k.2]; exact .refl _ t
  · have defrost : s.listenBlocks.resolve.defrost = s.listenBlocks.defrost := resolved.at .defrost
    refine ⟨⟨resolved.start_state, by rw [defrost]; rfl⟩, fun m => ?_⟩
    have mold : s.listenBlocks.resolve.mold m = s.listenBlocks.mold m := resolved.at (.mold m) (by cases m <;> decide)
    rw [mold]
    cases m
    · rw [molds.1]; exact cold .a
    · rw [molds.2]; exact cold .b

/-! ### The state at the entry to LISTEN (R192) -/

theorem State.enterListen_startUp (s : State) : s.enterListen.start =
    { s.start with state := .listen, mark := true, listenTimer := some (s.now + 2000000), port := .rest } := by
  have kept : StartKept s.listenBlocks s.enterListen := s.enterListen_samples.at .start
  have restart : s.enterListen.start.restart = s.listenBlocks.start.restart := s.enterListen_samples.at .restart
  rw [kept, restart]
  rfl

theorem State.enterListen_kept (s : State) : s.enterListen.image = s.image ∧ s.enterListen.rawImage = s.rawImage ∧
    s.enterListen.mode = s.mode ∧ s.enterListen.fault = s.fault ∧ s.enterListen.frost = s.listenFrost ∧
    s.enterListen.defrost = .blank ∧ s.enterListen.share.grants = [{ op := none, cls := 0, amps := s.image.baseline, tag := 0 }] := by
  have touched := s.enterListen_samples
  have image : _ = s.listenBlocks.image := touched.at .image
  have raw : _ = s.listenBlocks.rawImage := touched.at .rawImage
  have mode : _ = s.listenBlocks.mode := touched.at .mode
  have fault : _ = s.listenBlocks.fault := touched.at .fault
  have defrost : _ = s.listenBlocks.defrost := touched.at .defrost
  exact ⟨image, raw, mode, fault, touched.frost_eq, defrost, touched.at .grants⟩

theorem State.enterListen_line (s : State) : s.enterListen.line.queue = [statusFrame] ∧ s.enterListen.line.driver = true := by
  have queue : _ = s.listenBlocks.line.queue := s.enterListen_samples.at .queue
  have wire : WireKept s.listenBlocks s.enterListen := s.enterListen_samples.at .wire
  refine ⟨queue, ?_⟩
  rw [wire]
  rfl

/-- T_res at the entry to LISTEN: nothing has been drawn yet. -/
theorem State.enterListen_water {s : State} (cold : ∀ m, (s.mold m).state ≠ .harvestHeat) :
    s.enterListen.water.path = (if s.classA then .locked else .idle) ∧ s.enterListen.water.tRes = min s.water.tRes s.image.tIn := by
  have sampled := State.enterListen_cold cold
  have resolved := s.listenBlocks.resolve_touches
  have water : _ = s.listenBlocks.resolve.water := sampled.water_eq
  have path : _ = s.listenBlocks.water.path := resolved.at .path
  have none : s.listenBlocks.water.draw = 0 := rfl
  have res : _ = s.listenBlocks.water.tRes := (s.listenBlocks.resolve_mixes.of_no_draw none).2
  have blocks : s.listenBlocks.water = s.listenWater := rfl
  rw [water, path, res, blocks]
  exact ⟨rfl, rfl⟩

/-- At the entry to LISTEN no output is commanded on, and none has a test value. -/
theorem State.enterListen_outputs {s : State} (cold : ∀ m, (s.mold m).state ≠ .harvestHeat) (o : Output) :
    (s.enterListen.channel o).job = .off ∧ (s.enterListen.channel o).test = .none := by
  have job : _ = (s.listenBlocks.resolve.channel o).job := (State.enterListen_cold cold).at (.job o) (by cases o <;> decide)
  have resolved : _ = (s.listenBlocks.channel o).job := s.listenBlocks.resolve_touches.at (.job o) (by cases o <;> decide)
  exact ⟨job.trans (resolved.trans (State.job_of_blank rfl o)), State.enterListen_tests s o⟩

theorem State.enterListen_lastEvent {s : State} (cold : ∀ m, (s.mold m).state ≠ .harvestHeat) :
    s.enterListen.own .lastEvent = s.own .lastEvent := by
  have sampled : _ = s.listenBlocks.resolve.own .lastEvent := (State.enterListen_cold cold).at (.own .lastEvent)
  have resolved : _ = s.listenBlocks.own .lastEvent := s.listenBlocks.resolve_touches.at (.own .lastEvent)
  exact sampled.trans (resolved.trans (Vector.getElem_ofFn _))

/-! ### The start of a reset (R191) -/

theorem State.beginReset_mold (s : State) (kind : ResetKind) (m : Mold) : ((s.beginReset kind).mold m).state ≠ .harvestHeat := by
  have state (r : MoldRecord) : (r.atReset kind).state ≠ .harvestHeat := by
    unfold MoldRecord.atReset
    split <;> decide
  cases m <;> exact state _

theorem State.beginReset_kept {s : State} {kind : ResetKind} (other : kind ≠ .powerOn) :
    (s.beginReset kind).fault.aFlags = s.fault.aFlags ∧ (s.beginReset kind).fault.bFlags = s.fault.bFlags ∧
    (s.beginReset kind).fault.record = s.fault.record ∧ (s.beginReset kind).frost.t = s.frost.t ∧
    (s.beginReset kind).frost.hours = s.frost.hours ∧ (s.beginReset kind).frost.gap = s.frost.gap ∧
    (s.beginReset kind).frost.f = (if s.defrost.state.pastPending then max s.frost.f s.frost.t else s.frost.f) := by
  simp [State.beginReset, other]

theorem State.beginReset_start (s : State) (kind : ResetKind) : (s.beginReset kind).start.kind = kind ∧
    (s.beginReset kind).start.state = s.start.state ∧ (s.beginReset kind).image = s.image ∧ (s.beginReset kind).now = s.now ∧
    (s.beginReset kind).pins = s.pins ∧ (s.beginReset kind).agenda = [] ∧
    (s.beginReset kind).mode = (if kind = .brownOut then s.mode else .normal) := by
  unfold State.beginReset
  cases kind <;> exact ⟨rfl, rfl, rfl, rfl, rfl, rfl, rfl⟩

theorem State.beginReset_powerOn (s : State) : (s.beginReset .powerOn).fault.aFlags = 0 ∧ (s.beginReset .powerOn).fault.bFlags = 0 ∧
    (s.beginReset .powerOn).fault.record = none ∧ (s.beginReset .powerOn).water.tRes = 40 ∧
    (s.beginReset .powerOn).own .lastEvent = 0xFF := by
  refine ⟨rfl, rfl, rfl, rfl, ?_⟩
  exact Vector.getElem_set_self _

/-! ### The entry to IMAGE_LOAD (R191, R193) -/

/-- The part in IMAGE_LOAD, before the straps have decided. -/
def State.loading (s : State) : State :=
  { s with start := { s.start with
    state := .imageLoad, mark := false, port := .rest, clearPulses := 0, acked := 0, arrived := 0, sent := [] } }

/-- The part in IMAGE_LOAD with the bus cleared, reading. -/
def State.readStarted (s : State) : State :=
  { s.loading with start := { s.loading.start with
    port := .reading, clearPulses := min 9 s.pins.sdaLowPulses, sent := busClear s.pins.sdaLowPulses } }

/-- The state in which the part enters LISTEN with an image. -/
def State.withImage (s : State) (i : Image) : State := { s with image := i }

theorem State.imageInPlace_true (s : State) (i : Image) : s.imageInPlace i true = (s.withImage i).enterListen.raiseB .imageDefaulted := by
  rw [State.imageInPlace]; exact if_pos rfl

theorem State.imageInPlace_false (s : State) (i : Image) : s.imageInPlace i false = (s.withImage i).enterListen := by
  rw [State.imageInPlace]; exact if_neg (by decide)

/-- The straps, and then the data line, decide how the load goes on. -/
theorem State.enterImageLoad_eq (s : State) : s.enterImageLoad = if s.pins.straps.imen then
    (if 9 < s.pins.sdaLowPulses then s.readStarted.imageFallback else s.readStarted)
    else s.loading.imageInPlace (builtinImage s.pins.straps) false := rfl

theorem State.enterImageLoad_of_low {s : State} (h : s.pins.straps.imen = false) :
    s.enterImageLoad = (s.loading.withImage (builtinImage s.pins.straps)).enterListen := by
  rw [State.enterImageLoad_eq, if_neg (ne_true_of_eq_false h), State.imageInPlace_false]

theorem State.enterImageLoad_of_free {s : State} (h : s.pins.straps.imen = true) (free : s.pins.sdaLowPulses ≤ 9) :
    s.enterImageLoad = s.readStarted := by
  rw [State.enterImageLoad_eq, if_pos h, if_neg (Nat.not_lt.mpr free)]

theorem State.enterImageLoad_of_stuck {s : State} (h : s.pins.straps.imen = true) (stuck : 9 < s.pins.sdaLowPulses) :
    s.enterImageLoad = s.readStarted.imageFallback := by
  rw [State.enterImageLoad_eq, if_pos h, if_pos stuck]

theorem builtinImage_tIn (straps : Straps) : 40 ≤ (builtinImage straps).tIn := by
  unfold builtinImage
  split <;> decide

/-- An image in place: the entry to LISTEN, and the flag where the image is not the one read. -/
theorem State.imageInPlace_facts (s : State) (i : Image) (d : Bool) : (s.imageInPlace i d).start =
      { s.start with state := .listen, mark := true, listenTimer := some (s.now + 2000000), port := .rest } ∧
    (s.imageInPlace i d).image = i ∧ (s.imageInPlace i d).rawImage = s.rawImage ∧
    (s.imageInPlace i d).line.queue = [statusFrame] ∧ (d = false → (s.imageInPlace i d).fault = s.fault) ∧
    (d = true → (s.imageInPlace i d).fault.isSet .imageDefaulted = true) := by
  have entered := State.enterListen_startUp (s.withImage i)
  obtain ⟨image, raw, _, fault, _⟩ := State.enterListen_kept (s.withImage i)
  obtain ⟨queue, _⟩ := State.enterListen_line (s.withImage i)
  cases d
  · rw [State.imageInPlace_false]
    exact ⟨entered, image, raw, queue, fun _ => fault, nofun⟩
  rw [State.imageInPlace_true]
  generalize (s.withImage i).enterListen = u at *
  have raised := u.raiseB_touches (f := .imageDefaulted) rfl
  have start : StartKept u (u.raiseB .imageDefaulted) := raised.at .start
  have restart : _ = u.start.restart := raised.at .restart
  have image' : _ = u.image := raised.at .image
  have raw' : _ = u.rawImage := raised.at .rawImage
  have queue' : _ = u.line.queue := raised.at .queue
  refine ⟨?_, image'.trans image, raw'.trans raw, queue'.trans queue, nofun, fun _ => u.raiseB_isSet _⟩
  rw [start, restart, entered]
  rfl

/-- The fallback's image is the built-in set. -/
theorem State.imageFallback_facts (s : State) : s.imageFallback.start =
      { s.start with state := .listen, mark := true, listenTimer := some (s.now + 2000000), port := .rest } ∧
    s.imageFallback.image = builtinImage s.pins.straps ∧ s.imageFallback.rawImage = s.rawImage ∧
    s.imageFallback.fault.isSet .imageDefaulted = true ∧ s.imageFallback.line.queue = [statusFrame] := by
  obtain ⟨start, image, raw, queue, _, defaulted⟩ := s.imageInPlace_facts (builtinImage s.pins.straps) true
  exact ⟨start, image, raw, defaulted rfl, queue⟩

/-- The state at the end of the read, with the bytes held. -/
def State.readEnded (s : State) (b : List Byte) : State := (s.arrive b).drive [.stop]

theorem State.goOnReading_bytes (s : State) (b : List Byte) : s.goOnReading (.bytes b) =
    if imageChecks (s.readSoFar b) then
      (s.readEnded b).imageInPlace (decodeImage (s.readSoFar b)) (!strictRise (tableAt (s.readSoFar b)))
    else (s.readEnded b).imageFallback := rfl

theorem State.readEnded_sent (s : State) (b : List Byte) : (s.readEnded b).start.sent =
    s.start.sent ++ (addressFrom s.start.acked ++ taken s.start.arrived b.length) ++ [.stop] := rfl

theorem State.readEnded_rawImage {s : State} {b : List Byte} (whole : (s.readSoFar b).length = 256) :
    (s.readEnded b).rawImage.take 256 = s.readSoFar b := by
  have held : (s.readEnded b).rawImage = s.readSoFar b ++ s.rawImage.drop (s.start.arrived + b.length) := rfl
  rw [held, List.take_append_of_le_length (Nat.le_of_eq whole.symm), List.take_of_length_le (Nat.le_of_eq whole)]

end Sys2Proof.Machine

open Sys2Proof Sys2Proof.Machine

/-- Settles O16: every field that the retention domain does not hold is blank, and every other one is read off. -/
theorem supplyFallKeepsTheRetentionDomainAlone : Obligations.SupplyFallKeepsTheRetentionDomainAlone := by
  intro lost s
  refine ⟨s.supplyFalls lost, rfl, rfl, rfl, State.isOn_of_blank rfl, rfl, rfl, State.record_of_blank rfl, rfl, rfl, rfl, rfl, rfl,
    rfl, rfl, rfl, rfl, rfl, rfl, rfl, fun m => by cases m <;> rfl, rfl, rfl, fun i => ?_⟩
  have point : (s.supplyFalls lost).watch[i] = s.watch[i].bare := Vector.getElem_map ..
  rw [point]
  exact watchPoint_bare_fields _

/-- Settles O17: the reset keeps what a brown-out keeps, and the entry to LISTEN has its own values. -/
theorem supplyGoodWithTheMarkIsABrownOut : Obligations.SupplyGoodWithTheMarkIsABrownOut := by
  intro straps n s powerUp mark
  let u := (s.setStraps straps n).beginReset .brownOut
  have cold : ∀ m, (u.mold m).state ≠ .harvestHeat := State.beginReset_mold _ _
  obtain ⟨a, b, record, threshold, hours, gap, f⟩ := State.beginReset_kept (s := s.setStraps straps n) (kind := .brownOut) (by decide)
  obtain ⟨kind, state, image, now, pins, agenda, mode⟩ := State.beginReset_start (s.setStraps straps n) .brownOut
  obtain ⟨image', raw', mode', fault', frost', defrost', grants'⟩ := u.enterListen_kept
  obtain ⟨queue', driver'⟩ := u.enterListen_line
  have start' := u.enterListen_startUp
  obtain ⟨path', _⟩ := State.enterListen_water cold
  have outputs' := State.enterListen_outputs cold
  have classA : u.classA = (s.fault.aFlags != 0) := by rw [State.classA, a]; rfl
  have frost : u.listenFrost = u.frost := by rw [State.listenFrost, kind]; rfl
  refine ⟨u.enterListen, does_of_eq (u := if s.start.state = .powerUp then (s.setStraps straps n).supplyGood else s) rfl ?_, ?_⟩
  · rw [if_pos powerUp, State.supplyGood, if_pos (by exact mark)]
  rw [start', image', mode', fault', frost', defrost', grants', frost, path', classA]
  refine ⟨rfl, kind, rfl, by rw [now]; rfl, image, mode, queue', driver', by rw [image]; rfl, a, b, record, threshold, hours, gap, f,
    rfl, ?_, outputs'⟩
  by_cases none : s.fault.aFlags = 0 <;> simp [none]

/-- Settles O18: a power-on takes its values from the image that is in place. -/
theorem supplyGoodWithoutTheMarkIsAPowerOn : Obligations.SupplyGoodWithoutTheMarkIsAPowerOn := by
  intro straps n s powerUp mark
  let u := (s.setStraps straps n).beginReset .powerOn
  obtain ⟨kind, state, image, now, pins, agenda, mode⟩ := State.beginReset_start (s.setStraps straps n) .powerOn
  obtain ⟨a, b, record, tRes, event⟩ := State.beginReset_powerOn (s.setStraps straps n)
  have strapped : u.pins.straps = straps := congrArg Pins.straps pins
  have pulses : u.pins.sdaLowPulses = n := congrArg Pins.sdaLowPulses pins
  have acts : (if s.start.state = .powerUp then (s.setStraps straps n).supplyGood else s) = u.enterImageLoad := by
    rw [if_pos powerUp, State.supplyGood, if_neg (by exact ne_true_of_eq_false mark)]
  refine ⟨fun low => ⟨u.enterImageLoad, does_of_eq rfl acts, ?_⟩, fun high free => ⟨u.enterImageLoad, ?_, ?_⟩,
    fun high stuck => ⟨u.enterImageLoad, does_of_eq rfl acts, ?_⟩⟩
  · rw [State.enterImageLoad_of_low (by rw [strapped]; exact low), strapped]
    let v := u.loading.withImage (builtinImage straps)
    have cold : ∀ m, (v.mold m).state ≠ .harvestHeat := State.beginReset_mold _ _
    obtain ⟨image', raw', mode', fault', frost', defrost', grants'⟩ := v.enterListen_kept
    obtain ⟨_, tRes'⟩ := State.enterListen_water cold
    have event' := State.enterListen_lastEvent cold
    have frost : v.listenFrost = { v.frost with
        t := v.image.initialThreshold, f := v.image.initialThreshold / 2, hours := 0, gap := .minGap } := if_pos kind
    rw [v.enterListen_startUp, image', mode', fault', frost', tRes', event', frost]
    refine ⟨rfl, kind, rfl, rfl, a, b, record, mode, rfl, rfl, rfl, rfl, ?_, event⟩
    have water : v.water.tRes = 40 := tRes
    rw [water]
    exact min_eq_left (builtinImage_tIn straps)
  · refine next_of_not_listening rfl acts ?_
    rw [State.enterImageLoad_of_free (by rw [strapped]; exact high) (by rw [pulses]; exact free)]
    rfl
  · rw [State.enterImageLoad_of_free (by rw [strapped]; exact high) (by rw [pulses]; exact free)]
    have least : min 9 u.pins.sdaLowPulses = n := by rw [pulses]; omega
    exact ⟨rfl, kind, rfl, rfl, least, a, b, mode⟩
  · rw [State.enterImageLoad_of_stuck (by rw [strapped]; exact high) (by rw [pulses]; exact stuck)]
    obtain ⟨start', image', _, defaulted, _⟩ := u.readStarted.imageFallback_facts
    rw [start', image']
    refine ⟨rfl, kind, congrArg builtinImage strapped, defaulted, ?_⟩
    have least : min 9 u.pins.sdaLowPulses = 9 := by rw [pulses]; omega
    exact least

/-- Settles O21: everything is cleared, the reset keeps its part, and the load begins. -/
theorem restartResetBeginsTheImageLoad : Obligations.RestartResetBeginsTheImageLoad := by
  intro straps n s due run
  let u := (s.setStraps straps n).clearVolatile.beginReset .restart
  obtain ⟨a, b, record, threshold, hours, gap, f⟩ :=
    State.beginReset_kept (s := (s.setStraps straps n).clearVolatile) (kind := .restart) (by decide)
  obtain ⟨kind, state, image, now, pins, agenda, mode⟩ := State.beginReset_start (s.setStraps straps n).clearVolatile .restart
  have strapped : u.pins.straps = straps := congrArg Pins.straps pins
  have pulses : u.pins.sdaLowPulses = n := congrArg Pins.sdaLowPulses pins
  have acts : (if s.start.restart = .due ∧ s.start.state = .run then (s.setStraps straps n).restartReset else s) = u.enterImageLoad := by
    rw [if_pos ⟨due, run⟩, State.restartReset]
  refine ⟨fun high free => ⟨u.enterImageLoad, ?_, ?_⟩, fun low => ⟨u.enterImageLoad, does_of_eq rfl acts, ?_⟩⟩
  · refine next_of_not_listening rfl acts ?_
    rw [State.enterImageLoad_of_free (by rw [strapped]; exact high) (by rw [pulses]; exact free)]
    rfl
  · rw [State.enterImageLoad_of_free (by rw [strapped]; exact high) (by rw [pulses]; exact free)]
    exact ⟨rfl, kind, rfl, rfl, State.isOn_of_blank rfl, rfl, mode, a, b, record, threshold, hours, gap, f⟩
  · rw [State.enterImageLoad_of_low (by rw [strapped]; exact low), strapped]
    let v := u.loading.withImage (builtinImage straps)
    obtain ⟨image', raw', mode', fault', frost', defrost', grants'⟩ := v.enterListen_kept
    rw [v.enterListen_startUp, image', mode', fault']
    exact ⟨rfl, kind, rfl, mode, a, b⟩

/-- Settles O19: the read notes what it does and holds what arrives; its end enters LISTEN with the image or with the built-in set. -/
theorem imageReadOrFallbackEntersListen : Obligations.ImageReadOrFallbackEntersListen := by
  intro s reading first takes address
  have signals (n : Nat) : address n = addressByte n := by
    match n with
    | 0 | 1 | 2 | _ + 3 => rfl
  have acts {c : Instr} {u : State} (run : exec c s = (if s.reading then u else s).done) : Does c s u :=
    does_of_eq run (if_pos reading)
  refine ⟨⟨s.acknowledge, acts rfl, reading, rfl, ?_, rfl⟩, fun b => ⟨s.arrive b, acts rfl, reading, rfl, rfl, fun addressed => ?_⟩,
    fun b => ?_, fun c read => ?_⟩
  · rw [signals]; rfl
  · have sent : (s.arrive b).start.sent = s.start.sent ++ (addressFrom s.start.acked ++ taken first b.length) := rfl
    rw [sent, addressed]
    rfl
  · intro whole
    have acts : Does (.imageRead (.bytes b)) s (s.goOnReading (.bytes b)) := acts rfl
    have soFar : s.readSoFar b = whole := rfl
    rw [State.goOnReading_bytes, soFar] at acts
    refine ⟨fun checks => ?_, fun checks len => ?_⟩
    · have len : whole.length = 256 := by
        rw [imageChecks, Bool.and_eq_true, Bool.and_eq_true] at checks
        exact beq_iff_eq.mp checks.1.1
      obtain ⟨start', image', raw', _, kept, defaulted⟩ :=
        (s.readEnded b).imageInPlace_facts (decodeImage whole) (!strictRise (tableAt whole))
      rw [if_pos checks] at acts
      refine ⟨_, acts, ?_⟩
      rw [start', image', raw']
      refine ⟨rfl, rfl, rfl, rfl, State.readEnded_rawImage len, fun addressed => ?_, fun addressed => ?_, fun rises => ?_, fun falls =>
        ⟨if_neg (by rw [falls]; decide), defaulted (by rw [falls]; rfl)⟩⟩
      · rw [State.readEnded_sent, addressed]; rfl
      · rw [State.readEnded_sent, addressed]
        simp only [List.append_assoc]
        rfl
      · rw [kept (by rw [rises]; rfl)]; rfl
    · rw [if_neg (ne_true_of_eq_false checks)] at acts
      obtain ⟨start', image', raw', defaulted, _⟩ := (s.readEnded b).imageFallback_facts
      refine ⟨_, acts, ?_⟩
      rw [start', image', raw']
      exact ⟨rfl, rfl, State.readEnded_rawImage len, defaulted⟩
  · let u := s.drive (addressByte s.start.acked ++ [.stop])
    obtain ⟨start', image', raw', defaulted, queue⟩ := u.imageFallback_facts
    refine ⟨u.imageFallback, ?_, ?_⟩
    · rcases read with rfl | rfl
      · exact acts rfl
      · exact acts rfl
    rw [start', image', raw', signals]
    exact ⟨rfl, rfl, rfl, rfl, (List.append_assoc ..).symm, defaulted, queue⟩
end

/-! PROOF. The entry to RUN (R192). -/

section
namespace Sys2Proof.Machine

/-! ### A mold that freezes is left alone -/

/-- A mold in FREEZING keeps its record. -/
def FreezeKept (m : Mold) (s t : State) : Prop := (s.mold m).state = .freezing → t.mold m = s.mold m

theorem FreezeKept.trans {m : Mold} {s t u : State} (h : FreezeKept m s t) (k : FreezeKept m t u) : FreezeKept m s u := fun freezing =>
  (k (by rw [h freezing]; exact freezing)).trans (h freezing)

theorem FreezeKept.refl (m : Mold) (s : State) : FreezeKept m s s := fun _ => rfl

theorem Touches.freezeKept {P : List Facet} {s t : State} (h : Touches P s t) (m : Mold)
    (apart : autoParam (Facet.mold .a ∉ P ∧ Facet.mold .b ∉ P) Rat.normalize._auto_1) : FreezeKept m s t := fun _ => by
  cases m
  · exact h (.mold .a) apart.1
  · exact h (.mold .b) apart.2

theorem setMold_freezeKept {s : State} {m n : Mold} (r : MoldRecord) (h : (s.mold n).state ≠ .freezing) :
    FreezeKept m s (s.setMold n r) := fun freezing =>
  State.setMold_mold_ne s (fun e => h (by rw [← e]; exact freezing)) r

theorem State.returnFill_freezeKept (s : State) (f : Fill) (m : Mold) : FreezeKept m s (s.returnFill f) := by
  unfold State.returnFill
  dsimp only
  generalize e : ({ s with water := _ } : State) = t
  have mold (m : Mold) : t.mold m = s.mold m := by rw [← e]; rfl
  have same : FreezeKept m s t := fun _ => mold m
  split
  · rename_i filling
    exact same.trans (setMold_freezeKept _ (by rw [filling]; decide))
  · exact same

theorem State.returnHeld_freezeKept (s : State) (m : Mold) : FreezeKept m s s.returnHeld := by
  unfold State.returnHeld
  split
  · exact s.returnFill_freezeKept _ m
  · exact .refl m s

theorem State.lockPath_freezeKept (s : State) (m : Mold) : FreezeKept m s s.lockPath := by
  have locks (t : State) : FreezeKept m t (t.setPath .locked) := (t.setPath_touches _).freezeKept m
  unfold State.lockPath
  split
  · exact .refl m s
  · exact (s.returnHeld_freezeKept m).trans (locks _)
  · split
    · exact (((s.closeDispense_touches _).freezeKept m).trans (State.returnHeld_freezeKept _ m)).trans (locks _)
    · exact (s.returnHeld_freezeKept m).trans (locks _)
  · exact (((Touches.dispense s _ _ _ _ (R := [.dispense])).freezeKept m).trans (State.returnHeld_freezeKept _ m)).trans (locks _)
  · split
    · exact (((s.closeFill_closes _).freezeKept m).trans (State.returnFill_freezeKept _ _ m)).trans (locks _)
    · exact locks s

theorem State.abortMold_freezeKept (s : State) (m n : Mold) : FreezeKept m s (s.abortMold n) := by
  intro freezing
  by_cases same : m = n
  · subst same
    have run : s.abortMold m = s := if_neg (by rw [freezing]; decide)
    rw [run]
  · exact (s.abortMold_touches n).at (.mold m) (by cases m <;> cases n <;> first | exact absurd rfl same | decide)

/-- What a class A raise may touch, beside what is on the agenda. -/
def raiseFacets : List Facet :=
  [.watch, .agenda, .restart, .queue, .offers, .clearing, .changed, .grants, .claims, .flight, .tagCounter, .suspended, .reclaim,
    .shedDelay, .dhClass, .gap, .defrost, .meter, .reservoir, .path, .fills, .dispense, .mold .a, .mold .b, .auger, .outputs, .fault] ++
  jobFacets ++ ownFacets

theorem State.raiseA_touches_ends (s : State) (f : FaultId) : Touches raiseFacets s (s.raiseA f) := by
  unfold State.raiseA; split
  · exact (s.writeEvent_touches _).mono
  · exact (((((((s.setFlag_resolve_touches f).mono.trans (State.generalRelease_touches _).mono).trans
      (State.lockPath_touches _).mono).trans (State.abortDefrost_touches_step _).mono).trans (State.abortMolds_touches _).mono).trans
      (State.augerAborted_touches _).mono).trans (State.announce_touches _ _).mono)

theorem State.raiseA_freezeKept (s : State) (f : FaultId) (m : Mold) : FreezeKept m s (s.raiseA f) := by
  cases h : s.fault.isSet f
  · rw [State.raiseA_of_new h, State.endsA, State.abortMolds]
    exact (((((((s.setFlag_resolve_touches f).freezeKept m).trans ((State.generalRelease_touches _).freezeKept m)).trans
      (State.lockPath_freezeKept _ m)).trans ((State.abortDefrost_touches_step _).freezeKept m)).trans
      (State.abortMold_freezeKept _ m .a)).trans (State.abortMold_freezeKept _ m .b)).trans
      (((State.augerAborted_touches _).freezeKept m).trans ((State.announce_touches _ f).freezeKept m))
  · rw [State.raiseA_of_set h]
    exact (s.write_touches _ _).freezeKept m

theorem State.raiseA_isSet (s : State) (f : FaultId) : (s.raiseA f).fault.isSet f = true := by
  cases h : s.fault.isSet f
  · rw [State.raiseA_of_new h]
    have resolved : _ = (s.setFlag f).fault := (s.setFlag f).resolve_touches.at .fault
    have ended : _ = (s.setFlag f).resolve.fault := (State.endsA_touches (s.setFlag f).resolve).at .fault
    rw [State.announce_record, FaultUnit.isSet, ended, resolved]
    exact s.setFlag_isSet f
  · rw [State.raiseA_of_set h, State.write_fault]
    exact h

/-! ### The tests of the entry (R180) -/

/-- One class A condition tested afresh. -/
def State.testOne (s : State) (f : FaultId) : State := if s.conditionHolds f then s.raiseA f else s

theorem State.testAfresh_eq (s : State) : s.testAfresh = ((s.testOne .leak).testOne .runaway).testOne .overtemp := rfl

theorem State.testOne_touches (s : State) (f : FaultId) : Touches raiseFacets s (s.testOne f) := by
  unfold State.testOne
  split
  · exact s.raiseA_touches_ends f
  · exact .refl _ s

theorem State.testOne_freezeKept (s : State) (f : FaultId) (m : Mold) : FreezeKept m s (s.testOne f) := by
  unfold State.testOne
  split
  · exact s.raiseA_freezeKept f m
  · exact .refl m s

theorem State.testOne_isSet {s : State} {f : FaultId} (h : s.conditionHolds f = true) : (s.testOne f).fault.isSet f = true := by
  rw [State.testOne, if_pos h]; exact s.raiseA_isSet f

theorem State.testOne_flag (s : State) (f g : FaultId) (h : s.fault.isSet g = true) : (s.testOne f).fault.isSet g = true := by
  unfold State.testOne
  split
  · exact (s.raiseA_touches f).at (.flag g) (by simp [eventFacets, jobFacets, ownFacets, outputs]) h
  · exact h

theorem State.testAfresh_facts (s : State) : Touches raiseFacets s s.testAfresh ∧ (∀ m, FreezeKept m s s.testAfresh) ∧
    (s.switches.leak.level = true → s.testAfresh.fault.isSet .leak = true) ∧
    (s.switches.cutout.level = true → s.testAfresh.fault.isSet .overtemp = true) := by
  rw [State.testAfresh_eq]
  have leak := s.testOne_touches .leak
  have runaway := (s.testOne .leak).testOne_touches .runaway
  refine ⟨(leak.trans runaway).trans (State.testOne_touches _ _), fun m => ((s.testOne_freezeKept _ m).trans
    (State.testOne_freezeKept _ _ m)).trans (State.testOne_freezeKept _ _ m), fun wet => ?_, fun tripped => ?_⟩
  · exact State.testOne_flag _ _ _ (State.testOne_flag _ _ _ (State.testOne_isSet wet))
  · have switches : _ = s.switches := (leak.trans runaway).at .switches
    refine State.testOne_isSet ?_
    rw [State.conditionHolds, switches, tripped]
    rfl

/-! ### The blocks' starts -/

/-- FREEZING is entered with both timers running, so that its test is not met at once. -/
theorem State.enterFreezing_eq (s : State) (m : Mold) : s.enterFreezing m = s.setMold m { s.mold m with
    state := .freezing, leastFreeze := some (s.now + if (s.mold m).short then 1800000000 else 2400000000)
    timedFreeze := some (s.now + 5400000000) } := by
  have run : s.enterFreezing m = (s.setMold m { s.mold m with
    state := .freezing, leastFreeze := some (s.now + if (s.mold m).short then 1800000000 else 2400000000)
    timedFreeze := some (s.now + 5400000000) }).freezeTest m := by
    unfold State.enterFreezing
    cases (s.mold m).short <;> rfl
  rw [run, State.freezeTest_of_not ?_]
  rintro ⟨-, -, frozen⟩
  rw [State.frozen, State.setMold_mold] at frozen
  split at frozen <;> simp at frozen

theorem State.enterFreezing_record (s : State) (m : Mold) : (s.enterFreezing m).mold m = { s.mold m with
    state := .freezing, leastFreeze := some (s.now + if (s.mold m).short then 1800000000 else 2400000000)
    timedFreeze := some (s.now + 5400000000) } := by
  rw [State.enterFreezing_eq, State.setMold_mold]

theorem State.startFrost_frost (s : State) : s.startFrost.frost.seconds = 0 ∧ s.startFrost.frost.r = 0 ∧ s.startFrost.frost.dz = 0 ∧
    s.startFrost.frost.dr = 0 ∧ s.startFrost.frost.h = 0 ∧ s.startFrost.frost.freezerMark = false ∧
    s.startFrost.frost.fridgeMark = false ∧ s.startFrost.frost.secondTimer = some (s.now + 1000000) ∧
    s.startFrost.frost.hourTimer = some (s.now + 3600000000) := by
  let u : State := { s.clearMinute with frost := { s.clearMinute.frost with
    seconds := 0, secondTimer := s.clearMinute.timer Config.sec, hourTimer := s.clearMinute.timer Config.hour
    retryTimer := if s.clearMinute.frost.gap = GapState.retryWait then s.clearMinute.timer Config.hour else none } }
  have run : s.startFrost = let t := u.demandIf u.thresholdTest
      let t' := t.demandIf t.maxGapTest
      t'.demandIf t'.start.interrupted := rfl
  have touched : Touches holdFacets u s.startFrost := by
    rw [run]
    exact ((State.demandIf_touches _ _).trans (State.demandIf_touches _ _)).trans (State.demandIf_touches _ _)
  obtain ⟨second, seconds, r, dz, dr, freezer, fridge⟩ := touched.at .minute
  have harvests : _ = u.frost.h := touched.at .harvests
  have hour : _ = u.frost.hourTimer := touched.at .hourTimer
  exact ⟨seconds, r, dz, dr, harvests, freezer, fridge, second, hour⟩

/-- Both molds' starts: a mold in FREEZING has fresh timers. -/
theorem State.startMolds_record {s : State} {m : Mold} (freezing : (s.mold m).state = .freezing) :
    (((s.startMold .a).startMold .b).mold m) = { s.mold m with
      leastFreeze := some (s.now + if (s.mold m).short then 1800000000 else 2400000000)
      timedFreeze := some (s.now + 5400000000) } := by
  have started (t : State) (same : t.mold m = s.mold m) (now : t.now = s.now) : (t.startMold m).mold m = { s.mold m with
      leastFreeze := some (s.now + if (s.mold m).short then 1800000000 else 2400000000)
      timedFreeze := some (s.now + 5400000000) } := by
    rw [State.startMold, same, if_pos freezing, State.enterFreezing_record, same, now, ← freezing]
  cases m with
  | a =>
    have kept : ((s.startMold .a).startMold .b).mold .a = (s.startMold .a).mold .a := (State.startMold_touches _ .b).at (.mold .a)
    rw [kept, started s rfl rfl]
  | b =>
    have kept : (s.startMold .a).mold .b = s.mold .b := (s.startMold_touches .a).at (.mold .b)
    have now : (s.startMold .a).now = s.now := (s.startMold_touches .a).at .now
    rw [started _ kept now]

/-- What the entry to RUN may touch, beside the start-up block. -/
def entersFacets : List Facet := .minute :: .harvests :: .hourTimer :: .relaxation :: raiseFacets

end Sys2Proof.Machine

open Sys2Proof Sys2Proof.Machine

/-- Settles O20: each block starts in its turn, and the tests of the class A conditions leave what the blocks have set. -/
theorem listenTimerExpiryEntersRun : Obligations.ListenTimerExpiryEntersRun := by
  intro d s timer
  let s0 : State := { s.atMoment d with start := { s.start with state := .run, runSince := max s.now d, listenTimer := none } }
  let v : State := s0.startWatch.fan
  let w : State := v.startFrost
  let x : State := w.startWater
  let y : State := (x.startMold .a).startMold .b
  let z : State := y.announceKept
  have run : (s.atMoment d).enterRun = z.testAfresh := rfl
  have toV : Touches raiseFacets s0 v := s0.startWatch_touches.mono.trans (State.fan_touches _).mono
  have toW : Touches startFrostFacets v w := v.startFrost_touches
  have toX : Touches [.relaxation, .meter] w x := w.startWater_touches
  have toY : Touches raiseFacets x y := (x.startMold_touches .a).mono.trans (State.startMold_touches _ .b).mono
  have toZ : Touches noticeFacets y z := y.announceKept_touches
  obtain ⟨toT, freezeKept, leak, overtemp⟩ := z.testAfresh_facts
  refine ⟨z.testAfresh, does_expiry (act := State.enterRun) rfl timer run, ?_⟩
  have xToT : Touches raiseFacets x z.testAfresh := (toY.trans toZ.mono).trans toT
  have wToT : Touches (.relaxation :: raiseFacets) w z.testAfresh := toX.mono.trans xToT.mono
  have sToW : Touches entersFacets s0 w := toV.mono.trans toW.mono
  have whole : Touches entersFacets s0 z.testAfresh := sToW.trans wToT.mono
  have switches : _ = s0.switches := ((sToW.trans toX.mono).trans (toY.trans toZ.mono).mono).at .switches
  have vNow : v.now = s0.now := toV.at .now
  have xNow : x.now = s0.now := (sToW.trans toX.mono).at .now
  have relaxation : _ = x.water.relaxation := xToT.at .relaxation
  have started : x.water.relaxation = some (w.now + 60000000) := rfl
  have wNow : w.now = s0.now := sToW.at .now
  have molds (m : Mold) : x.mold m = s.mold m := by
    have kept : x.mold m = w.mold m := toX.at (.mold m) (by cases m <;> decide)
    have kept' : w.mold m = v.mold m := toW.at (.mold m) (by cases m <;> decide)
    have kept'' : v.mold m = s0.mold m := (s0.startWatch_touches.mono.trans (State.fan_touches _).mono : Touches (commandFacets .ef) s0 v).at
      (.mold m) (by cases m <;> decide)
    exact kept.trans (kept'.trans kept'')
  have noticed (m : Mold) : z.mold m = y.mold m := toZ.at (.mold m) (by cases m <;> decide)
  have record {m : Mold} (freezing : (s.mold m).state = .freezing) := State.startMolds_record (s := x) (m := m) (by rw [molds]; exact freezing)
  have frost := v.startFrost_frost
  rw [show v.startFrost = w from rfl] at frost
  obtain ⟨seconds, r, dz, dr, h, freezer, fridge, second, hour⟩ := frost
  obtain ⟨secondT, secondsT, rT, dzT, drT, freezerT, fridgeT⟩ := wToT.at .minute
  have hT : _ = w.frost.h := wToT.at .harvests
  have hourT : _ = w.frost.hourTimer := wToT.at .hourTimer
  have start : StartKept s0 z.testAfresh := whole.at .start
  have now : _ = s0.now := whole.at .now
  have view : _ = s0.view := whole.at .view
  have sensors : _ = s0.sensors := whole.at .sensors
  have switchesT : _ = s0.switches := whole.at .switches
  have mode : _ = s0.mode := whole.at .mode
  have image : _ = s0.image := whole.at .image
  rw [switches] at leak overtemp
  rw [vNow] at second hour
  have elapsed : z.testAfresh.secondsSinceStart = 0 := by
    rw [State.secondsSinceStart, now, start]
    show (max s.now d - max s.now d) / Config.sec % 4294967296 = 0
    rw [Nat.sub_self]
    rfl
  refine ⟨now, congrArg StartUp.state start, congrArg StartUp.runSince start, congrArg StartUp.listenTimer start, elapsed, secondsT.trans seconds, rT.trans r, dzT.trans dz, drT.trans dr,
    hT.trans h, freezerT.trans freezer, fridgeT.trans fridge, secondT.trans second, hourT.trans hour,
    relaxation.trans (started.trans (by rw [wNow]; rfl)), fun m freezing _ => ?_, leak, overtemp, view, sensors, switchesT, mode, image⟩
  have yRecord : y.mold m = _ := record freezing
  have kept := freezeKept m (by rw [noticed, yRecord, molds]; exact freezing)
  rw [kept, noticed, yRecord, molds, xNow]
  exact ⟨rfl, rfl⟩
end

/-! PROOF. The water path: fills that end, dispenses that stop, metering (chapter 6). -/

section
namespace Sys2Proof.Machine

/-! ### The path's state -/

theorem State.setPath_mixes (s : State) (p : PathState) : Mixes s (s.setPath p) := by
  have written : Mixes s (State.write { s with water := { s.water with path := p } } .waterPathState p.code) :=
    .inl (by rw [State.write_water]; exact ⟨rfl, rfl⟩)
  have image : (State.write { s with water := { s.water with path := p } } .waterPathState p.code).image = s.image := State.write_image ..
  exact written.trans (State.command_mixes _ _ _) image

/-! ### A fill closed (R122) -/

/-- The valve is off, the limit timer stopped, and what was drawn is mixed. -/
theorem State.closeFill_facts (s : State) (f : Fill) : (s.closeFill f).water.path = s.water.path ∧
    (s.closeFill f).water.queue = s.water.queue ∧ (s.closeFill f).water.current = s.water.current ∧
    (s.closeFill f).water.held = s.water.held ∧ (s.closeFill f).water.fillLimit = none ∧ (s.closeFill f).water.draw = 0 ∧
    (s.closeFill f).water.tRes = s.mixed ∧ ((s.closeFill f).channel f.mold.valve).job = .off := by
  have commanded := s.command_touches f.mold.valve .off
  have path : (s.command f.mold.valve .off).water.path = s.water.path := commanded.at .path (by cases f.mold <;> decide)
  have fills : Facet.kept .fills s (s.command f.mold.valve .off) := commanded.at .fills (by cases f.mold <;> decide)
  obtain ⟨queue, current, held, -⟩ := fills
  have image : (s.command f.mold.valve .off).image = s.image := commanded.at .image (by cases f.mold <;> decide)
  have mixed := (s.command_mixes f.mold.valve .off).mixed image
  have job := State.command_job_self s f.mold.valve .off
  unfold State.closeFill
  dsimp only
  generalize s.command f.mold.valve .off = u at *
  rw [State.mixRemainder_water, State.channel, State.mixRemainder_out]
  exact ⟨path, queue, current, held, rfl, rfl, mixed, job⟩

/-! ### A dispense stopped (R129) -/

theorem State.clearLineHold_water (s : State) : s.clearLineHold.water =
    { s.water with lineHold := if s.image.edge = .levelLow then s.water.lineHold else false } := by
  unfold State.clearLineHold
  split
  · rename_i level; rw [if_pos level]
  · rename_i other; rw [if_neg other]

theorem dispensedVolume_unreported : OwnTag.dispensedVolume.unreported := (unreported_iff _).mpr (by decide)

theorem State.writeDispensed_own (s : State) (n : Nat) : (s.writeDispensed n).own .dispensedVolume = (min 2000 (n / 256) : Nat) := by
  rw [State.writeDispensed, State.own_write s _ _ dispensedVolume_unreported, if_pos rfl]

/-- What every stop of a dispense leaves behind. -/
theorem State.closeDispense_facts (s : State) (d : Dispense) :
    (s.closeDispense d).water.path = s.water.path ∧ (s.closeDispense d).water.dispense = none ∧
    (s.closeDispense d).water.dispenseLimit = none ∧ (s.closeDispense d).water.settling = s.water.settling ∧
    (s.closeDispense d).water.lineHold = (if s.image.edge = .levelLow then s.water.lineHold else false) ∧
    (s.closeDispense d).water.draw = 0 ∧ (s.closeDispense d).water.tRes = s.mixed ∧
    (s.closeDispense d).own .dispensedVolume = (min 2000 (d.counted / 256) : Nat) ∧ ((s.closeDispense d).channel .dv).job = .off := by
  have commanded := s.command_touches .dv .off
  have path : (s.command .dv .off).water.path = s.water.path := commanded.at .path
  obtain ⟨-, hold, -, settling⟩ : Facet.kept .dispense s (s.command .dv .off) := commanded.at .dispense
  have image : (s.command .dv .off).image = s.image := commanded.at .image
  have mixed := (s.command_mixes .dv .off).mixed image
  have job := State.command_job_self s .dv .off
  let v : State := State.mixRemainder { s.command .dv .off with
    water := { (s.command .dv .off).water with dispenseLimit := none } }
  have vWater : v.water = { (s.command .dv .off).water with dispenseLimit := none, draw := 0, tRes := (s.command .dv .off).mixed } :=
    State.mixRemainder_water _
  have vImage : v.image = s.image := (State.mixRemainder_image _).trans image
  have vJob : (v.channel .dv).job = .off := by rw [State.channel, State.mixRemainder_out]; exact job
  let w : State := (v.writeDispensed d.counted).clearLineHold
  have written : (v.writeDispensed d.counted).water = v.water := State.write_water ..
  have wImage : (v.writeDispensed d.counted).image = v.image := State.write_image ..
  have wWater : w.water = { v.water with lineHold := if s.image.edge = .levelLow then v.water.lineHold else false } := by
    have cleared := (v.writeDispensed d.counted).clearLineHold_water
    rw [written, wImage, vImage] at cleared
    exact cleared
  have toW : Touches [.dispense] (v.writeDispensed d.counted) w := State.clearLineHold_touches _
  have own : w.own .dispensedVolume = _ := (toW.at (.own .dispensedVolume)).trans (v.writeDispensed_own d.counted)
  have wJob : (w.channel .dv).job = (v.channel .dv).job :=
    (toW.at (.job .dv)).trans ((v.writeDispensed_touches d.counted).at (.job .dv))
  have run : s.closeDispense d = { w with water := { w.water with dispense := none } } := rfl
  rw [run]
  clear run
  clear_value w
  simp only [wWater, vWater, path, hold, settling, mixed, true_and]
  exact ⟨own, wJob.trans vJob⟩

/-- A stop leads into SETTLING for 3 s. -/
theorem State.stopDispense_facts {s : State} {d : Dispense} (running : s.water.dispense = some d) :
    s.stopDispense.water.path = .settling ∧ s.stopDispense.water.settling = some (s.now + 3000000) ∧
    s.stopDispense.water.dispense = none ∧ s.stopDispense.water.dispenseLimit = none ∧
    s.stopDispense.water.lineHold = (if s.image.edge = .levelLow then s.water.lineHold else false) ∧
    s.stopDispense.water.draw = 0 ∧ s.stopDispense.water.tRes = s.mixed ∧
    s.stopDispense.own .dispensedVolume = (min 2000 (d.counted / 256) : Nat) ∧ (s.stopDispense.channel .dv).job = .off := by
  obtain ⟨-, dispense, limit, -, hold, draw, res, own, job⟩ := s.closeDispense_facts d
  have now : (s.closeDispense d).now = s.now := (s.closeDispense_touches d).at .now
  have run : s.stopDispense = State.setPath { s.closeDispense d with
      water := { (s.closeDispense d).water with settling := (s.closeDispense d).timer Config.settlingTime } } .settling := by
    rw [State.stopDispense, running]
  rw [run]
  generalize s.closeDispense d = u at *
  let v : State := { u with water := { u.water with settling := u.timer Config.settlingTime } }
  have toT : Touches pathFacets v (v.setPath .settling) := v.setPath_touches _
  obtain ⟨dispense', hold', limit', settling'⟩ : Facet.kept .dispense v (v.setPath .settling) := toT.at .dispense
  have own' : (v.setPath .settling).own .dispensedVolume = v.own .dispensedVolume := toT.at (.own .dispensedVolume)
  have job' : ((v.setPath .settling).channel .dv).job = (v.channel .dv).job := toT.at (.job .dv)
  obtain ⟨draw', res'⟩ := (v.setPath_mixes .settling).of_no_draw draw
  have due : v.water.settling = some (s.now + 3000000) := by
    rw [← now]; rfl
  exact ⟨State.setPath_path _ _, settling'.trans due, dispense'.trans dispense, limit'.trans limit, hold'.trans hold, draw',
    res'.trans res, own'.trans own, job'.trans job⟩

/-! ### Grades (R123) -/

/-- What a grade may touch, once no freeze test is met. -/
def gradedFacets : List Facet := [.mold .a, .mold .b, .own .moldAState, .own .moldBState] ++ flagFacets

theorem State.takeGrade_facts (s : State) (f : Fill) (g : Grade) : Touches gradedFacets s (s.takeGrade f g) ∧
    match g with
    | .full => ((s.takeGrade f g).mold f.mold).state = .freezing ∧ ((s.takeGrade f g).mold f.mold).short = false
    | .short => ((s.takeGrade f g).mold f.mold).state = .freezing ∧ ((s.takeGrade f g).mold f.mold).short = true
    | .retry => (s.takeGrade f g).mold f.mold =
        { s.mold f.mold with state := .fillWait, owed := f.owed, attempt := 2, fillRetry := some (s.now + 60000000) }
    | .noWater => ((s.takeGrade f g).mold f.mold).state = .outOfService ∧ (s.takeGrade f g).fault.isSet .noWater = true := by
  have set (t : State) (r : MoldRecord) : Touches gradedFacets t (t.setMold f.mold r) :=
    (t.setMold_touches f.mold r).mono (by cases f.mold <;> decide)
  unfold State.takeGrade
  cases g <;> dsimp only
  case full | short =>
    rw [State.enterFreezing_eq, State.setMold_mold, State.setMold_mold]
    exact ⟨(set _ _).trans (set _ _), rfl, rfl⟩
  case retry => exact ⟨set _ _, State.setMold_mold ..⟩
  case noWater =>
    refine ⟨(State.raiseB_touches s rfl).mono.trans (set _ _), by rw [State.setMold_mold], ?_⟩
    rw [State.setMold_fault]
    exact s.raiseB_isSet _

/-- A raise of class B leaves the class A flags. -/
theorem State.raiseB_aFlags {s : State} {f : FaultId} (isB : f.isA = false) : (s.raiseB f).fault.aFlags = s.fault.aFlags := by
  unfold State.raiseB
  split
  · rw [State.writeEvent, State.write_fault]
  · have capture : (s.capture f).fault.aFlags = s.fault.aFlags := by
      unfold State.capture; split <;> rfl
    rw [State.setFlag, State.writeEvent, State.write_fault, State.writeFlags, State.write_fault, State.write_fault, ← capture]
    simp [FaultUnit.put, isB]

theorem State.takeGrade_aFlags (s : State) (f : Fill) (g : Grade) : (s.takeGrade f g).fault.aFlags = s.fault.aFlags := by
  unfold State.takeGrade
  cases g <;> dsimp only
  case full | short => rw [State.enterFreezing_eq, State.setMold_fault, State.setMold_fault]
  case retry => rw [State.setMold_fault]
  case noWater => rw [State.setMold_fault]; exact State.raiseB_aFlags rfl

/-! ### The end of a fill (R122) -/

/-- The state in which the start test follows a fill that ends. -/
def State.graded (s : State) (f : Fill) : State :=
  State.takeGrade { s.closeFill f with water := { (s.closeFill f).water with current := none } } f
    (gradeOf (s.image.fillTargetMl * 256) f)

theorem State.endFill_eq {s : State} {f : Fill} (current : s.water.current = some f) : s.endFill = (s.graded f).startTest := by
  have image : (s.closeFill f).image = s.image := (s.closeFill_closes f).at .image
  have target : State.fillTarget { s.closeFill f with water := { (s.closeFill f).water with current := none } } =
      s.image.fillTargetMl * 256 := by rw [← image]; rfl
  rw [State.endFill, current]
  dsimp only
  rw [target]
  rfl

/-- What a fill that ends leaves behind before the start test. -/
theorem State.graded_facts (s : State) (f : Fill) : (s.graded f).water.path = s.water.path ∧
    (s.graded f).water.queue = s.water.queue ∧ (s.graded f).water.current = none ∧ (s.graded f).water.held = s.water.held ∧
    (s.graded f).water.fillLimit = none ∧ (s.graded f).water.draw = 0 ∧ ((s.graded f).channel f.mold.valve).job = .off ∧
    (s.mayFill → (s.graded f).mayFill) := by
  obtain ⟨path, queue, current, held, limit, draw, -, job⟩ := s.closeFill_facts f
  have closed := s.closeFill_closes f
  have start : (s.closeFill f).start.state = s.start.state := closed.start_state
  have mode : (s.closeFill f).mode = s.mode := closed.at .mode
  have fault : (s.closeFill f).fault = s.fault := closed.at .fault
  unfold State.graded
  generalize s.closeFill f = u at *
  obtain ⟨touched, -⟩ := State.takeGrade_facts { u with water := { u.water with current := none } } f
    (gradeOf (s.image.fillTargetMl * 256) f)
  obtain ⟨queue', current', held', limit'⟩ := touched.at .fills
  have path' := touched.at .path
  have draw' := (touched.at .reservoir).1
  have job' := touched.at (.job f.mold.valve) (by cases f.mold <;> decide)
  have start' := touched.start_state
  have mode' := touched.at .mode
  have flags := State.takeGrade_aFlags { u with water := { u.water with current := none } } f (gradeOf (s.image.fillTargetMl * 256) f)
  generalize State.takeGrade _ f _ = w at *
  exact ⟨path'.trans path, queue'.trans queue, current', held'.trans held, limit'.trans limit, draw'.trans draw, job'.trans job,
    fun may => State.mayFill_of_kept (start'.trans start) (mode'.trans mode) (flags.trans (congrArg FaultUnit.aFlags fault)) may⟩

/-- With nothing to fill the path is IDLE, and nothing else follows. -/
theorem State.startTest_idle {s : State} (h : ¬ s.mayFill ∨ (s.water.held = none ∧ s.water.queue = [])) :
    s.startTest.water.path = .idle ∧ Touches pathFacets s s.startTest ∧ Mixes s s.startTest := by
  rw [State.startTest_of_none h]
  exact ⟨State.setPath_path .., s.setPath_touches _, s.setPath_mixes _⟩

/-! ### The end of SETTLING (R130) -/

/-- The path IDLE after SETTLING, before the start test. -/
def State.settled (s : State) : State := { s with water := { s.water with settling := none } }.setPath .idle

theorem State.settled_facts (s : State) : s.settled.water.path = .idle ∧ s.settled.water.settling = none ∧
    s.settled.water.queue = s.water.queue ∧ s.settled.water.held = s.water.held ∧ (s.settled.mayFill ↔ s.mayFill) ∧
    s.settled.now = s.now := by
  have touched := State.setPath_touches { s with water := { s.water with settling := none } } .idle
  obtain ⟨queue, -, held, -⟩ := touched.at .fills
  obtain ⟨-, -, -, settling⟩ := touched.at .dispense
  have start := touched.start_state
  have mode := touched.at .mode
  have fault := touched.at .fault
  have now := touched.at .now
  refine ⟨State.setPath_path .., settling, queue, held, ?_, now⟩
  exact ⟨State.mayFill_of_kept start.symm (Eq.symm mode) (congrArg FaultUnit.aFlags (Eq.symm fault)),
    State.mayFill_of_kept start mode (congrArg FaultUnit.aFlags fault)⟩

theorem State.openFill_settling (s : State) (f : Fill) : (s.openFill f).water.settling = s.water.settling :=
  ((s.openFill_starts f).at .dispense).2.2.2

end Sys2Proof.Machine

open Sys2Proof Sys2Proof.Machine

/-- Settles O52: the fill is closed and graded before the start test, and the dispense closed before the path moves on. -/
theorem limitsAndSettlingEndDeliveries : Obligations.LimitsAndSettlingEndDeliveries := by
  intro d f g rest p s
  refine ⟨fun timer current => ?_, fun timer running => ?_, fun timer => ⟨fun may held => ?_, fun may held queue => ?_, fun no => ?_⟩⟩
  · intro target
    let u : State := s.atMoment d
    let v : State := u.graded f
    obtain ⟨path, queue, current', held, limit, draw, job, may⟩ := u.graded_facts f
    obtain ⟨-, mold⟩ := State.takeGrade_facts { u.closeFill f with water := { (u.closeFill f).water with current := none } } f
      (gradeOf target f)
    rw [show State.takeGrade { u.closeFill f with water := { (u.closeFill f).water with current := none } } f (gradeOf target f) = v
      from rfl] at mold
    refine ⟨v.startTest, does_expiry (act := State.endFill) rfl timer (State.endFill_eq current), fun noHeld noQueue => ?_,
      fun mayFill noHeld next => ?_⟩
    · obtain ⟨idle, touched, mixes⟩ := State.startTest_idle (s := v) (.inr ⟨held.trans noHeld, queue.trans noQueue⟩)
      have toT : Touches pathFacets v v.startTest := touched
      obtain ⟨-, current'', -, limit'⟩ := toT.at .fills
      have job' := toT.at (.job f.mold.valve) (by cases f.mold <;> decide)
      have mold' := toT.at (.mold f.mold) (by cases f.mold <;> decide)
      have fault' := toT.at .fault
      have draw' := (mixes.of_no_draw draw).1
      rw [show v.startTest.mold f.mold = v.mold f.mold from mold', show v.startTest.fault = v.fault from fault']
      refine ⟨idle, current''.trans current', limit'.trans limit, draw', job'.trans job, fun full => ?_, fun some quarter => ?_,
        fun some less first => ?_, fun some less second => ?_⟩
      · rw [show gradeOf target f = .full from if_pos full] at mold; exact mold
      · have grade : gradeOf target f = .short := by rw [gradeOf, if_neg (Nat.ne_of_gt some), if_pos quarter]
        rw [grade] at mold; exact mold
      · have grade : gradeOf target f = .retry := by
          rw [gradeOf, if_neg (Nat.ne_of_gt some), if_neg (Nat.not_le.mpr less), if_pos first]
        have now : (u.closeFill f).now = u.now := (u.closeFill_closes f).at .now
        rw [grade] at mold
        dsimp only at mold
        rw [mold]
        exact ⟨rfl, rfl, rfl, congrArg (fun n => Option.some (n + 60000000)) now⟩
      · have grade : gradeOf target f = .noWater := by
          rw [gradeOf, if_neg (Nat.ne_of_gt some), if_neg (Nat.not_le.mpr less), if_neg second]
        rw [grade] at mold; exact mold
    · have run := State.startTest_of_queued (s := v) (may mayFill) (held.trans noHeld) (queue.trans next)
      obtain ⟨path', current', queue', -, -, job', -⟩ :=
        State.openFill_facts { v with water := { v.water with queue := rest } } { g with openMs := 0 }
      rw [run]
      exact ⟨path', current', queue', job'⟩
  · let u : State := s.atMoment d
    obtain ⟨path, settling, dispense, limit, hold, draw, -, own, job⟩ := State.stopDispense_facts (s := u) running
    have fills := u.stopDispense_touches.at .fills
    obtain ⟨queue, -, held, -⟩ := fills
    refine ⟨u.stopDispense, does_expiry (act := State.stopDispense) rfl timer rfl, path, settling, dispense, limit, draw, job, ?_,
      queue, held, fun edge => ?_⟩
    · rw [own]
    · rw [hold]; exact if_neg edge
  · obtain ⟨idle, settling, queue, held', may', now⟩ := State.settled_facts (s.atMoment d)
    have run := State.startTest_of_held (may'.mpr may) (held'.trans held)
    refine ⟨_, does_expiry (act := State.settlingEnds) rfl timer run, ?_⟩
    generalize (s.atMoment d).settled = v at *
    obtain ⟨path, current, queue', held'', limit, job, -⟩ := State.openFill_facts { v with water := { v.water with held := none } } f
    have toT := State.openFill_settling { v with water := { v.water with held := none } } f
    exact ⟨path, toT.trans settling, held'', current, queue'.trans queue, limit.trans (congrArg (fun n => some (n + (15000 - f.openMs) * 1000)) now), job⟩
  · obtain ⟨idle, settling, queue', held', may', now⟩ := State.settled_facts (s.atMoment d)
    have run := State.startTest_of_queued (may'.mpr may) (held'.trans held) (queue'.trans queue)
    refine ⟨_, does_expiry (act := State.settlingEnds) rfl timer run, ?_⟩
    generalize (s.atMoment d).settled = v at *
    obtain ⟨path, current, queue'', -, limit, job, -⟩ :=
      State.openFill_facts { v with water := { v.water with queue := rest } } { g with openMs := 0 }
    exact ⟨path, current, queue'', limit.trans (congrArg (fun n => some (n + (15000 - 0) * 1000)) now), job⟩
  · obtain ⟨idle, settling, queue, held, may', -⟩ := State.settled_facts (s.atMoment d)
    have none : ¬ (s.atMoment d).settled.mayFill ∨ ((s.atMoment d).settled.water.held = none ∧ (s.atMoment d).settled.water.queue = []) := by
      rw [may', held, queue]; exact no
    obtain ⟨path, touched, -⟩ := State.startTest_idle none
    refine ⟨_, does_expiry (act := State.settlingEnds) rfl timer rfl, path, ?_⟩
    obtain ⟨queue', -, held', -⟩ := touched.at .fills
    exact ⟨(touched.at .dispense).2.2.2.trans settling, queue'.trans queue, held'.trans held⟩
end

/-! PROOF. Metering (sections 6.4 to 6.6). -/

section
namespace Sys2Proof.Machine

/-! ### The draw counter (R135) -/

/-- T_res after one mixing of a volume. -/
def State.mix (s : State) (temp : Int) (volume : Nat) : Int := temp + mixChange s.image.tIn temp s.image.vRes volume

theorem State.mixStep_water (s : State) (volume : Nat) : (s.mixStep volume).water = { s.water with tRes := s.mix s.water.tRes volume } := by
  rw [State.mixStep, State.setTRes, State.write_water]
  rfl

theorem State.mixStep_image (s : State) (volume : Nat) : (s.mixStep volume).image = s.image := by
  rw [State.mixStep, State.setTRes, State.write_image]

/-- Full mixing steps take 10 mL each from the counter. -/
theorem State.mixFull_water (n : Nat) : ∀ s : State, (State.mixFull n s).water =
    { s.water with draw := s.water.draw - n * 2560, tRes := (fun temp => s.mix temp 2560)^[n] s.water.tRes } := by
  induction n with
  | zero => intro s; simp [State.mixFull]
  | succ n ih =>
    intro s
    have image := State.mixStep_image { s with water := { s.water with draw := s.water.draw - Config.mixVolume } } Config.mixVolume
    have water := State.mixStep_water { s with water := { s.water with draw := s.water.draw - Config.mixVolume } } Config.mixVolume
    have same (t : State) (h : t.image = s.image) : t.mix = s.mix := by unfold State.mix; rw [h]
    rw [State.mixFull, ih, water, Function.iterate_succ_apply, same _ image]
    have left : s.water.draw - Config.mixVolume - n * 2560 = s.water.draw - (n + 1) * 2560 := by
      rw [Config.mixVolume]; omega
    rw [← left]
    rfl

/-- A metering step's volume in the counter, and what has become whole mixed in. -/
theorem State.addDraw_water (s : State) (v : Nat) : (s.addDraw v).water =
    { s.water with draw := (s.water.draw + v) % 2560
                   tRes := (fun temp => s.mix temp 2560)^[(s.water.draw + v) / 2560] s.water.tRes } := by
  have rest : s.water.draw + v - (s.water.draw + v) / 2560 * 2560 = (s.water.draw + v) % 2560 := by omega
  rw [State.addDraw, State.mixFull_water, ← rest]
  rfl

theorem foldl_range_iterate {α : Type} (f : α → α) (n : Nat) (a : α) : (List.range n).foldl (fun x _ => f x) a = f^[n] a := by
  rw [List.foldl_const, List.length_range]

/-! ### A metering step before its limits (R131) -/

/-- The delivery and the counter have taken the step's volume. -/
def State.metered (s : State) (v : Nat) : State := (s.countStep v).addDraw v

theorem State.meteringStep_eq (s : State) (v : Nat) : s.meteringStep v = (s.metered v).stepLimits := rfl

/-- T_res after the whole parts of the counter have been mixed. -/
def State.mixedWhole (s : State) (v : Nat) : Int := (fun temp => s.mix temp 2560)^[(s.water.draw + v) / 2560] s.water.tRes

/-- What a metering step may touch before its limits. -/
def countFacets : List Facet := .fills :: .dispense :: .reservoir :: writeFacets .dispensedVolume ++ writeFacets .reservoirEst

theorem State.metered_touches (s : State) (v : Nat) : Touches countFacets s (s.metered v) :=
  (s.countStep_touches v).mono.trans (State.addDraw_touches _ v).mono

theorem State.isOn_of_out {s t : State} (h : t.out = s.out) (o : Output) : t.isOn o = s.isOn o := by
  unfold State.isOn State.resolved State.channel; rw [h]

theorem State.metered_of_dispense {s : State} {p : Dispense} {v : Nat} (path : s.water.path = .dispensing)
    (running : s.water.dispense = some p) (opened : s.isOn .dv = true) :
    (s.metered v).water = { s.water with
      dispense := some { p with counted := p.counted + v }, draw := (s.water.draw + v) % 2560, tRes := s.mixedWhole v } ∧
    (s.metered v).own .dispensedVolume = (min 2000 ((p.counted + v) / 256) : Nat) := by
  let u : State := { s with water := { s.water with dispense := some { p with counted := p.counted + v } } }
  have counts : s.countStep v = u.writeDispensed (p.counted + v) := by
    rw [State.countStep, path, running]
    exact if_pos opened
  have water : (u.writeDispensed (p.counted + v)).water = u.water := State.write_water ..
  have image : (u.writeDispensed (p.counted + v)).image = u.image := State.write_image ..
  have own := u.writeDispensed_own (p.counted + v)
  have kept := (State.addDraw_touches (u.writeDispensed (p.counted + v)) v).at (.own .dispensedVolume)
  rw [State.metered, counts, State.addDraw_water, water]
  refine ⟨?_, kept.trans own⟩
  rw [State.mixedWhole, show (u.writeDispensed (p.counted + v)).mix = s.mix by unfold State.mix; rw [image]]

theorem State.metered_of_fill {s : State} {f : Fill} {v : Nat} (path : s.water.path = .filling)
    (current : s.water.current = some f) (opened : s.isOn f.mold.valve = true) :
    (s.metered v).water = { s.water with
      current := some { f with owed := f.owed - v }, draw := (s.water.draw + v) % 2560, tRes := s.mixedWhole v } := by
  have counts : s.countStep v = { s with water := { s.water with current := some { f with owed := f.owed - v } } } := by
    rw [State.countStep, path, current]
    exact if_pos opened
  rw [State.metered, counts, State.addDraw_water]
  rfl

/-! ### The limits after a metering step (R122, R129) -/

theorem State.stepLimits_of_dispense {s : State} {p : Dispense} (path : s.water.path = .dispensing)
    (running : s.water.dispense = some p) (opened : s.isOn .dv = true) :
    s.stepLimits = if p.limit ≤ p.counted then s.stopDispense else s := by
  rw [State.stepLimits, path, running]
  simp only [opened, true_and]

theorem State.stepLimits_of_fill {s : State} {f : Fill} (path : s.water.path = .filling) (current : s.water.current = some f)
    (opened : s.isOn f.mold.valve = true) : s.stepLimits = if f.owed = 0 then s.endFill else s := by
  rw [State.stepLimits, path, current]
  simp only [opened, true_and]

/-! ### The pulse (R131 to R133) -/

/-- A pulse finds the meter counting. -/
def State.counting (s : State) : State :=
  { s with water := { s.water with estimated := false, estimate := if s.water.estimated then none else s.water.estimate } }

theorem State.counting_eq (s : State) : (if s.water.estimated then s.toCounted else s) = s.counting := by
  cases h : s.water.estimated
  · have same : s.counting = s := by
      have kept : (if s.water.estimated then none else s.water.estimate) = s.water.estimate := if_neg (ne_true_of_eq_false h)
      rw [State.counting, kept, ← h]
    rw [same]; rfl
  · rw [State.counting, h]; rfl

theorem State.pulse_eq (s : State) : s.pulse = if s.anyValveOpen then s.counting.ratePulse.meteringStep s.image.meterK
    else if s.water.armed then s.counting.closedPulse.runawayTest else s.counting := by
  unfold State.pulse
  dsimp only
  rw [State.counting_eq]
  rfl

/-- The meter at a pulse of the commanded open valve. -/
theorem State.ratePulse_of_metered {s : State} (h : s.meteredValve ≠ none) : s.ratePulse = { s with water := { s.water with
    pulses := recentPulses s.now s.water.pulses
    rate := if s.water.openedAt + 2000000 ≤ s.now then (recentPulses s.now s.water.pulses).length * s.image.meterK / 20
      else s.water.rate
    silence := some (s.now + 3000000) } } := by
  unfold State.ratePulse
  split
  · rename_i none; exact absurd none h
  · rfl

/-- What a metering step finds: the meter as a pulse or an expiry of the estimate timer has left it. -/
theorem meters_of {c : Instr} {s : State} {d v : Nat}
    (h : (c = .meterPulse ∧ s.running = true ∧ s.anyValveOpen = true ∧ v = s.image.meterK) ∨
      (c = .estimateTimerExpiry ∧ s.water.estimate = some d ∧ v = s.water.rate)) :
    ∃ u, Touches [.now, .meter, .closed] s u ∧ Does c s (u.meteringStep v) ∧ (c = .meterPulse → s.meteredValve ≠ none →
      u.water.pulses = s.now :: s.water.pulses.filter (fun x => decide (s.now < x + 2000000)) ∧
      u.water.rate = (if s.water.openedAt + 2000000 ≤ s.now then u.water.pulses.length * s.image.meterK / 20 else s.water.rate) ∧
      u.water.silence = some (s.now + 3000000) ∧ u.water.estimated = false) := by
  rcases h with ⟨rfl, running, opened, rfl⟩ | ⟨rfl, timer, rfl⟩
  · have counting : Touches [.now, .meter, .closed] s s.counting := by
      intro x hx; have same := x.kept_refl s; cases x
      case meter | closed => exact absurd (by decide) hx
      all_goals exact same
    refine ⟨s.counting.ratePulse, counting.trans (State.ratePulse_touches _).mono, does_of_eq (u := if s.running then s.pulse else s) rfl ?_,
      fun _ valve => ?_⟩
    · rw [if_pos running, State.pulse_eq, if_pos opened]
    · rw [State.ratePulse_of_metered (s := s.counting) valve]
      exact ⟨rfl, rfl, rfl, rfl⟩
  · refine ⟨{ s.atMoment d with water := { s.water with estimate := some (max s.now d + 100000) } }, ?_,
      does_expiry (act := State.estimatedStep) rfl timer rfl, nofun⟩
    intro x hx; have same := x.kept_refl s; cases x
    case now | meter => exact absurd (by decide) hx
    all_goals exact same

/-- A new class A raise locks the path. -/
theorem State.raiseA_path {s : State} {f : FaultId} (isA : f.isA = true) (new : s.fault.isSet f = false) :
    (s.raiseA f).water.path = .locked := by
  have fault : (s.setFlag f).resolve.fault = (s.setFlag f).fault := (s.setFlag f).resolve_touches.at .fault
  have classA : (s.setFlag f).resolve.classA = true :=
    (State.classA_of_fault fault).trans (State.classA_of_isSet isA (s.setFlag_isSet f))
  have locked := (State.endsA_facts classA).2.1
  have path : ((s.setFlag f).resolve.endsA.announce f).water.path = (s.setFlag f).resolve.endsA.water.path :=
    (State.announce_touches _ f).at .path
  rw [State.raiseA_of_new new, path, locked]

end Sys2Proof.Machine

open Sys2Proof Sys2Proof.Machine

/-- Settles O51: the step counts towards the delivery and the draw, and its limits follow. -/
theorem meteringStepsCountTheWater : Obligations.MeteringStepsCountTheWater := by
  intro d s
  refine ⟨fun c v meters => ?_, fun running closed => ?_, fun before => ?_, fun timer => ?_, fun timer => ?_, fun timer => ?_⟩
  · obtain ⟨u, ready, run, facts⟩ := meters_of meters
    intro mix mixed metered
    have path : u.water.path = s.water.path := ready.at .path
    obtain ⟨dispense, -, -, -⟩ : Facet.kept .dispense s u := ready.at .dispense
    obtain ⟨queue, current, held, -⟩ : Facet.kept .fills s u := ready.at .fills
    obtain ⟨draw, res⟩ : Facet.kept .reservoir s u := ready.at .reservoir
    have image : u.image = s.image := ready.at .image
    have out : u.out = s.out := ready.at .outputs
    have on (o : Output) : u.isOn o = s.isOn o := State.isOn_of_out out o
    have counted := u.metered_touches v
    have imageV : (u.metered v).image = s.image := (show _ = u.image from counted.at .image).trans image
    have outV : (u.metered v).out = s.out := (show _ = u.out from counted.at .outputs).trans out
    have iceV : (u.metered v).ice = s.ice := (show _ = u.ice from counted.ice_eq).trans ready.ice_eq
    have onV (o : Output) : (u.metered v).isOn o = s.isOn o := State.isOn_of_out outV o
    have mixedEq : u.mixedWhole v = mixed := by
      rw [State.mixedWhole, draw, res, show u.mix = s.mix by unfold State.mix; rw [image]]
      exact (foldl_range_iterate _ _ _).symm
    rw [State.meteringStep_eq] at run
    refine ⟨fun p dispensing running opened => ?_, fun f filling running opened => ?_⟩
    · obtain ⟨water, own⟩ := State.metered_of_dispense (v := v) (path.trans dispensing) (dispense.trans running) ((on .dv).trans opened)
      have limits := State.stepLimits_of_dispense (s := u.metered v) (p := { p with counted := p.counted + v })
        (by rw [water]; exact path.trans dispensing) (by rw [water]) ((onV .dv).trans opened)
      refine ⟨fun below => ⟨u.metered v, ?_, ?_⟩, fun reached => ⟨(u.metered v).stopDispense, ?_, ?_⟩⟩
      · rw [limits, if_neg (Nat.not_le.mpr below)] at run; exact run
      · rw [water, mixedEq, draw]
        refine ⟨path.trans dispensing, rfl, own, rfl, rfl, fun pulse valve => ?_, outV, iceV⟩
        rw [water]
        exact facts pulse valve
      · rw [limits, if_pos reached] at run; exact run
      · obtain ⟨path', -, dispense', limit', -, draw', res', own', job'⟩ :=
          State.stopDispense_facts (s := u.metered v) (d := { p with counted := p.counted + v }) (by rw [water])
        refine ⟨path', dispense', own', draw', ?_, job', limit'⟩
        rw [res', State.mixed, imageV, water, mixedEq, draw]
        rfl
    · have water := State.metered_of_fill (v := v) (path.trans filling) (current.trans running) ((on f.mold.valve).trans opened)
      have limits := State.stepLimits_of_fill (s := u.metered v) (f := { f with owed := f.owed - v })
        (by rw [water]; exact path.trans filling) (by rw [water]) ((onV f.mold.valve).trans opened)
      refine ⟨fun below => ⟨u.metered v, ?_, ?_⟩, fun reached noHeld noQueue => ?_⟩
      · rw [limits, if_neg (show ¬ f.owed - v = 0 by omega)] at run; exact run
      · rw [water, mixedEq, draw]
        refine ⟨path.trans filling, rfl, rfl, rfl, fun pulse valve => ?_, outV, iceV⟩
        rw [water]
        exact facts pulse valve
      · have spent : f.owed - v = 0 := by omega
        rw [limits, if_pos spent, State.endFill_eq (by rw [water])] at run
        refine ⟨_, run, ?_⟩
        obtain ⟨-, queue', current', held', -, draw', job', -⟩ := (u.metered v).graded_facts { f with owed := f.owed - v }
        have full : gradeOf ((u.metered v).image.fillTargetMl * 256) { f with owed := f.owed - v } = .full := if_pos spent
        obtain ⟨-, mold⟩ := State.takeGrade_facts { (u.metered v).closeFill { f with owed := f.owed - v } with
          water := { ((u.metered v).closeFill { f with owed := f.owed - v }).water with current := none } }
          { f with owed := f.owed - v } .full
        have graded : (u.metered v).graded { f with owed := f.owed - v } = State.takeGrade
          { (u.metered v).closeFill { f with owed := f.owed - v } with
            water := { ((u.metered v).closeFill { f with owed := f.owed - v }).water with current := none } }
          { f with owed := f.owed - v } .full := by rw [State.graded, full]
        rw [← graded] at mold
        rw [water] at queue' held'
        generalize (u.metered v).graded { f with owed := f.owed - v } = w at *
        obtain ⟨idle, touched, mixes⟩ := State.startTest_idle (s := w)
          (.inr ⟨held'.trans (held.trans noHeld), queue'.trans (queue.trans noQueue)⟩)
        obtain ⟨-, current'', -, -⟩ := touched.at .fills
        have job'' := touched.at (.job f.mold.valve) (by cases f.mold <;> decide)
        have mold'' := touched.at (.mold f.mold) (by cases f.mold <;> decide)
        rw [show w.startTest.mold f.mold = w.mold f.mold from mold'']
        exact ⟨idle, current''.trans current', (mixes.of_no_draw draw').1, job''.trans job', mold.2, mold.1⟩
  · intro u held
    have run : (if s.running then s.pulse else s) = if s.water.armed then s.counting.closedPulse.runawayTest else s.counting := by
      rw [if_pos running, State.pulse_eq, if_neg (ne_true_of_eq_false closed)]
    refine ⟨fun idle => does_of_eq rfl (run.trans (if_neg (ne_true_of_eq_false idle))), fun armed below => ?_, fun armed reached new => ?_⟩
    · refine does_of_eq rfl (run.trans ((if_pos armed).trans ?_))
      exact if_neg (show ¬ 5120 ≤ s.water.closedVolume + s.image.meterK by omega)
    · let w : State := { held with water := { held.water with closedVolume := 0 } }
      have raised : s.counting.closedPulse.runawayTest = w.raiseA .runaway :=
        if_pos (show 5120 ≤ s.water.closedVolume + s.image.meterK from reached)
      obtain ⟨-, volume, hold⟩ : Facet.kept .closed w (w.raiseA .runaway) := (w.raiseA_touches_ends .runaway).at .closed
      exact ⟨w.raiseA .runaway, does_of_eq rfl (run.trans ((if_pos armed).trans raised)), w.raiseA_isSet _, volume, hold,
        State.raiseA_path (s := w) rfl new⟩
  · exact does_of_eq (u := if s.running then s.pulse else s) rfl (if_neg (ne_true_of_eq_false before))
  · let u : State := { s.atMoment d with water := { s.water with silence := none } }
    have raised := u.raiseB_touches (f := .flowSilent) rfl
    have water : (u.raiseB .flowSilent).water = u.water := raised.water_eq
    have out : (u.raiseB .flowSilent).out = u.out := raised.at .outputs
    have now : (u.raiseB .flowSilent).now = u.now := raised.at .now
    have valve : (u.raiseB .flowSilent).meteredValve = s.meteredValve := by
      unfold State.meteredValve State.isOn State.resolved State.channel; rw [out]; rfl
    have run : (s.atMoment d).meterSilent = { u.raiseB .flowSilent with water := { (u.raiseB .flowSilent).water with
        estimated := true
        estimate := if (u.raiseB .flowSilent).meteredValve.isSome then (u.raiseB .flowSilent).timer Config.estimateTime else none } } := rfl
    refine ⟨_, does_expiry (act := State.meterSilent) rfl timer run, ?_⟩
    have set := u.raiseB_isSet .flowSilent
    generalize u.raiseB .flowSilent = w at *
    rw [valve, water, State.timer, now]
    exact ⟨set, rfl, rfl, rfl, rfl, rfl, out⟩
  · exact does_expiry (act := fun t => { t with water := { t.water with allClosed := none, closedVolume := 0, armed := true } }) rfl
      timer rfl
  · exact does_expiry (act := fun t => { t with water := { t.water with runawayHold := none } }) rfl timer rfl
end

/-! PROOF. The switch timers (R12): after the bin's change the reports of one point may make another active before the hold tests. -/

section
namespace Sys2Proof.Machine

/-! ### What follows inside an event leaves a waiting mold alone -/

/-- Mold A waits for its harvest with a freeze timer still set, and OVERTEMP is clear. -/
def State.waits (s : State) : Prop :=
  ((s.mold .a).state = .harvestPending ∧ (s.mold .a).timedFreeze ≠ none) ∧ s.fault.isSet .overtemp = false

/-- Where mold A waits afterwards, it waited before. -/
def WaitsBack (s t : State) : Prop := t.waits → s.waits

theorem WaitsBack.trans {s t u : State} (h : WaitsBack s t) (k : WaitsBack t u) : WaitsBack s u := h ∘ k

theorem WaitsBack.refl (s : State) : WaitsBack s s := id

/-- Flags are not lost, so a flag that is clear afterwards was clear before. -/
theorem WaitsBack.of_mold {s t : State} (mold : t.mold .a = s.mold .a) (flag : s.fault.isSet .overtemp = true → t.fault.isSet .overtemp = true) :
    WaitsBack s t := fun ⟨waits, clear⟩ => by
  refine ⟨by rw [← mold]; exact waits, ?_⟩
  by_contra set
  rw [flag (by simpa using set)] at clear
  exact absurd clear (by decide)

/-- Afterwards mold A does not wait. -/
theorem WaitsBack.of_other {s t : State} (h : (t.mold .a).state ≠ .harvestPending ∨ (t.mold .a).timedFreeze = none) : WaitsBack s t :=
  fun ⟨⟨state, timer⟩, _⟩ => by
    rcases h with no | no
    · exact absurd state no
    · exact absurd no timer

theorem Touches.waitsBack {P : List Facet} {s t : State} (h : Touches P s t)
    (apart : autoParam (Facet.mold .a ∉ P ∧ Facet.flag .overtemp ∉ P) Rat.normalize._auto_1) : WaitsBack s t :=
  .of_mold (h (.mold .a) apart.1) (h (.flag .overtemp) apart.2)

theorem State.freezeTest_waitsBack (s : State) (m : Mold) : WaitsBack s (s.freezeTest m) := by
  cases m with
  | a =>
    by_cases meets : s.freezes .a
    · exact .of_other (.inr (State.freezeTest_facts meets).2.2.1)
    · rw [State.freezeTest_of_not meets]; exact .refl s
  | b => exact (s.freezeTest_touches .b).waitsBack

theorem State.heatEndTest_waitsBack (s : State) (m : Mold) (atSecond : Bool) : WaitsBack s (s.heatEndTest m atSecond) := by
  cases m with
  | a =>
    unfold State.heatEndTest
    split
    · exact .of_other (.inl (by rw [(s.enterEject_facts .a).1]; nofun))
    · exact .refl s
  | b => exact (s.heatEndTest_touches .b atSecond).waitsBack

theorem State.holdTestMold_waitsBack (s : State) (m : Mold) : WaitsBack s (s.holdTestMold m) := by
  cases m with
  | a =>
    by_cases free : (s.mold .a).state = .harvestPending ∧ s.harvestHeld = false
    · refine .of_other (.inl fun pending => ?_)
      have harvest := (State.holdTestMold_of_free free.1 free.2).1
      rw [pending] at harvest
      exact absurd harvest (by decide)
    · rw [State.holdTestMold, if_neg free]; exact .refl s
  | b => exact (s.holdTestMold_touches .b).waitsBack

theorem State.entryAction_waitsBack (s : State) (i : Fin 16) : WaitsBack s (s.entryAction i) := by
  unfold State.entryAction; split
  · exact .refl s
  · exact (s.writeFrostIndex_touches _).waitsBack
  · exact s.demand_touches.waitsBack
  · exact (s.offerNotice_touches _ _ _).waitsBack

theorem State.roleActive_waitsBack (s : State) (i : Fin 16) : WaitsBack s (s.roleActive i) := by
  unfold State.roleActive; split
  · exact s.terminate_touches.waitsBack
  · exact s.freezeTest_waitsBack .a
  · exact s.freezeTest_waitsBack .b
  · exact s.heatEndTest_waitsBack .a false
  · exact s.heatEndTest_waitsBack .b false
  · split
    · exact s.endRecovery_touches.waitsBack
    · exact .refl s
  · exact .refl s

theorem State.whileChanged_waitsBack (s : State) (i : Fin 16) : WaitsBack s (s.whileChanged i) := by
  unfold State.whileChanged; split
  · exact (s.holdTestMold_waitsBack .a).trans (State.holdTestMold_waitsBack _ .b)
  · exact .refl s

theorem State.handle_waitsBack (s : State) (g : Signal) : WaitsBack s (s.handle g) := by
  unfold State.handle; split
  · exact (((s.writeEvent_touches _).waitsBack.trans (State.entryAction_waitsBack _ _)).trans (State.roleActive_waitsBack _ _)).trans
      (State.whileChanged_waitsBack _ _)
  · exact s.whileChanged_waitsBack _
  · exact fun ⟨_, clear⟩ => absurd ((s.raiseA_isSet .overtemp).symm.trans clear) (by decide)

/-- Each consequence leaves a mold waiting only where it waited. -/
theorem State.settleStep_waitsBack {s t : State} (h : s.settleStep = some t) : WaitsBack s t := by
  unfold State.settleStep at h
  repeat' split at h
  all_goals cases h
  · exact (s.reportOwed_touches ‹_›).waitsBack
  · exact (Touches.agenda s _ (R := [.agenda])).waitsBack.trans (State.handle_waitsBack _ _)
  · exact (Touches.offers s _ _ _ _ (R := [.offers])).waitsBack.trans (State.offerStatus_touches _).waitsBack
  · exact s.offerNextClaim_touches.waitsBack

theorem State.settle_waitsBack (n : Nat) : ∀ s : State, WaitsBack s (State.settle n s) := by
  induction n with
  | zero => exact .refl
  | succ n ih =>
    intro s
    unfold State.settle
    split
    · rename_i step
      exact (State.settleStep_waitsBack step).trans (ih _)
    · exact .refl s

/-! ### The counterexample -/

/-- Point 8 is active while CONDITION_FLAGS lies below 68, and point 9, which holds the harvests, while WATCH_STATES is not 0. -/
def chainImage : Image := { builtinV0 with
  watch := (builtinV0.watch.set 8 (builtinWatchRecord .conditionFlags .below 68 0 0 .none)).set 9
    (builtinWatchRecord .watchStates .above 0 0 0 .suspendHarvest) }

/-- In RUN, with a full bin about to be found not full and mold A waiting for its harvest; CONDITION_FLAGS is up to date. -/
def chainState : State := { State.reset with
  start := { StartUp.blank with state := .run }
  image := chainImage
  switches := { State.reset.switches with bin := { level := true, timer := some 5 } }
  ice := { State.reset.ice with molds := { State.reset.ice.molds with
    a := { State.reset.ice.molds.a with state := .harvestPending, timedFreeze := some 1 } } }
  store := { State.reset.store with values := State.reset.store.values.set OwnTag.conditionFlags.idx 68 } }

/-- The state after the bin timer's expiry and all that follows from it. -/
def chainAfter : State := State.settle Config.settleBound (onExpiry chainState.switches.bin.timer State.binQualified chainState)

/-- Point 9 has become active in the reports, and mold A waits still. -/
theorem chainAfter_waits : chainAfter.waits := by
  refine ⟨⟨?_, ?_⟩, ?_⟩ <;> decide +kernel

/-- One report alone leaves the harvests free. -/
theorem chainState_reported_free : (State.resolve (State.reportConditions { chainState.atMoment 5 with
    switches := { chainState.switches with bin := { level := chainState.pins.bin, timer := none } } })).harvestHeld = false := by
  decide +kernel

end Sys2Proof.Machine

open Sys2Proof Sys2Proof.Machine

/-- Refutes O49: the statement tests the harvest holds after the report of CONDITION_FLAGS alone, but the bin's change makes every report that is owed. In `chainState` the report of CONDITION_FLAGS makes point 8 active and that of WATCH_STATES then point 9, whose action holds the harvests; so mold A stays in HARVEST_PENDING, and no other own effect of the command settles into that state. -/
theorem not_switchTimersSetTheQualifiedLevel : ¬ Obligations.SwitchTimersSetTheQualifiedLevel := by
  intro h
  obtain ⟨t, does, -, -, leaves⟩ := (h 5 .a chainState).1 rfl
  have after : exec .binTimerExpiry chainState = .next chainAfter := rfl
  have settled : State.settle Config.settleBound t = chainAfter := Host.Outcome.next.inj (does.symm.trans after)
  have waits : t.waits := State.settle_waitsBack _ t (by rw [settled]; exact chainAfter_waits)
  exact leaves rfl chainState_reported_free nofun waits.1.1
end

/-! PROOF. Sheds, island operation, re-claims and grants (chapter 3). -/

section
namespace Sys2Proof.Machine

/-! ### The worst-first order of the own grants (R72, R75) -/

theorem insertWorst_pairwise (g : Grant) : ∀ l : List Grant, l.Pairwise (fun a b => b.cls ≤ a.cls) →
    (insertWorst g l).Pairwise (fun a b => b.cls ≤ a.cls) ∧ ∀ x ∈ insertWorst g l, x = g ∨ x ∈ l := by
  intro l
  induction l with
  | nil => exact fun _ => ⟨by simp [insertWorst], by simp [insertWorst]⟩
  | cons x rest ih =>
    intro sorted
    obtain ⟨head, tail⟩ := List.pairwise_cons.mp sorted
    obtain ⟨sortedRest, members⟩ := ih tail
    unfold insertWorst
    split
    · rename_i below
      refine ⟨List.pairwise_cons.mpr ⟨fun y hy => ?_, sorted⟩, fun y hy => by simpa using hy⟩
      rcases List.mem_cons.mp hy with rfl | hy
      · exact below
      · exact (head y hy).trans below
    · rename_i above
      refine ⟨List.pairwise_cons.mpr ⟨fun y hy => ?_, sortedRest⟩, fun y hy => ?_⟩
      · rcases members y hy with rfl | hy
        · omega
        · exact head y hy
      · rcases List.mem_cons.mp hy with rfl | hy
        · exact .inr (.head _)
        · exact (members y hy).imp_right (.tail _)

theorem worstGrants_pairwise (l : List Grant) : (worstGrants l).Pairwise fun a b => b.cls ≤ a.cls := by
  unfold worstGrants
  induction l.reverse with
  | nil => exact .nil
  | cons g rest ih => exact (insertWorst_pairwise g _ ih).1

/-- Within its class a grant comes before those already placed. -/
theorem insertWorst_filter (g : Grant) (cls : Nat) (l : List Grant) :
    (insertWorst g l).filter (fun x => x.cls == cls) = (g :: l).filter fun x => x.cls == cls := by
  induction l with
  | nil => rfl
  | cons x rest ih =>
    unfold insertWorst
    split
    · rfl
    · rename_i above
      rw [List.filter_cons, ih, List.filter_cons, List.filter_cons, List.filter_cons]
      by_cases same : g.cls = cls
      · have other : ¬ x.cls = cls := by omega
        simp [same, other]
      · simp [same]

theorem worstGrants_filter (l : List Grant) (cls : Nat) :
    (worstGrants l).filter (fun g => g.cls == cls) = (l.filter fun g => g.cls == cls).reverse := by
  unfold worstGrants
  rw [← List.filter_reverse]
  induction l.reverse with
  | nil => rfl
  | cons g rest ih => rw [List.foldr_cons, insertWorst_filter, List.filter_cons, List.filter_cons, ih]

theorem mem_worstGrants {l : List Grant} {g : Grant} (h : g ∈ l) : g ∈ worstGrants l := by
  have there : g ∈ (worstGrants l).filter fun x => x.cls == g.cls := by
    rw [worstGrants_filter]
    simp [h]
  exact (List.mem_filter.mp there).1

/-! ### One shed and several (R73, R74) -/

/-- The grants that are left when operations are shed. -/
def without (ops : List LoadOp) (l : List Grant) : List Grant := l.filter fun g => !(g.op.any fun op => ops.contains op)

theorem without_nil (l : List Grant) : without [] l = l := by
  refine List.filter_eq_self.mpr fun g _ => ?_
  cases g.op <;> rfl

theorem without_cons (op : LoadOp) (ops : List LoadOp) (l : List Grant) :
    without (op :: ops) l = without ops (l.filter fun x => x.op != some op) := by
  rw [without, without, List.filter_filter]
  refine List.filter_congr fun g _ => ?_
  cases h : g.op with
  | none => rfl
  | some o => by_cases same : o = op <;> simp [same]

theorem State.shedOp_of_none {s : State} {op : LoadOp} (h : s.grantOf op = none) : s.shedOp op = s := by
  unfold State.shedOp; rw [h]

/-- The state in which a shed is reported to its job. -/
def State.unloaded (s : State) (op : LoadOp) (g : Grant) : State :=
  State.offerRelease { s with share := { s.share with grants := s.share.grants.filter fun x => x.op != some op } } g.tag g.cls

theorem State.shedOp_of_grant {s : State} {op : LoadOp} {g : Grant} (h : s.grantOf op = some g) :
    s.shedOp op = match s.shedContext op with
      | some context => ((s.unloaded op g).reportShed op).suspend (((s.unloaded op g).reportShed op).suspensionRecord op g context)
      | none => (s.unloaded op g).reportShed op := by
  unfold State.shedOp; rw [h]; rfl

theorem State.shedOp_grants (s : State) (op : LoadOp) :
    (s.shedOp op).share.grants = s.share.grants.filter fun x => x.op != some op := by
  cases h : s.grantOf op with
  | none =>
    rw [State.shedOp_of_none h]
    refine (List.filter_eq_self.mpr fun g hg => ?_).symm
    have none : ¬ (g.op == some op) = true := by
      rw [State.grantOf, List.find?_eq_none] at h; exact h g hg
    simpa using none
  | some g =>
    have offered : (s.unloaded op g).share.grants = s.share.grants.filter fun x => x.op != some op :=
      (State.offerRelease_touches _ _ _).at .grants
    have reported : ((s.unloaded op g).reportShed op).share.grants = (s.unloaded op g).share.grants :=
      (State.reportShed_touches _ op).at .grants
    rw [State.shedOp_of_grant h]
    split
    · exact reported.trans offered
    · exact reported.trans offered

theorem State.shedOps_grants (ops : List LoadOp) : ∀ s : State, (ops.foldl State.shedOp s).share.grants = without ops s.share.grants := by
  induction ops with
  | nil => exact fun s => (without_nil _).symm
  | cons op ops ih => exact fun s => by rw [List.foldl_cons, ih, State.shedOp_grants, without_cons]

/-- One step of the island entry shed. -/
def State.islandStep (s : State) (op : LoadOp) : State := if s.image.islandAllowance < s.ownClaimable then s.shedOp op else s

theorem State.islandSheds_eq (s : State) : s.islandSheds = s.ownWorstFirst.foldl State.islandStep s := rfl

/-- The own claimable total of a list of grants. -/
def claimable (l : List Grant) : Nat := sumAmps ((l.filter fun g => g.op.isSome).map Grant.amps)

theorem State.islandSteps_within (ops : List LoadOp) {s : State} (h : s.ownClaimable ≤ s.image.islandAllowance) :
    ops.foldl State.islandStep s = s := by
  induction ops with
  | nil => rfl
  | cons op ops ih => rw [List.foldl_cons, State.islandStep, if_neg (Nat.not_lt.mpr h), ih]

/-- The island entry shed takes operations from the head of the order for as long as the total is above the allowance. -/
theorem State.islandSteps_facts (ops : List LoadOp) : ∀ s : State, ∃ n,
    (ops.foldl State.islandStep s).share.grants = without (ops.take n) s.share.grants ∧
    ((ops.foldl State.islandStep s).ownClaimable ≤ s.image.islandAllowance ∨ ops.take n = ops) ∧
    ∀ k < n, s.image.islandAllowance < claimable (without (ops.take k) s.share.grants) := by
  induction ops with
  | nil => exact fun s => ⟨0, (without_nil _).symm, .inr rfl, nofun⟩
  | cons op ops ih =>
    intro s
    by_cases excess : s.image.islandAllowance < s.ownClaimable
    · have image : (s.shedOp op).image = s.image := (s.shedOp_touches op).at .image
      obtain ⟨n, grants, ends, before⟩ := ih (s.shedOp op)
      rw [image, State.shedOp_grants] at before
      rw [State.shedOp_grants] at grants
      rw [image] at ends
      refine ⟨n + 1, ?_, ?_, fun k less => ?_⟩
      · rw [List.foldl_cons, State.islandStep, if_pos excess, grants, List.take_succ_cons, without_cons]
      · rw [List.foldl_cons, State.islandStep, if_pos excess, List.take_succ_cons]
        exact ends.imp_right fun all => by rw [all]
      · cases k with
        | zero => rw [List.take_zero, without_nil]; exact excess
        | succ k => rw [List.take_succ_cons, without_cons]; exact before k (by omega)
    · rw [List.foldl_cons, State.islandStep, if_neg excess, State.islandSteps_within ops (Nat.not_lt.mp excess)]
      exact ⟨0, (without_nil _).symm, .inl (Nat.not_lt.mp excess), nofun⟩

/-- With every operation shed nothing claimable is left. -/
theorem claimable_without_all (l : List Grant) : claimable (without ((worstGrants l).filterMap Grant.op) l) = 0 := by
  have none : (without ((worstGrants l).filterMap Grant.op) l).filter (fun g => g.op.isSome) = [] := by
    refine List.filter_eq_nil_iff.mpr fun g hg => ?_
    obtain ⟨mem, kept⟩ := List.mem_filter.mp hg
    cases h : g.op with
    | none => exact Bool.false_ne_true
    | some op =>
      rw [h] at kept
      simp only [Option.any_some, List.contains_eq_mem, List.mem_filterMap, Bool.not_eq_eq_eq_not, Bool.not_true,
        decide_eq_false_iff_not] at kept
      exact absurd ⟨g, mem_worstGrants mem, h⟩ kept
  rw [claimable, none]
  rfl

/-! ### The entry to island operation (R54, R75) -/

/-- The state in which the island entry shed is made. -/
def State.isolated (s : State) : State := (State.reportWords { s with line := { s.line with
  island := true, lineGood := false, returnListen := none
  goodTimer := if s.pins.line then none else s.timer Config.lineGoodTime } }).publishRequest

theorem State.enterIsland_eq {s : State} (h : s.line.island = false) : s.enterIsland = s.isolated.islandShed.holdCheck := by
  unfold State.enterIsland
  rw [if_neg (ne_true_of_eq_false h)]
  rfl

/-- The island entry shed: own operations worst first, as many as the allowance needs. -/
theorem State.islandShed_facts (s : State) : ∃ n,
    s.islandShed.share.grants = without (s.ownWorstFirst.take n) s.share.grants ∧
    claimable s.islandShed.share.grants ≤ s.image.islandAllowance ∧
    ∀ k < n, s.image.islandAllowance < claimable (without (s.ownWorstFirst.take k) s.share.grants) := by
  by_cases excess : s.image.islandAllowance < s.ownClaimable
  · obtain ⟨n, grants, ends, before⟩ := State.islandSteps_facts s.ownWorstFirst s
    have kept : (s.islandSheds.publishRequest.recomputeExcess).share.grants = s.islandSheds.share.grants :=
      ((State.recomputeExcess_touches _).at .grants).trans ((State.publishRequest_touches _).at .grants)
    rw [State.islandShed, if_pos excess, kept, State.islandSheds_eq]
    refine ⟨n, grants, ?_, before⟩
    rcases ends with within | all
    · exact within
    · rw [grants, all, State.ownWorstFirst, claimable_without_all]
      exact Nat.zero_le _
  · rw [State.islandShed, if_neg excess]
    exact ⟨0, by rw [List.take_zero, without_nil], Nat.not_lt.mp excess, nofun⟩

end Sys2Proof.Machine

open Sys2Proof Sys2Proof.Machine

/-- Settles O28: the sheds are a fold along the worst-first order that stops where the allowance holds. -/
theorem islandOperationBeginsAndTheLineRecovers : Obligations.IslandOperationBeginsAndTheLineRecovers := by
  intro d s order kept
  refine ⟨worstGrants_pairwise _, worstGrants_filter _, fun timer outside => ?_, fun timer inside => ?_, fun timer => ?_, fun timer => ?_⟩
  · let u : State := { s.atMoment d with line := { s.line with alone := none } }
    have island : u.line.island = false := outside
    let v : State := u.isolated
    obtain ⟨n, grants, within, before⟩ := v.islandShed_facts
    have toV : Touches (wordFacets ++ offerFacets) { u with line := { u.line with
      island := true, lineGood := false, returnListen := none
      goodTimer := if u.pins.line then none else u.timer Config.lineGoodTime } } v :=
      (State.reportWords_touches _).mono.trans (State.publishRequest_touches _).mono
    have toT : Touches (defrostEntryFacets ++ shedOpFacets) v v.islandShed.holdCheck :=
      v.islandShed_touches.mono.trans (State.holdCheck_touches _).mono
    have held : v.islandShed.holdCheck.share.grants = v.islandShed.share.grants := (State.holdCheck_touches _).at .grants
    have grantsV : v.share.grants = s.share.grants := toV.at .grants
    have image : v.image = s.image := toV.at .image
    obtain ⟨alone, -, isolated, good, -, return'⟩ := WireKept.fields (toV.at .wire)
    obtain ⟨aloneT, -, isolatedT, goodT, -, returnT⟩ := WireKept.fields (toT.at .wire)
    have view : v.view = s.view := toV.at .view
    have fault : v.fault = s.fault := toV.at .fault
    rw [State.ownWorstFirst, grantsV] at grants before
    rw [image] at within before
    refine ⟨v.islandShed.holdCheck, n, does_expiry (act := fun t => State.enterIsland { t with line := { t.line with alone := none } }) rfl
      timer (State.enterIsland_eq island), isolatedT.trans isolated, goodT.trans good, returnT.trans return', aloneT.trans alone,
      (toT.at .view).trans view, (toT.at .fault).trans fault, held.trans grants, ?_, before⟩
    rw [← held] at within
    exact within
  · refine does_expiry (act := fun t => State.enterIsland { t with line := { t.line with alone := none } }) rfl timer ?_
    exact if_pos inside
  · exact does_expiry (act := fun t => { t with line := { t.line with goodTimer := none, lineGood := true } }) rfl timer rfl
  · exact does_expiry (act := fun t => { t with line := { t.line with returnListen := none } }) rfl timer rfl
end

/-! PROOF. The shed delay, the re-claim timer and abandonment (sections 3.5 and 3.6). -/

section
namespace Sys2Proof.Machine

/-! ### What a shed forms (R74, R76) -/

theorem mem_insertSuspension {r x : Suspension} {l : List Suspension} : x ∈ insertSuspension r l ↔ x = r ∨ x ∈ l := by
  induction l with
  | nil => simp [insertSuspension]
  | cons y rest ih =>
    unfold insertSuspension
    split
    · simp
    · rw [List.mem_cons, ih, List.mem_cons]; tauto

theorem shedContext_isSome {op : LoadOp} (h : op ≠ .aug) (s : State) : ∃ context, s.shedContext op = some context := by
  cases op with
  | aug => exact absurd rfl h
  | dh | mha | mhb => exact ⟨_, rfl⟩

/-- The suspension of an operation stands, its abandon time and the re-claim time counted from `now`. -/
def State.suspendedAt (s : State) (now : Nat) (op : LoadOp) : Prop :=
  (∃ r ∈ s.share.suspended, r.op = op ∧ r.abandon = now + (if op = .dh then 1800000000 else 1200000000)) ∧
  s.share.reclaim = some (now + 5000000)

theorem abandonTime_eq (op : LoadOp) : op.abandonTime = if op = .dh then 1800000000 else 1200000000 := by cases op <;> rfl

/-- A shed with a grant forms the record. -/
theorem State.shedOp_suspends {s : State} {op : LoadOp} {g : Grant} (h : s.grantOf op = some g) (notAuger : op ≠ .aug) :
    (s.shedOp op).suspendedAt s.now op := by
  obtain ⟨context, saved⟩ := shedContext_isSome notAuger s
  have offered : (s.unloaded op g).now = s.now := (State.offerRelease_touches _ _ _).at .now
  have reported : ((s.unloaded op g).reportShed op).now = (s.unloaded op g).now := (State.reportShed_touches _ op).at .now
  rw [State.shedOp_of_grant h, saved]
  generalize (s.unloaded op g).reportShed op = w at *
  refine ⟨⟨w.suspensionRecord op g context, mem_insertSuspension.mpr (.inl rfl), rfl, ?_⟩, ?_⟩
  · rw [← abandonTime_eq, ← offered, ← reported]; rfl
  · rw [← offered, ← reported]; rfl

/-- A further shed keeps the records, and starts the re-claim timer anew at most. -/
theorem State.shedOp_keeps_suspended {s : State} {now : Nat} {op : LoadOp} (h : s.suspendedAt now op) (same : s.now = now)
    (other : LoadOp) : (s.shedOp other).suspendedAt now op := by
  cases k : s.grantOf other with
  | none => rw [State.shedOp_of_none k]; exact h
  | some g =>
    have offered := State.offerRelease_touches
      { s with share := { s.share with grants := s.share.grants.filter fun x => x.op != some other } } g.tag g.cls
    have suspended : (s.unloaded other g).share.suspended = s.share.suspended := offered.at .suspended
    have reclaim : (s.unloaded other g).share.reclaim = s.share.reclaim := offered.at .reclaim
    have now' : (s.unloaded other g).now = s.now := offered.at .now
    have reported := State.reportShed_touches (s.unloaded other g) other
    have suspended' : _ = (s.unloaded other g).share.suspended := reported.at .suspended
    have reclaim' : _ = (s.unloaded other g).share.reclaim := reported.at .reclaim
    have now'' : _ = (s.unloaded other g).now := reported.at .now
    obtain ⟨⟨r, mem, op', abandon⟩, due⟩ := h
    rw [State.shedOp_of_grant k]
    generalize (s.unloaded other g).reportShed other = w at *
    have there : r ∈ w.share.suspended := by rw [suspended', suspended]; exact mem
    split
    · exact ⟨⟨r, mem_insertSuspension.mpr (.inr there), op', abandon⟩, by rw [← same, ← now', ← now'']; rfl⟩
    · exact ⟨⟨r, there, op', abandon⟩, reclaim'.trans (reclaim.trans due)⟩

theorem State.shedOp_now (s : State) (op : LoadOp) : (s.shedOp op).now = s.now := (s.shedOp_touches op).at .now

/-- The own operation of a grant in the list. -/
def State.hasGrant (s : State) (op : LoadOp) : Prop := ∃ g ∈ s.share.grants, g.op = some op

theorem State.grantOf_of_has {s : State} {op : LoadOp} (h : s.hasGrant op) : ∃ g, s.grantOf op = some g := by
  obtain ⟨g, mem, own⟩ := h
  exact Option.isSome_iff_exists.mp (List.find?_isSome.mpr ⟨g, mem, beq_iff_eq.mpr own⟩)

/-- The shed of another operation leaves a grant in the list. -/
theorem State.shedOp_hasGrant {s : State} {op other : LoadOp} (h : s.hasGrant op) (apart : op ≠ other) : (s.shedOp other).hasGrant op := by
  obtain ⟨g, mem, own⟩ := h
  refine ⟨g, ?_, own⟩
  rw [State.shedOp_grants]
  exact List.mem_filter.mpr ⟨mem, by rw [own]; simpa using apart⟩

/-- Every operation with a grant that is shed has its record at the end. -/
theorem State.shedOps_suspend (ops : List LoadOp) : ∀ (s : State) (op : LoadOp), op ∈ ops → op ≠ .aug → s.hasGrant op →
    (ops.foldl State.shedOp s).suspendedAt s.now op := by
  have keep (ops : List LoadOp) : ∀ {s : State} {now : Nat} {op : LoadOp}, s.suspendedAt now op → s.now = now →
      (ops.foldl State.shedOp s).suspendedAt now op := by
    induction ops with
    | nil => exact fun h _ => h
    | cons o ops ih => exact fun h same => ih (State.shedOp_keeps_suspended h same o) ((State.shedOp_now _ o).trans same)
  induction ops with
  | nil => exact fun _ _ mem => absurd mem (by simp)
  | cons o ops ih =>
    intro s op mem notAuger has
    rw [List.foldl_cons]
    by_cases same : op = o
    · subst same
      obtain ⟨g, grant⟩ := State.grantOf_of_has has
      exact keep ops (State.shedOp_suspends grant notAuger) (State.shedOp_now s op)
    · have later := ih (s.shedOp o) op ((List.mem_cons.mp mem).resolve_left same) notAuger (State.shedOp_hasGrant has same)
      rw [State.shedOp_now] at later
      exact later

/-! ### The auger shed (R74, R158) -/

/-- The auger rests. -/
def State.augerRests (s : State) : Prop := s.ice.auger = .idle ∧ (s.channel .aug).job = .off

theorem State.reportShed_auger_ne {s : State} {op : LoadOp} (h : op ≠ .aug) :
    Facet.kept .auger s (s.reportShed op) ∧ ((s.reportShed op).channel .aug).job = (s.channel .aug).job := by
  cases op with
  | aug => exact absurd rfl h
  | dh => exact ⟨s.dhShed_touches.at .auger, s.dhShed_touches.at (.job .aug)⟩
  | mha => exact ⟨(s.moldShed_touches .a).at .auger, (s.moldShed_touches .a).at (.job .aug)⟩
  | mhb => exact ⟨(s.moldShed_touches .b).at .auger, (s.moldShed_touches .b).at (.job .aug)⟩

theorem State.shedOp_auger_ne {s : State} {op : LoadOp} (h : op ≠ .aug) :
    (s.shedOp op).ice.auger = s.ice.auger ∧ ((s.shedOp op).channel .aug).job = (s.channel .aug).job := by
  cases k : s.grantOf op with
  | none => rw [State.shedOp_of_none k]; exact ⟨rfl, rfl⟩
  | some g =>
    have offered := State.offerRelease_touches
      { s with share := { s.share with grants := s.share.grants.filter fun x => x.op != some op } } g.tag g.cls
    have auger : (s.unloaded op g).ice.auger = s.ice.auger := (offered.at .auger).1
    have job : ((s.unloaded op g).channel .aug).job = (s.channel .aug).job := offered.at (.job .aug)
    obtain ⟨auger', job'⟩ := State.reportShed_auger_ne (s := s.unloaded op g) h
    rw [State.shedOp_of_grant k]
    split
    · exact ⟨auger'.1.trans auger, job'.trans job⟩
    · exact ⟨auger'.1.trans auger, job'.trans job⟩

theorem State.shedOp_auger {s : State} (h : s.hasGrant .aug) (running : s.ice.auger = .running) : (s.shedOp .aug).augerRests := by
  obtain ⟨g, grant⟩ := State.grantOf_of_has h
  have offered := State.offerRelease_touches
    { s with share := { s.share with grants := s.share.grants.filter fun x => x.op != some .aug } } g.tag g.cls
  have auger : (s.unloaded .aug g).ice.auger = .running := (offered.at .auger).1.trans running
  have shed : (s.unloaded .aug g).reportShed .aug = (s.unloaded .aug g).augerOff.writeEvent eventAugerStopped := if_pos auger
  have written := State.writeEvent_touches (s.unloaded .aug g).augerOff eventAugerStopped
  obtain ⟨ice, job⟩ := (s.unloaded .aug g).augerOff_facts
  have rests : ((s.unloaded .aug g).reportShed .aug).augerRests := by
    rw [shed]
    exact ⟨(written.at .auger).1.trans (by rw [ice]), (written.at (.job .aug)).trans job⟩
  rw [State.shedOp_of_grant grant]
  exact rests

/-- An auger shed rests at the end. -/
theorem State.shedOps_auger (ops : List LoadOp) : ∀ s : State, LoadOp.aug ∈ ops → s.hasGrant .aug → s.ice.auger = .running →
    (ops.foldl State.shedOp s).augerRests := by
  have keep (ops : List LoadOp) : ∀ {s : State}, s.augerRests → ¬ s.hasGrant .aug → (ops.foldl State.shedOp s).augerRests := by
    induction ops with
    | nil => exact fun h _ => h
    | cons o ops ih =>
      intro s rests gone
      have goneAfter : ¬ (s.shedOp o).hasGrant .aug := fun ⟨g, mem, own⟩ => by
        rw [State.shedOp_grants] at mem
        exact gone ⟨g, (List.mem_filter.mp mem).1, own⟩
      refine ih ?_ goneAfter
      by_cases same : o = .aug
      · subst same
        have none : s.grantOf .aug = none := List.find?_eq_none.mpr fun g hg eq => gone ⟨g, hg, beq_iff_eq.mp eq⟩
        rw [State.shedOp_of_none none]; exact rests
      · obtain ⟨auger, job⟩ := State.shedOp_auger_ne (s := s) same
        exact ⟨auger.trans rests.1, job.trans rests.2⟩
  induction ops with
  | nil => exact fun _ mem => absurd mem (by simp)
  | cons o ops ih =>
    intro s mem has running
    rw [List.foldl_cons]
    by_cases same : o = .aug
    · subst same
      refine keep ops (State.shedOp_auger has running) fun ⟨g, there, own⟩ => ?_
      rw [State.shedOp_grants] at there
      have apart := (List.mem_filter.mp there).2
      rw [own] at apart
      simp at apart
    · exact ih _ ((List.mem_cons.mp mem).resolve_left fun e => same e.symm) (State.shedOp_hasGrant has fun e => same e.symm)
        ((State.shedOp_auger_ne same).1.trans running)

/-! ### The walk (R71, R73) -/

/-- The own operations to be shed have grants. -/
theorem State.shedOps_hasGrant {s : State} {op : LoadOp} (h : op ∈ s.shedOps) : s.hasGrant op := by
  obtain ⟨known, prefixed, own⟩ := List.mem_filterMap.mp h
  have inOrder : known ∈ s.worstFirst := (shedPrefix_prefix _ _).subset prefixed
  simp only [State.worstFirst, List.mem_flatMap] at inOrder
  obtain ⟨cls, -, a, -, mem⟩ := inOrder
  unfold State.knownOf at mem
  split at mem
  · obtain ⟨g, there, rfl⟩ := List.mem_map.mp (List.mem_reverse.mp mem)
    exact ⟨g, (List.mem_filter.mp there).1, own⟩
  · split at mem
    · split at mem
      · exact absurd mem (by simp)
      · obtain ⟨g, there, rfl⟩ := List.mem_map.mp (List.mem_reverse.mp mem)
        exact absurd own (by simp)
    · exact absurd mem (by simp)

/-- The walk sheds the own operations in their order. -/
theorem State.shedWalk_of_excess {s : State} (h : s.inExcess = true) : s.shedWalk =
    if s.shedOps.isEmpty then s else ((s.shedOps.foldl State.shedOp s).publishRequest).recomputeExcess := if_pos h

/-! ### Abandonment (R79) -/

/-- The state in which the abandonment is reported to its job. -/
def State.forgotten (s : State) (op : LoadOp) : State :=
  let t := (s.dropSuspension op).dropEntry op
  if (t.flightOf op).isSome then t.cancelFlight else t

theorem State.dropSuspension_none (s : State) (op : LoadOp) : (s.dropSuspension op).suspensionOf op = none := by
  have gone (l : List Suspension) : (l.filter fun r => r.op != op).find? (fun r => r.op == op) = none := by
    refine List.find?_eq_none.mpr fun r hr => ?_
    have apart := (List.mem_filter.mp hr).2
    simpa using apart
  by_cases held : (s.suspensionOf op).isSome = true
  · unfold State.dropSuspension
    rw [if_pos held]
    dsimp only
    split
    · exact gone _
    · exact gone _
  · rw [State.dropSuspension, if_neg held]
    exact Option.not_isSome_iff_eq_none.mp held

/-- The suspension list holds the same operations. -/
def SuspendedKept (s t : State) : Prop := t.share.suspended.map Suspension.op = s.share.suspended.map Suspension.op

theorem SuspendedKept.trans {s t u : State} (h : SuspendedKept s t) (k : SuspendedKept t u) : SuspendedKept s u := Eq.trans k h

theorem SuspendedKept.of_eq {s t : State} (h : t.share.suspended = s.share.suspended) : SuspendedKept s t :=
  congrArg (List.map Suspension.op) h

/-- No record is held for an operation exactly where the list holds none of it. -/
theorem State.suspensionOf_none_iff {s : State} {op : LoadOp} : s.suspensionOf op = none ↔ op ∉ s.share.suspended.map Suspension.op := by
  rw [State.suspensionOf, List.find?_eq_none]
  simp only [beq_iff_eq, List.mem_map, not_exists, not_and]

theorem SuspendedKept.stays_none {s t : State} (h : SuspendedKept s t) {op : LoadOp} (absent : s.suspensionOf op = none) :
    t.suspensionOf op = none := by
  rw [State.suspensionOf_none_iff] at absent ⊢
  rw [show t.share.suspended.map Suspension.op = _ from h]
  exact absent

theorem Touches.suspendedKept {P : List Facet} {s t : State} (h : Touches P s t)
    (apart : autoParam (Facet.suspended ∉ P) Rat.normalize._auto_1) : SuspendedKept s t := .of_eq (h .suspended apart)

theorem map_op_of_amps (op : LoadOp) (amps : Nat) (l : List Suspension) :
    (l.map fun r => if r.op = op then { r with amps := amps } else r).map Suspension.op = l.map Suspension.op := by
  rw [List.map_map]
  refine List.map_congr_left fun r _ => ?_
  dsimp only [Function.comp_apply]
  split <;> rfl

/-- An ask changes the current of a record at most. -/
theorem State.ask_suspended (s : State) (op : LoadOp) (amps : Nat) : SuspendedKept s (s.ask op amps) := by
  have placed (t : State) : SuspendedKept t (t.placeAsk op amps) := by
    unfold State.placeAsk
    split
    · split <;> exact .of_eq rfl
    · exact map_op_of_amps op amps _
    · exact map_op_of_amps op amps _
    · exact .of_eq rfl
    · exact .of_eq rfl
  unfold State.ask
  dsimp only
  repeat' split
  · exact .of_eq rfl
  · exact .of_eq rfl
  · exact s.reevaluateDh_touches.suspendedKept.trans (placed _)
  · exact placed s

theorem State.enterHarvestPending_suspended (s : State) (m : Mold) : SuspendedKept s (s.enterHarvestPending m) := by
  have set (t : State) (r : MoldRecord) : SuspendedKept t (t.setMold m r) := .of_eq (by rw [State.setMold_share])
  have claims (t : State) : SuspendedKept t (t.enterHarvestClaim m) := by
    have asked (t : State) (op : LoadOp) (amps : Nat) : SuspendedKept t (t.ask op amps) := t.ask_suspended op amps
    have heated (t : State) : SuspendedKept t (t.enterHarvestHeat m) :=
      .of_eq ((t.enterHarvestHeat_touches m).at .suspended (by cases m <;> decide))
    unfold State.enterHarvestClaim
    dsimp only
    split
    · exact ((set _ _).trans (asked _ _ _)).trans (heated _)
    · exact (set _ _).trans (asked _ _ _)
  unfold State.enterHarvestPending State.holdTestMold
  split
  · exact (set _ _).trans ((set _ _).trans (claims _))
  · exact set _ _

theorem State.reportAbandoned_suspended (s : State) (op : LoadOp) : SuspendedKept s (s.reportAbandoned op) := by
  have mold (m : Mold) : SuspendedKept s (s.moldAbandoned m) := by
    unfold State.moldAbandoned
    split
    · exact SuspendedKept.trans (.of_eq (by rw [State.setMold_share])) (State.enterHarvestPending_suspended _ m)
    · exact .of_eq rfl
  cases op with
  | dh => exact s.dhAbandoned_touches.suspendedKept
  | mha => exact mold .a
  | mhb => exact mold .b
  | aug => exact s.augerAborted_touches.suspendedKept

/-- What the forgetting of an operation may touch. -/
def forgetFacets : List Facet := [.suspended, .reclaim, .claims, .flight, .queue]

theorem State.forgotten_touches (s : State) (op : LoadOp) : Touches forgetFacets s (s.forgotten op) := by
  have dropped : Touches forgetFacets s ((s.dropSuspension op).dropEntry op) :=
    (s.dropSuspension_touches op).mono.trans (State.dropEntry_touches _ op).mono
  unfold State.forgotten
  dsimp only
  split
  · exact dropped.trans (State.cancelFlight_touches _).mono
  · exact dropped

theorem State.forgotten_none (s : State) (op : LoadOp) : (s.forgotten op).suspensionOf op = none := by
  have entry : SuspendedKept (s.dropSuspension op) ((s.dropSuspension op).dropEntry op) := (State.dropEntry_touches _ op).suspendedKept
  have absent := entry.stays_none (s.dropSuspension_none op)
  unfold State.forgotten
  dsimp only
  split
  · exact (State.cancelFlight_touches _).suspendedKept.stays_none absent
  · exact absent

/-! ### The head of the list (R77) -/

theorem State.reclaimHead_of_free {s : State} {r : Suspension} {rest : List Suspension} (head : s.share.suspended = r :: rest)
    (entry : s.entryOf r.op = none) (flight : s.flightOf r.op = none) (notDh : r.op ≠ .dh) :
    s.reclaimHead = s.enqueueClaim
      { op := r.op, cls := r.cls, amps := r.amps, asked := s.now, retryAt := none, reclaim := true } := by
  rw [State.reclaimHead, head]
  dsimp only
  rw [entry, flight, if_neg notDh, State.reclaimEntry, if_neg notDh]
  rfl

theorem State.reclaimHead_of_held {s : State} {r : Suspension} {rest : List Suspension} (head : s.share.suspended = r :: rest)
    (held : (s.entryOf r.op).isSome ∨ (s.flightOf r.op).isSome) : s.reclaimHead = s := by
  rw [State.reclaimHead, head]
  exact if_pos (by simpa using held)

end Sys2Proof.Machine

open Sys2Proof Sys2Proof.Machine

/-- Settles O38: the sheds are a fold along the walk's order, and each forms its record. -/
theorem shedDelayShedsTheOwnGrantsOfThePrefix : Obligations.ShedDelayShedsTheOwnGrantsOfThePrefix := by
  intro d s timer
  let u : State := { s.atMoment d with share := { s.share with shedDelay := none } }
  refine ⟨fun within => ?_, fun excess => ?_⟩
  · refine does_expiry (act := fun t => State.shedWalk { t with share := { t.share with shedDelay := none } }) rfl timer ?_
    exact if_neg (show ¬ decide (s.image.budget < s.peerTotal + s.ownTotal) = true by simpa using within)
  · have walk := State.shedWalk_of_excess (s := u) (show decide (s.image.budget < s.peerTotal + s.ownTotal) = true by simpa using excess)
    have ops : u.shedOps = s.shedOps := rfl
    rw [ops] at walk
    have touched := u.shedWalk_touches
    refine ⟨u.shedWalk, does_expiry (act := fun t => State.shedWalk { t with share := { t.share with shedDelay := none } }) rfl timer rfl,
      touched.at .now, touched.at .view, ?_⟩
    by_cases none : s.shedOps.isEmpty = true
    · have empty : s.shedOps = [] := List.isEmpty_iff.mp none
      rw [walk, if_pos none, empty]
      exact ⟨(without_nil s.share.grants).symm, nofun, nofun⟩
    · rw [if_neg none] at walk
      let v : State := s.shedOps.foldl State.shedOp u
      have after : Touches offerFacets v v.publishRequest := v.publishRequest_touches
      have after' := (State.recomputeExcess_touches v.publishRequest)
      have grants : v.publishRequest.recomputeExcess.share.grants = v.share.grants := (after'.at .grants).trans (after.at .grants)
      have suspended : v.publishRequest.recomputeExcess.share.suspended = v.share.suspended :=
        (after'.at .suspended).trans (after.at .suspended)
      have reclaim : v.publishRequest.recomputeExcess.share.reclaim = v.share.reclaim := (after'.at .reclaim).trans (after.at .reclaim)
      have auger : v.publishRequest.recomputeExcess.ice.auger = v.ice.auger := (after'.at .auger).1.trans (after.at .auger).1
      have job : (v.publishRequest.recomputeExcess.channel .aug).job = (v.channel .aug).job :=
        (after'.at (.job .aug)).trans (after.at (.job .aug))
      rw [walk, grants, suspended, reclaim, auger, job]
      have has {op : LoadOp} (mem : op ∈ s.shedOps) : u.hasGrant op := State.shedOps_hasGrant (s := s) mem
      refine ⟨State.shedOps_grants _ u, fun op mem notAuger => State.shedOps_suspend _ u op mem notAuger (has mem), fun mem running =>
        State.shedOps_auger _ u mem (has mem) running⟩

/-- Settles O39: the head of the list gets its entry, and an abandoned operation is forgotten before its job hears of it. -/
theorem suspendedOperationsAreReclaimedOrAbandoned : Obligations.SuspendedOperationsAreReclaimedOrAbandoned := by
  intro d r rest op s
  let u : State := { s.atMoment d with share := { s.share with reclaim := none } }
  refine ⟨fun timer head notDh noEntry noFlight => ?_, fun timer ends => ?_, fun e entry timer => ?_, fun suspended => ?_⟩
  · refine does_expiry (act := fun t => State.reclaimHead { t with share := { t.share with reclaim := none } }) rfl timer ?_
    exact State.reclaimHead_of_free (s := u) head noEntry noFlight notDh
  · refine does_expiry (act := fun t => State.reclaimHead { t with share := { t.share with reclaim := none } }) rfl timer ?_
    rcases ends with none | ⟨head, held⟩
    · have empty : u.share.suspended = [] := none
      exact show u.reclaimHead = u by rw [State.reclaimHead, empty]
    · exact State.reclaimHead_of_held (s := u) head held
  · have due : s.retryTime op = some d := by rw [State.retryTime, entry]; exact timer
    exact does_expiry (act := fun t => t.retryPassed op) rfl due rfl
  · have due : s.abandonAt op = some r.abandon := by rw [State.abandonAt, suspended]; rfl
    let v : State := (s.atMoment r.abandon).forgotten op
    have forgotten := (s.atMoment r.abandon).forgotten_touches op
    have now : v.now = max s.now r.abandon := forgotten.at .now
    have mode : v.mode = s.mode := forgotten.at .mode
    refine ⟨v.reportAbandoned op, does_expiry (act := fun t => t.abandon op) rfl due rfl,
      ((State.reportAbandoned_touches _ op).at .now).trans now,
      (State.reportAbandoned_suspended v op).stays_none (State.forgotten_none _ op), ?_, ?_⟩
    · rintro rfl paused notShow
      have defrost : v.defrost = s.defrost := forgotten.at .defrost
      have frost : v.frost = s.frost := forgotten.frost_eq
      have run : v.reportAbandoned .dh = v.frostNotCompleted.enterDrip :=
        if_pos ⟨by rw [defrost]; exact paused, by rw [mode]; exact notShow⟩
      have dripped : v.frostNotCompleted.enterDrip.frost = v.frostNotCompleted.frost := (State.enterDrip_touches _).frost_eq
      have record : v.frostNotCompleted.frost = { s.frost with gap := .retryWait, retryTimer := some (max s.now r.abandon + 3600000000) } := by
        rw [← frost, ← now]; rfl
      rw [run, State.enterDrip_job_dr, State.enterDrip_defrost, dripped, record]
      exact ⟨rfl, congrArg (fun n => some (n + 300000000)) now, rfl, rfl, rfl, rfl, rfl, rfl⟩
    · rintro m rfl held notShow full
      have mold : v.mold m = s.mold m := forgotten.at (.mold m) (by cases m <;> decide)
      have switches : v.switches = s.switches := forgotten.at .switches
      have run : v.reportAbandoned m.op =
          (v.setMold m { v.mold m with suspended := false, heatSeconds := 0 }).enterHarvestPending m := by
        have meets : (v.mold m).suspended ∧ v.mode ≠ .showroom := ⟨by rw [mold]; exact held, by rw [mode]; exact notShow⟩
        cases m <;> exact if_pos meets
      obtain ⟨-, -, -, record⟩ := (v.setMold m { v.mold m with suspended := false, heatSeconds := 0 }).enterHarvestPending_facts m
      rw [run, record (by rw [State.setMold_switches, switches]; exact full), State.setMold_mold]
      exact ⟨rfl, rfl, rfl⟩
end

/-! PROOF. A claim granted (section 3.3). -/

section
namespace Sys2Proof.Machine

/-! ### The entry to HEATING (R110, R111) -/

theorem State.endHeating_refusals (s : State) (rep : EndReport) : (s.endHeating rep).share.dhRefusals = 0 := by
  have commanded (t : State) : (t.command .dr .on).share = t.share := (t.command_touches .dr .on).share_eq
  have entered : ∀ t : State, t.enterDrip.share.dhRefusals = 0 := fun t => by
    have share : t.enterDrip.share = (t.setDefrost .drip).share := commanded _
    rw [share]
    exact (t.setDefrost_dhClass rfl).2
  exact entered _

/-- An entry that does not reset the DH class leaves the share unit as it was. -/
theorem State.setDefrost_share (s : State) (d : DefrostState) (h : d.resetsClass = false) : (s.setDefrost d).share = s.share := by
  unfold State.setDefrost
  dsimp only
  rw [if_neg (ne_true_of_eq_false h), show State.share _ = _ from (State.fan_touches _).share_eq, State.write_share]

/-- HEATING is entered with its second running and the duty's drive, or left at once into DRIP. -/
theorem State.enterHeating_facts (s : State) :
    (s.enterHeating.defrost = { s.defrost with state := .heating, heatSecond := some (s.now + 1000000) } ∧
      (s.enterHeating.channel .dh).job = s.defrost.duty.drive ∧ s.enterHeating.share.dhRefusals = s.share.dhRefusals) ∨
    (s.enterHeating.defrost.state = .drip ∧ s.enterHeating.share.dhRefusals = 0) := by
  have defrost := s.setDefrost_defrost .heating
  have now := s.setDefrost_now .heating
  let u : State := { s.setDefrost .heating with defrost := { (s.setDefrost .heating).defrost with
    heatSecond := (s.setDefrost .heating).timer Config.sec } }
  have record : u.defrost = { s.defrost with state := .heating, heatSecond := some (s.now + 1000000) } := by
    show ({ (s.setDefrost .heating).defrost with heatSecond := some ((s.setDefrost .heating).now + 1000000) } : Defrost) = _
    rw [defrost, now]
  have duty : u.defrost.duty = s.defrost.duty := by rw [record]
  let v : State := u.command .dh u.defrost.duty.drive
  have commanded := u.command_touches .dh u.defrost.duty.drive
  have defrostV : v.defrost = u.defrost := commanded.at .defrost
  have job : (v.channel .dh).job = s.defrost.duty.drive := by rw [← duty]; exact State.command_job_self _ _ _
  have refusals : v.share.dhRefusals = s.share.dhRefusals := (commanded.at .dhClass).2.trans
    (congrArg Share.dhRefusals (s.setDefrost_share .heating rfl))
  have ended (rep : EndReport) : (v.endHeating rep).defrost.state = .drip ∧ (v.endHeating rep).share.dhRefusals = 0 :=
    ⟨by rw [State.endHeating_defrost], State.endHeating_refusals _ _⟩
  have run : s.enterHeating = if v.watchActive 0 then v.endHeating .complete else v.limitTest := rfl
  rw [run]
  split
  · exact .inr (ended _)
  · unfold State.limitTest
    repeat' split
    · exact .inr (ended _)
    · exact .inr (ended _)
    · exact .inl ⟨defrostV.trans record, job, refusals⟩
    · exact .inl ⟨defrostV.trans record, job, refusals⟩

/-! ### The report to the job (R66) -/

/-- The grant of a DH claim starts the heating at the duty of its current. -/
theorem State.dhGranted_facts (s : State) (amps : Nat) (context : Option SavedContext) :
    (s.share.dhRefusals = 0 → (s.dhGranted amps context).share.dhRefusals = 0) ∧
    (s.defrost.state = .heatClaim →
      ((s.dhGranted amps context).defrost = { s.defrost with
          duty := dutyOf s.image.dhAmps amps, state := .heating, heatSecond := some (s.now + 1000000) } ∧
        ((s.dhGranted amps context).channel .dh).job = (dutyOf s.image.dhAmps amps).drive) ∨
      (s.dhGranted amps context).defrost.state = .drip) := by
  have heats (t : State) (h : t.share.dhRefusals = 0) : t.enterHeating.share.dhRefusals = 0 := by
    rcases t.enterHeating_facts with ⟨-, -, same⟩ | ⟨-, zero⟩
    · exact same.trans h
    · exact zero
  refine ⟨fun zero => ?_, fun claim => ?_⟩
  · unfold State.dhGranted
    dsimp only
    split
    · exact heats _ zero
    · exact heats _ zero
    · exact heats _ zero
    · exact zero
  · have run : s.dhGranted amps context =
        State.enterHeating { s with defrost := { s.defrost with duty := dutyOf s.image.dhAmps amps } } := by
      rw [State.dhGranted]; exact claim
    rw [run]
    rcases State.enterHeating_facts { s with defrost := { s.defrost with duty := dutyOf s.image.dhAmps amps } } with
      ⟨record, job, -⟩ | ⟨drip, -⟩
    · exact .inl ⟨record, job⟩
    · exact .inr drip

/-- HARVEST_HEAT is entered with its second running, or left at once into EJECT. -/
theorem State.enterHarvestHeat_second (s : State) (m : Mold) :
    ((s.enterHarvestHeat m).mold m).state = .harvestHeat ∧ ((s.enterHarvestHeat m).mold m).heatSecond = some (s.now + 1000000) ∨
    ((s.enterHarvestHeat m).mold m).state = .eject := by
  have record : ((s.setMold m { s.mold m with state := .harvestHeat, heatSecond := s.timer Config.sec }).command m.heater .on).mold m =
      { s.mold m with state := .harvestHeat, heatSecond := s.timer Config.sec } := by
    rw [State.command_mold, State.setMold_mold]
  unfold State.enterHarvestHeat State.heatEndTest
  dsimp only
  generalize State.command _ m.heater .on = u at *
  split
  · exact .inr (by rw [(u.enterEject_facts m).1]; rfl)
  · rw [record]; exact .inl ⟨rfl, rfl⟩

theorem State.augerGranted_facts {s : State} (claiming : s.ice.auger = .claiming) : s.augerGranted.ice.auger = .running ∧
    s.augerGranted.ice.runTimer = some (s.now + 60000000) ∧ (s.augerGranted.channel .aug).job = .on := by
  have now : (s.command .aug .on).now = s.now := (s.command_touches .aug .on).at .now
  have job := State.command_job_self s .aug .on
  unfold State.augerGranted
  rw [if_pos claiming]
  dsimp only
  generalize s.command .aug .on = u at *
  have lamp := State.lamp_touches { u with ice := { u.ice with runTimer := u.timer Config.augerRun, auger := .running } }
  rw [State.setAuger]
  refine ⟨(lamp.at .auger).1, (lamp.at .auger).2.trans ?_, (lamp.at (.job .aug)).trans job⟩
  rw [← now]
  rfl

/-! ### The claim in flight stays away from the reports -/

theorem State.releaseLoad_flight (s : State) (op : LoadOp) : (s.releaseLoad op).share.flight = s.share.flight := by
  unfold State.releaseLoad
  split
  · rfl
  · dsimp only
    have excess (t : State) : t.recomputeExcess.share.flight = t.share.flight := t.recomputeExcess_touches.at .flight
    rw [excess, State.publishRequest_share, State.offerRelease_share]

theorem State.endHeating_flight (s : State) (rep : EndReport) : (s.endHeating rep).share.flight = s.share.flight := by
  have drip (t : State) : t.enterDrip.share.flight = t.share.flight := t.enterDrip_touches.at .flight
  have account (t : State) (n : Nat) : (t.frostCompleted rep n).share.flight = t.share.flight := (t.frostCompleted_touches rep n).at .flight
  have off : s.heaterOff.share.flight = s.share.flight := s.heaterOff_touches.at .flight
  rw [State.endHeating, drip, account, State.releaseLoad_flight, off]

theorem State.enterHeating_flight (s : State) : s.enterHeating.share.flight = s.share.flight := by
  let u : State := { s.setDefrost .heating with defrost := { (s.setDefrost .heating).defrost with
    heatSecond := (s.setDefrost .heating).timer Config.sec } }
  let v : State := u.command .dh u.defrost.duty.drive
  have flight : v.share.flight = s.share.flight :=
    (show _ = u.share.flight from (u.command_touches .dh _).at .flight).trans ((s.setDefrost_touches .heating).at .flight)
  have run : s.enterHeating = if v.watchActive 0 then v.endHeating .complete else v.limitTest := rfl
  rw [run]
  unfold State.limitTest
  repeat' split
  · exact (State.endHeating_flight _ _).trans flight
  · exact (State.endHeating_flight _ _).trans flight
  · exact (State.endHeating_flight _ _).trans flight
  · exact flight
  · exact flight

theorem State.reportGranted_flight (s : State) (op : LoadOp) (amps : Nat) (context : Option SavedContext) :
    (s.reportGranted op amps context).share.flight = s.share.flight := by
  cases op with
  | dh =>
    show (s.dhGranted amps context).share.flight = _
    unfold State.dhGranted
    dsimp only
    split
    · exact State.enterHeating_flight _
    · exact State.enterHeating_flight _
    · exact State.enterHeating_flight _
    · rfl
  | mha => exact (s.moldGranted_touches .a context).at .flight
  | mhb => exact (s.moldGranted_touches .b context).at .flight
  | aug => exact s.augerGranted_touches.at .flight

/-! ### The grant (R66) -/

theorem State.joinGrant_facts (s : State) (c : Claim) :
    (s.joinGrant c).share.grants = s.share.grants ++ [{ op := some c.op, cls := c.cls, amps := c.amps, tag := c.tag }] ∧
    (s.joinGrant c).share.flight = none ∧ (c.op = .dh → (s.joinGrant c).share.dhRefusals = 0) := by
  let u : State := { s with share := { s.share with
    grants := s.share.grants ++ [{ op := some c.op, cls := c.cls, amps := c.amps, tag := c.tag }]
    flight := none, dhRefusals := if c.op = .dh then 0 else s.share.dhRefusals } }
  have run : s.joinGrant c = if c.reclaim then u.dropSuspension c.op else u := rfl
  have refusals : c.op = .dh → u.share.dhRefusals = 0 := fun dh => if_pos dh
  rw [run]
  split
  · have dropped := u.dropSuspension_touches c.op
    exact ⟨dropped.at .grants, dropped.at .flight, fun dh => ((dropped.at .dhClass).2).trans (refusals dh)⟩
  · exact ⟨rfl, rfl, refusals⟩

end Sys2Proof.Machine

open Sys2Proof Sys2Proof.Machine

/-- Settles O35: the grant joins the list, and the job that hears of it starts. -/
theorem claimIsGrantedWithinTheBudget : Obligations.ClaimIsGrantedWithinTheBudget := by
  intro d c stamp s flight phase live fits island
  let a : State := s.atMoment d
  have admits : a.admits c.cls c.amps stamp = true := (State.admits_iff ..).mpr ⟨fits, island⟩
  let u : State := a.joinGrant c
  have joined := a.joinGrant_touches c admits
  obtain ⟨grantsU, flightU, refusalsU⟩ := a.joinGrant_facts c
  let v : State := u.reportGranted c.op c.amps (a.claimContext c)
  have reported := u.reportGranted_touches c.op c.amps (a.claimContext c)
  let w : State := v.publishRequest.recomputeExcess
  have published : Touches (.shedDelay :: offerFacets) v w := v.publishRequest_touches.mono.trans (State.recomputeExcess_touches _).mono
  have runs : Does .claimWindowExpiry s w := by
    refine does_claimWindowExpiry flight phase ?_
    rw [if_neg (ne_true_of_eq_false live), if_pos admits]
    rfl
  have nowU : u.now = max s.now d := joined.at .now
  have imageU : u.image = s.image := joined.at .image
  have nowV : v.now = u.now := reported.at .now
  have iceU : u.ice = s.ice := joined.ice_eq
  have defrostU : u.defrost = s.defrost := joined.at .defrost
  have flightW : w.share.flight = v.share.flight := ((State.recomputeExcess_touches _).at .flight).trans
    (congrArg Share.flight (State.publishRequest_share v))
  have jobW (o : Output) : (w.channel o).job = (v.channel o).job := published.at (.job o) (by cases o <;> decide)
  refine ⟨w, runs, (published.at .now).trans (nowV.trans nowU), flightW.trans ((State.reportGranted_flight ..).trans flightU),
    (published.at .view).trans ((reported.at .view).trans (joined.at .view)), fun notDh => ?_, fun dh => ?_, fun aug claiming => ?_,
    fun m op claim active => ?_, fun dh claim => ?_⟩
  · have grantsV : v.share.grants = u.share.grants := by
      cases op : c.op with
      | dh => exact absurd op notDh
      | mha => exact (show v = u.moldGranted .a _ by rw [show v = u.reportGranted c.op c.amps _ from rfl, op]; rfl) ▸
          (u.moldGranted_touches .a _).at .grants
      | mhb => exact (show v = u.moldGranted .b _ by rw [show v = u.reportGranted c.op c.amps _ from rfl, op]; rfl) ▸
          (u.moldGranted_touches .b _).at .grants
      | aug => exact (show v = u.augerGranted by rw [show v = u.reportGranted c.op c.amps _ from rfl, op]; rfl) ▸
          u.augerGranted_touches.at .grants
    exact (published.at .grants).trans (grantsV.trans grantsU)
  · have run : v = u.dhGranted c.amps (a.claimContext c) := by rw [show v = u.reportGranted c.op c.amps _ from rfl, dh]; rfl
    have zero := (u.dhGranted_facts c.amps (a.claimContext c)).1 (refusalsU dh)
    rw [← run] at zero
    exact (published.at .dhClass).2.trans zero
  · have run : v = u.augerGranted := by rw [show v = u.reportGranted c.op c.amps _ from rfl, aug]; rfl
    obtain ⟨auger, timer, job⟩ := State.augerGranted_facts (s := u) (by rw [iceU]; exact claiming)
    rw [← run] at auger timer job
    obtain ⟨augerW, timerW⟩ : Facet.kept .auger v w := published.at .auger
    exact ⟨augerW.trans auger, timerW.trans (timer.trans (by rw [nowU])), (jobW .aug).trans job⟩
  · have moldU : u.mold m = s.mold m := congrArg (fun i : Ice => i.molds.get m) iceU
    have run : v = u.enterHarvestHeat m := by
      have granted : u.moldGranted m (a.claimContext c) = u.enterHarvestHeat m := by
        unfold State.moldGranted
        dsimp only
        rw [moldU, if_neg (ne_true_of_eq_false active), if_pos claim]
      rw [show v = u.reportGranted c.op c.amps _ from rfl, op, ← granted]
      cases m <;> rfl
    have moldW : w.mold m = v.mold m := published.at (.mold m) (by cases m <;> decide)
    have facts := (u.enterHarvestHeat_facts m).1
    have second := u.enterHarvestHeat_second m
    rw [← run] at facts second
    rw [nowU] at second
    rw [moldW]
    exact ⟨(jobW m.heater).trans facts, second⟩
  · have run : v = u.dhGranted c.amps (a.claimContext c) := by rw [show v = u.reportGranted c.op c.amps _ from rfl, dh]; rfl
    have facts := (u.dhGranted_facts c.amps (a.claimContext c)).2 (by rw [defrostU]; exact claim)
    rw [← run, imageU, nowU] at facts
    have defrostW : w.defrost = v.defrost := published.at .defrost
    rw [defrostW, jobW]
    rcases facts with ⟨record, job⟩ | drip
    · refine .inl ⟨by rw [record], by rw [record], by rw [record]; rfl, job.trans ?_⟩
      unfold dutyOf
      split <;> rfl
    · exact .inr drip
end

/-! PROOF. The stuck line (section 2.5). -/

section
namespace Sys2Proof.Machine

/-! ### In STUCK the queue stays as it is (R53) -/

/-- From STUCK the interface stays in STUCK with the driver as it is, and no frame joins the queue. -/
def StuckKept (s t : State) : Prop := s.line.mode = .stuck → t.line.mode = .stuck ∧ t.line.queue = s.line.queue ∧
  t.line.driver = s.line.driver ∧ t.line.stuckLong = s.line.stuckLong

theorem StuckKept.refl (s : State) : StuckKept s s := fun stuck => ⟨stuck, rfl, rfl, rfl⟩

theorem StuckKept.trans {s t u : State} (h : StuckKept s t) (k : StuckKept t u) : StuckKept s u := fun stuck => by
  obtain ⟨stuckT, queueT, driverT, timerT⟩ := h stuck
  obtain ⟨stuckU, queueU, driverU, timerU⟩ := k stuckT
  exact ⟨stuckU, queueU.trans queueT, driverU.trans driverT, timerU.trans timerT⟩

theorem Touches.stuckKept {P : List Facet} {s t : State} (h : Touches P s t)
    (apart : autoParam (Facet.wire ∉ P ∧ Facet.queue ∉ P) Rat.normalize._auto_1) : StuckKept s t := fun stuck => by
  have wire : WireKept s t := h .wire apart.1
  have queue : t.line.queue = s.line.queue := h .queue apart.2
  rw [WireKept] at wire
  rw [wire]
  exact ⟨stuck, queue, rfl, rfl⟩

theorem State.sendStuck_stuckKept (s : State) (f : TxFrame) : StuckKept s (s.sendStuck f) := (s.sendStuck_touches f).stuckKept

theorem State.offer_stuckKept (s : State) (f : TxFrame) : StuckKept s (s.offer f) := fun stuck => by
  rw [State.offer, if_pos (beq_iff_eq.mpr stuck)]
  exact s.sendStuck_stuckKept f stuck

theorem State.publishRequest_stuckKept (s : State) : StuckKept s s.publishRequest := fun stuck => by
  rw [State.publishRequest, State.offerStatus, if_pos (beq_iff_eq.mpr stuck)]
  exact s.sendStuck_stuckKept _ stuck

theorem State.shedOp_stuckKept (s : State) (op : LoadOp) : StuckKept s (s.shedOp op) := by
  cases h : s.grantOf op with
  | none => rw [State.shedOp_of_none h]; exact .refl s
  | some g =>
    have unloaded : StuckKept s (s.unloaded op g) := (Touches.fewerGrants s _ (R := [.grants])).stuckKept.trans (State.offer_stuckKept _ _)
    have reported : StuckKept s ((s.unloaded op g).reportShed op) := unloaded.trans (State.reportShed_touches _ op).stuckKept
    rw [State.shedOp_of_grant h]
    split
    · exact reported.trans ((Touches.suspended _ _ (R := [.suspended])).stuckKept.trans (State.startReclaim_touches _).stuckKept)
    · exact reported

theorem State.islandShed_stuckKept (s : State) : StuckKept s s.islandShed := by
  have steps (ops : List LoadOp) : ∀ t : State, StuckKept t (ops.foldl State.islandStep t) := by
    induction ops with
    | nil => exact .refl
    | cons op ops ih =>
      intro t
      refine StuckKept.trans ?_ (ih _)
      unfold State.islandStep
      split
      · exact t.shedOp_stuckKept op
      · exact .refl t
  unfold State.islandShed
  split
  · rw [State.islandSheds_eq]
    exact ((steps _ s).trans (State.publishRequest_stuckKept _)).trans (State.recomputeExcess_touches _).stuckKept
  · exact .refl s

/-- What the entry to island operation touches of the line is the island's own part. -/
theorem State.enterIsland_stuck {s : State} (stuck : s.line.mode = .stuck) :
    StuckKept s s.enterIsland ∧ s.enterIsland.line.island = true := by
  cases island : s.line.island with
  | true => rw [State.enterIsland, if_pos island]; exact ⟨.refl s, island⟩
  | false =>
    let u : State := { s with line := { s.line with
      island := true, lineGood := false, returnListen := none
      goodTimer := if s.pins.line then none else s.timer Config.lineGoodTime } }
    have toU : StuckKept s u := fun _ => ⟨stuck, rfl, rfl, rfl⟩
    have toT : StuckKept u (s.isolated.islandShed.holdCheck) :=
      ((u.reportWords_touches.stuckKept.trans (State.publishRequest_stuckKept _)).trans (State.islandShed_stuckKept _)).trans
        (State.holdCheck_touches _).stuckKept
    have touched : Touches (wordFacets ++ offerFacets ++ shedOpFacets ++ defrostEntryFacets) u (s.isolated.islandShed.holdCheck) :=
      ((u.reportWords_touches.mono.trans (State.publishRequest_touches _).mono).trans (State.islandShed_touches _).mono).trans
        (State.holdCheck_touches _).mono
    obtain ⟨-, -, kept, -⟩ := WireKept.fields (touched.at .wire)
    rw [State.enterIsland_eq island]
    exact ⟨toU.trans toT, kept⟩

/-- The queue is emptied in STUCK, each frame taken as sent. -/
theorem State.flushQueue_stuck (s : State) : StuckKept { s with line := { s.line with queue := [] } } s.flushQueue := by
  have sends (frames : List TxFrame) : ∀ t : State, StuckKept t (frames.foldl State.sendStuck t) := by
    induction frames with
    | nil => exact .refl
    | cons f frames ih => exact fun t => (t.sendStuck_stuckKept f).trans (ih _)
  exact sends _ _

/-! ### 1 s of dominance (R53, R54) -/

theorem State.enterStuck_facts (s : State) : s.enterStuck.fault.isSet .linkStuck = true ∧ s.enterStuck.line.mode = .stuck ∧
    s.enterStuck.line.driver = false ∧ s.enterStuck.line.queue = [] ∧ s.enterStuck.line.island = true ∧
    s.enterStuck.line.stuckLong = none ∧ s.enterStuck.view = s.view ∧ s.enterStuck.sensors = s.sensors := by
  let u : State := s.raiseB .linkStuck
  let v : State := { u with line := { u.line with stuckLong := none, mode := .stuck, driver := false, txEnd := none } }
  obtain ⟨mode, queue, driver, timer⟩ := v.flushQueue_stuck rfl
  obtain ⟨keeps, island⟩ := State.enterIsland_stuck mode
  obtain ⟨modeT, queueT, driverT, timerT⟩ := keeps mode
  have after : Touches islandFacets v v.flushQueue.enterIsland :=
    v.flushQueue_touches.mono.trans (State.enterIsland_touches _)
  have fault : v.flushQueue.enterIsland.fault.isSet .linkStuck = true := (after.at (.flag .linkStuck)) (s.raiseB_isSet .linkStuck)
  exact ⟨fault, modeT, driverT.trans driver, queueT.trans queue, island, timerT.trans timer,
    s.enterStuck_touches.at .view, s.enterStuck_touches.at .sensors⟩

theorem State.bitError_of_quiet {s : State} (quiet : s.line.sendingFrame = none) : s.bitError = s := by
  rw [State.bitError, quiet]

/-! ### The samples of the line (R31, R32) -/

/-- The samples of the line leave everything but the framer and the frames heard. -/
theorem State.lineSamples_eq (s : State) :
    s.lineSamples = { s with line := { s.line with framer := s.lineSamples.line.framer, heard := s.lineSamples.line.heard } } :=
  s.lineSamples_framerOnly

theorem State.lineSample_of_whole {s : State} {chars : List Byte} {edge : Nat} {levels : List Bool}
    (inside : s.line.framer = .character chars edge levels) (recessive : s.pins.line = false) (full : levels.length = 8)
    (whole : Framer.after (chars ++ [charOf levels]) = .whole (chars ++ [charOf levels])) (quiet : s.line.sendingFrame = none) :
    s.lineSample.line.heard = s.line.heard ++ [chars ++ [charOf levels]] := by
  have stop : s.line.framer.sample (!s.pins.line) = .whole (chars ++ [charOf levels]) := by
    rw [inside, recessive, Framer.sample, if_neg (by omega)]
    exact whole
  have still : Line.sendingFrame { s.line with framer := .whole (chars ++ [charOf levels]) } = none := quiet
  rw [State.lineSample, stop]
  exact if_neg (by rw [still]; decide)

end Sys2Proof.Machine

open Sys2Proof Sys2Proof.Machine

/-- Settles O27: the samples due change only the framer, an edge sets the timers, and in STUCK no offer joins the queue again. -/
theorem stuckLineHoldsOffThenIsolates : Obligations.StuckLineHoldsOffThenIsolates := by
  intro d s u v
  refine ⟨State.lineSamples_of_not_due s, fun heard high => ?_, fun heard low => ?_, fun chars edge levels inside => ⟨?_, ?_⟩,
    fun timer normal quiet => ?_, fun timer short heldOff => ?_, fun timer => ?_⟩
  · have samples : u = _ := s.lineSamples_eq
    refine does_of_eq (u := (u.setLine true).lineFalls) ?_ ?_
    · show State.done _ = _
      rw [if_neg (by rw [high]; decide), heard]
      rfl
    · rw [samples]
      rfl
  · have samples : u = _ := s.lineSamples_eq
    refine does_of_eq (u := (u.setLine false).lineRises) ?_ ?_
    · show State.done _ = _
      rw [if_neg (by rw [low]; decide), heard]
      rfl
    · rw [samples]
      rfl
  · rw [inside]
    rfl
  · exact State.lineSample_of_whole inside
  · refine does_expiry (act := State.holdOff) rfl timer ((if_pos normal).trans (State.bitError_of_quiet ?_))
    exact quiet
  · refine ⟨_, does_expiry (act := State.reachOneSecond) rfl timer ?_, (s.atMoment d).enterStuck_facts⟩
    have waits : ((s.atMoment d).line.stuckShort.isSome) = false := by rw [State.atMoment, short]; rfl
    rw [State.reachOneSecond, if_neg (ne_true_of_eq_false waits)]
    exact if_neg (by rw [State.atMoment, heldOff]; decide)
  · exact does_expiry (act := State.lineIdle) rfl timer rfl
end

/-! PROOF. The checks of a REQUEST, and a request that passes them (R181, R182). -/

section
namespace Sys2Proof.Machine

/-- A request that passes the checks is carried out, and answered. -/
theorem answers_of_act {c : Instr} {s t : State} {kind code : Nat} {req : Request} {act : Act} {bytes : List Byte}
    (run : exec c s = (s.request kind req act).done) (passes : s.passes kind req)
    (acts : act (s.hears req.src) = (t, { code := code, bytes := bytes })) : Answers c s kind req t code bytes := by
  obtain ⟨peer, single, checked⟩ := passes
  refine does_receive run peer ?_
  rw [if_neg (ne_true_of_eq_false single), State.carryOut, checked]
  show (act (s.hears req.src)).1.answer kind req (act (s.hears req.src)).2 = _
  rw [acts]

/-- What is taken of the content of a request that is turned away, or broadcast without being one of the two kinds. -/
structure TurnsAway (content : State → State) (kind : Nat) (req : Request) : Prop where
  answered : ∀ t code, req.broadcast = false → t.firstFailure kind req = some code →
    content t = t.answer kind req { code := code, bytes := if kind = 9 then t.flagBytes else [] }
  broadcast : ∀ t, req.broadcast = true → (kind ≠ 8 ∧ kind ≠ 13) ∨ t.firstFailure kind req ≠ none → content t = t

theorem turnsAway_of_act (kind : Nat) (req : Request) (act : Act) : TurnsAway
    (fun st => if req.broadcast then st.carryOutBroadcast kind req act else st.carryOut kind req act) kind req where
  answered t code single fails := by
    rw [if_neg (ne_true_of_eq_false single), State.carryOut, fails]
    rfl
  broadcast t broad h := by
    rw [if_pos broad, State.carryOutBroadcast]
    refine if_neg fun carried => ?_
    obtain ⟨isKind, passes⟩ := Bool.and_eq_true_iff.mp carried
    rcases h with ⟨not8, not13⟩ | fails
    · rcases Bool.or_eq_true_iff.mp isKind with is8 | is13
      · exact not8 (beq_iff_eq.mp is8)
      · exact not13 (beq_iff_eq.mp is13)
    · exact fails (Option.isNone_iff_eq_none.mp passes)

theorem turnsAway_restart (req : Request) : TurnsAway
    (fun st => if req.broadcast then st
      else match st.firstFailure kindRestart req with
        | some code => st.answer kindRestart req (.plain code)
        | none => st.takeRestart req) 16 req where
  answered t code single fails := by
    rw [if_neg (ne_true_of_eq_false single), show t.firstFailure kindRestart req = some code from fails]
    rfl
  broadcast t broad _ := if_pos broad

/-- Every request command hears its frame, and takes a content that the checks come before. -/
theorem request_turnsAway {c : Instr} {kind : Nat} {req : Request} (is : c.request = some (kind, req)) (s : State) :
    ∃ content, exec c s = (s.receive req.src content).done ∧ TurnsAway content kind req := by
  unfold Instr.request at is
  split at is
  case h_17 => cases is; exact ⟨_, rfl, turnsAway_restart req⟩
  case h_18 => cases is
  all_goals cases is; exact ⟨_, rfl, turnsAway_of_act _ req _⟩

/-- The checks in their order. -/
theorem State.firstFailure_eq (s : State) (kind : Nat) (req : Request) : s.firstFailure kind req =
    if s.running = false then some 10 else if kind = 0 ∨ 16 < kind then some 8
    else if req.args.length ≠ argCount kind ∨ 14 < req.cond.toNat then some 7
    else if panelOnly kind = true ∧ req.src ≠ s.image.panel then some 9
    else if refusedIn s.mode kind = true then some 4
    else if s.condition req.cond.toNat = true then none else some 3 := by
  simp only [State.firstFailure, Bool.not_eq_true', Bool.and_eq_true, bne_iff_ne, ite_or]
  cases s.condition req.cond.toNat <;> rfl

end Sys2Proof.Machine

open Sys2Proof Sys2Proof.Machine

/-- Settles O57: the checks form one chain, and every request command goes through it. -/
theorem requestsPassTheirChecksInOrder : Obligations.RequestsPassTheirChecksInOrder := by
  refine ⟨fun kind req s => ?_, fun c kind req s is peer => ?_, fun kind req s peer single bad => ?_⟩
  · intro args kindOk condOk allowed
    rw [s.firstFailure_eq]
    refine ⟨fun before => if_pos before, fun run bad => ?_, fun run good bad => ?_, fun run good a b bad => ?_,
      fun run good a b c bad => ?_, fun run good a b c d => ?_⟩
    all_goals rw [if_neg (by rw [run]; decide)]
    · exact if_pos (by omega)
    all_goals rw [if_neg (by omega)]
    · exact if_pos (by omega)
    all_goals rw [if_neg (by omega)]
    · exact if_pos (Classical.not_imp.mp bad)
    all_goals rw [if_neg fun h => h.2 (c h.1)]
    · exact if_pos bad
    · exact if_neg (ne_true_of_eq_false d)
  · intro u
    obtain ⟨content, run, answered, broadcast⟩ := request_turnsAway is s
    exact ⟨fun code single fails => does_receive run peer (answered u code single fails),
      fun broad kept => does_receive run peer (broadcast u broad kept)⟩
  · obtain ⟨content, run, answered, -⟩ := request_turnsAway (c := .requestUnknownKind kind req) rfl s
    have other : kind.toNat ≠ 9 := by
      rcases bad with rfl | large
      · decide
      · omega
    have code : (s.hears req.src).firstFailure kind.toNat req = some (if (s.hears req.src).running then 8 else 10) := by
      have outside : kind.toNat = 0 ∨ 16 < kind.toNat := bad.imp (fun h => by rw [h]; rfl) id
      rw [State.firstFailure_eq, if_pos outside]
      cases (s.hears req.src).running <;> rfl
    have turned := answered _ _ single code
    rw [if_neg other] at turned
    exact does_receive run peer turned
end

/-! PROOF. The requests that read, publish, forget, test and restart (R51, R164, R186, R187). -/

section
namespace Sys2Proof.Machine

/-! ### READ_QUANTITY (R186) -/

/-- A request that reads answers the bytes read, and does nothing more. -/
theorem answers_of_read {req : Request} {s : State} {bytes : List Byte} (passes : s.passes 12 req)
    (reads : (s.hears req.src).readItem (argAt req.args 0) (argAt req.args 1) = some bytes) :
    Answers (.readQuantity req) s 12 req (s.hears req.src) 0 bytes :=
  answers_of_act rfl passes (by unfold State.actReadQuantity; rw [reads]; rfl)

/-- What names no station or no item is a bad argument. -/
theorem answers_of_no_read {req : Request} {s : State} (passes : s.passes 12 req)
    (reads : (s.hears req.src).readItem (argAt req.args 0) (argAt req.args 1) = none) :
    Answers (.readQuantity req) s 12 req (s.hears req.src) 7 [] :=
  answers_of_act rfl passes (by unfold State.actReadQuantity; rw [reads]; rfl)

theorem ownTagOf_code (t : OwnTag) : ownTagOf t.code = some t := by cases t <;> rfl

theorem State.readItem_self {s : State} {n : Nat} (h : n = 0 ∨ n = s.image.ownAddress.toNat) (item : Nat) :
    s.readItem n item = s.readSelf item := if_pos h

theorem State.readSelf_of_tag (s : State) (t : OwnTag) : s.readSelf t.code = some (s.readOwn t) := by
  rw [State.readSelf, ownTagOf_code]

theorem State.readSelf_of_part (s : State) (k : Fin 3) : s.readSelf (0xD0 + k.val) = some (s.detailPart k.val) := by
  match k with
  | 0 => rfl
  | 1 => rfl
  | 2 => rfl

theorem State.readSelf_of_unknown {s : State} {item : Nat} (unknown : ownTagOf item = none) (outside : item < 0xD0 ∨ 0xD2 < item) :
    s.readSelf item = none := by
  rw [State.readSelf, unknown]
  show (if _ then _ else _) = _
  rw [if_neg (by omega), if_neg (by omega), if_neg (by omega)]

/-- A station byte of 1 to 14 names its station. -/
theorem stationOf_toNat {a : Addr} (some : a ≠ 0) (single : a ≠ 15) : stationOf a.toNat = .some a := by
  have bounds : 1 ≤ a.toNat ∧ a.toNat ≤ 14 := by bv_omega
  rw [stationOf, if_pos bounds, BitVec.ofNat_toNat, BitVec.setWidth_eq]

theorem eq_of_stationOf {a b : Addr} (h : stationOf a.toNat = some b) : b = a := by
  obtain ⟨-, same⟩ := Option.ite_none_right_eq_some.mp h
  rw [← Option.some.inj same, BitVec.ofNat_toNat, BitVec.setWidth_eq]

theorem stationOf_of_outside {n : Nat} (h : n = 0 ∨ 15 ≤ n) : stationOf n = none := if_neg (by omega)

theorem State.readItem_station {s : State} {a : Addr} (some : a ≠ 0) (single : a ≠ 15) (peer : a ≠ s.image.ownAddress) (item : Nat) :
    s.readItem a.toNat item = s.readStation a item := by
  have other : ¬ (a.toNat = 0 ∨ a.toNat = s.image.ownAddress.toNat) := by
    rintro (zero | own)
    · exact some (BitVec.eq_of_toNat_eq zero)
    · exact peer (BitVec.eq_of_toNat_eq own)
  rw [State.readItem, if_neg other, stationOf_toNat some single]

theorem State.readItem_outside {s : State} {n : Nat} (large : 15 ≤ n) (other : n ≠ s.image.ownAddress.toNat) (item : Nat) :
    s.readItem n item = none := by
  rw [State.readItem, if_neg (by omega), stationOf_of_outside (.inr large)]

/-- A known tag is none of the two items that read the record itself. -/
theorem State.readStation_of_tag {s : State} (a : Addr) {item : Nat} (small : item < 256)
    (known : isKnownTag (BitVec.ofNat 8 item) = true) : s.readStation a item = some (s.readPeer a (BitVec.ofNat 8 item)) := by
  have notice : item ≠ 0xFE := by rintro rfl; exact absurd known (by decide)
  have fresh : item ≠ 0xFF := by rintro rfl; exact absurd known (by decide)
  rw [State.readStation, if_neg notice, if_neg fresh, if_pos known]

theorem State.readStation_of_unknown {s : State} (a : Addr) {item : Nat} (below : item < 0xFE)
    (unknown : isKnownTag (BitVec.ofNat 8 item) = false) : s.readStation a item = none := by
  rw [State.readStation, if_neg (by omega), if_neg (by omega), if_neg (ne_true_of_eq_false unknown)]

theorem State.readNotice_of_notice {s : State} {a : Addr} {r : StationRecord} {code cls : Byte} (record : s.record a = some r)
    (notice : r.notice = some (code, cls)) : s.readNotice a = [code, cls, 1] := by
  rw [State.readNotice, record, Option.bind_some, notice]

theorem State.readNotice_of_none {s : State} {a : Addr} {r : StationRecord} (record : s.record a = some r)
    (notice : r.notice = none) : s.readNotice a = [0, 0, 0] := by
  rw [State.readNotice, record, Option.bind_some, notice]

theorem argAt_lt (args : List Byte) (i : Nat) : argAt args i < 256 := (args.getD i 0).isLt

/-! ### FORGET_STATION (R51) -/

theorem State.forget_view (s : State) (a : Addr) (held : (s.record a).isSome) : (s.forget a).view = (s.setRecord a none).view := by
  obtain ⟨r, record⟩ := Option.isSome_iff_exists.mp held
  rw [State.forget, record]
  dsimp only
  split
  · exact s.dropLive_view a _ _
  · exact ((s.setRecord a none).freshnessChanged_touches a).at .view

/-- The station is ABSENT, and no other record is touched. -/
theorem State.forget_records (s : State) (a : Addr) : (s.forget a).record a = none ∧
    ∀ b : Addr, b ≠ a → (s.forget a).record b = s.record b := by
  cases held : s.record a with
  | none => rw [State.forget, held]; exact ⟨held, fun _ _ => rfl⟩
  | some r =>
    have view := s.forget_view a (by rw [held]; rfl)
    exact ⟨(State.record_of_view view a).trans (State.record_setRecord_self ..),
      fun b other => (State.record_of_view view b).trans (State.record_setRecord_ne other _)⟩

/-! ### TEST_OUTPUT (R164) -/

theorem outputOf_idx (o : Output) : outputOf o.idx.val = some o := by cases o <;> rfl

theorem outputOf_of_large {n : Nat} (h : 12 ≤ n) : outputOf n = none := List.getElem?_eq_none h

/-- What a set test value leaves, and that it is set. -/
theorem State.setTest_facts (s : State) (o : Output) (v : TestValue) : ((s.setTest o v).channel o).test = v ∧
    (∀ x : Output, ((s.setTest o v).channel x).job = (s.channel x).job ∧
      (x ≠ o → ((s.setTest o v).channel x).test = (s.channel x).test)) ∧
    (s.setTest o v).share = s.share ∧ (s.setTest o v).fault = s.fault ∧ (s.setTest o v).mode = s.mode := by
  let t : State := { s with out := { s.out with channels := s.out.channels.set o.idx { s.channel o with test := v } } }
  have self : t.channel o = { s.channel o with test := v } := Vector.getElem_set_self _
  have others {x : Output} (apart : x ≠ o) : t.channel x = s.channel x :=
    Vector.getElem_set_ne o.idx.isLt x.idx.isLt fun same => apart (Output.idx_inj (Fin.ext same)).symm
  have touches := s.setTest_touches o v
  exact ⟨(t.resolve_test o).trans (congrArg OutputChannel.test self),
    fun x => ⟨touches.at (.job x) (by simp [resolveFacets, wordFacets]), fun apart => (t.resolve_test x).trans (congrArg OutputChannel.test (others apart))⟩,
    touches.share_eq, touches.at .fault, touches.at .mode⟩

/-- The layers below SAFETY give the drive `d` to an output under test value `v` (R162, R164). -/
def State.below (s : State) (o : Output) (v : TestValue) : Drive :=
  match v with
  | .none => (s.followOpinion o).getD (s.channel o).job
  | .off => .off
  | .on => .on
  | .pattern k => .pattern k
  | .follow i => if s.followOn i then .on else .off

theorem State.testOpinion_below {s : State} {v : TestValue} (some : v ≠ .none) (o : Output) : s.testOpinion v = .some (s.below o v) := by
  cases v
  case none => exact absurd rfl some
  all_goals rfl

theorem State.layerResult_of_below {s : State} {o : Output} (free : s.safetyOff o = false) (ungated : s.gated o = false) :
    s.layerResult o = s.below o (s.channel o).test := by
  rw [State.layerResult, if_neg (ne_true_of_eq_false free)]
  by_cases untested : (s.channel o).test = .none
  · rw [untested]
    show (match s.followOpinion o with | .some d => d | .none => (s.channel o).job) = _
    rw [State.below]
    cases s.followOpinion o <;> rfl
  · rw [State.testOpinion_below untested o]
    exact if_neg (ne_true_of_eq_false ungated)

theorem State.gated_iff (s : State) (o : Output) : s.gated o = true ↔ o.claimable = true ∧ (s.channel o).test ≠ .none ∧
    (s.channel o).job = .off ∧ s.below o (s.channel o).test ≠ .off := by
  by_cases untested : (s.channel o).test = .none
  · rw [State.gated, untested]
    simp [State.testOpinion]
  · rw [State.gated, State.testOpinion_below untested o]
    simp [untested, and_assoc]

theorem State.safetyOff_iff (s : State) (o : Output) : s.safetyOff o = true ↔ o.hasSafety = true ∧ s.classA = true :=
  Bool.and_eq_true_iff

/-- What TEST_OUTPUT answers of an output that is off. -/
theorem State.outputState_eq (s : State) (o : Output) : s.outputState o =
    if s.isOn o = true then 1 else if o.hasSafety = true ∧ s.classA = true then 2
    else if o.claimable = true ∧ (s.channel o).test ≠ .none ∧ (s.channel o).job = .off ∧ s.below o (s.channel o).test ≠ .off then 4
    else if s.below o (s.channel o).test ≠ .off ∨ (o = .ef ∧ s.isOn .dh = true) then 3 else 0 := by
  rw [State.outputState]
  refine ite_congr rfl (fun _ => rfl) fun _ => ite_congr (propext (s.safetyOff_iff o)) (fun _ => rfl) fun free =>
    ite_congr (propext (s.gated_iff o)) (fun _ => rfl) fun ungated => ?_
  rw [← s.safetyOff_iff] at free
  rw [← s.gated_iff] at ungated
  rw [State.layerResult_of_below (eq_false_of_ne_true free) (eq_false_of_ne_true ungated)]
  simp

/-! ### RESTART (R187) -/

theorem does_restart {req : Request} {s t : State} (passes : s.passes 16 req) (acts : (s.hears req.src).takeRestart req = t) :
    Does (.restart req) s t := by
  obtain ⟨peer, single, checked⟩ := passes
  refine does_receive rfl peer ?_
  rw [if_neg (ne_true_of_eq_false single), show (s.hears req.src).firstFailure kindRestart req = none from checked]
  exact acts

end Sys2Proof.Machine

open Sys2Proof Sys2Proof.Machine

/-- Settles O60: each request's act is its answer, and an output's state follows from its layers. -/
theorem readingPublishingAndServiceRequestsAct : Obligations.ReadingPublishingAndServiceRequestsAct := by
  intro req s u n item bytes
  refine ⟨fun passes => ⟨fun self => ?_, fun a live single peer is => ?_, fun large other => ?_⟩,
    fun passes notStuck => ⟨fun waits => ?_, fun waits room => ?_, fun waits full => ?_⟩,
    fun passes => ⟨fun bad => ?_, fun a live single peer is => ?_⟩,
    fun passes => ⟨fun bad => ?_, fun o v is value => ⟨fun fails => ?_, fun holds => ?_⟩⟩,
    fun passes notDue notStuck => ⟨fun room => ?_, fun full => ?_⟩⟩
  · have reads : u.readItem n item = u.readSelf item := State.readItem_self self item
    refine ⟨fun tag is => ?_, fun k is => ?_, fun unknown outside => ?_⟩
    · exact answers_of_read passes (reads.trans ((congrArg u.readSelf is).trans (u.readSelf_of_tag tag)))
    · exact answers_of_read passes (reads.trans ((congrArg u.readSelf is).trans (u.readSelf_of_part k)))
    · exact answers_of_no_read passes (reads.trans (State.readSelf_of_unknown unknown outside))
  · have reads : u.readItem n item = u.readStation a item := by
      rw [is]
      exact State.readItem_station live single peer item
    have small : item < 256 := argAt_lt _ _
    refine ⟨fun v known held => ?_, fun known held => ?_, fun fresh => ?_, fun r code cls last record notice => ?_,
      fun r last record notice => ?_, fun unknown below => ?_⟩
    · refine answers_of_read passes ((reads.trans (u.readStation_of_tag a small known)).trans ?_)
      rw [State.readPeer, held]
      rfl
    · refine answers_of_read passes ((reads.trans (u.readStation_of_tag a small known)).trans ?_)
      rw [State.readPeer, held]
    · exact answers_of_read passes (reads.trans (congrArg (u.readStation a) fresh))
    · refine answers_of_read passes ((reads.trans (congrArg (u.readStation a) last)).trans ?_)
      exact congrArg some (State.readNotice_of_notice record notice)
    · refine answers_of_read passes ((reads.trans (congrArg (u.readStation a) last)).trans ?_)
      exact congrArg some (State.readNotice_of_none record notice)
    · exact answers_of_no_read passes (reads.trans (u.readStation_of_unknown a below unknown))
  · exact answers_of_no_read passes (State.readItem_outside large other item)
  · exact answers_of_act rfl passes (congrArg (·, Result.plain resDone) (State.offerStatus_of_waiting notStuck waits))
  · exact answers_of_act rfl passes (congrArg (·, Result.plain resDone) (State.offerStatus_of_open ⟨notStuck, room⟩ waits))
  · exact answers_of_act rfl passes (congrArg (·, Result.plain resDone) (State.offerStatus_of_full notStuck waits full))
  · refine answers_of_act rfl passes ?_
    unfold State.actForgetStation
    by_cases own : n = u.image.ownAddress.toNat
    · cases named : stationOf (argAt req.args 0) with
      | none => rfl
      | some a => exact if_pos (eq_of_stationOf ((congrArg stationOf own).symm.trans named))
    · rw [stationOf_of_outside (by omega)]
      rfl
  · refine ⟨u.forget a, answers_of_act rfl passes ?_, u.forget_records a⟩
    unfold State.actForgetStation
    rw [show argAt req.args 0 = a.toNat from is, stationOf_toNat live single]
    exact if_neg peer
  · refine answers_of_act rfl passes ?_
    unfold State.actTestOutput
    rcases bad with large | wrong
    · rw [outputOf_of_large large]
      rfl
    · rw [wrong]
      cases outputOf (argAt req.args 0) <;> rfl
  · refine answers_of_act rfl passes ?_
    unfold State.actTestOutput
    rw [show argAt req.args 0 = o.idx.val from is, outputOf_idx, value]
    exact if_pos fails
  · obtain ⟨test, jobs, share, fault, mode⟩ := u.setTest_facts o v
    refine ⟨u.setTest o v, answers_of_act rfl passes ?_, test, jobs, share, fault, mode, ?_⟩
    · unfold State.actTestOutput
      rw [show argAt req.args 0 = o.idx.val from is, outputOf_idx, value]
      exact if_neg (ne_true_of_eq_false holds)
    · have state := (u.setTest o v).outputState_eq o
      rw [test] at state
      intro below safety gate interlock
      refine ⟨fun on => state.trans (if_pos on), fun off held => ?_, fun off free closed => ?_, fun off free ungated locked => ?_,
        fun off free ungated unlocked => ?_⟩
      all_goals refine state.trans ((if_neg (ne_true_of_eq_false off)).trans ?_)
      · exact if_pos held
      all_goals refine (if_neg free).trans ?_
      · exact if_pos closed
      all_goals refine (if_neg ungated).trans ?_
      · exact if_pos locked
      · exact if_neg unlocked
  · refine does_restart passes ?_
    rw [State.takeRestart, if_neg notDue, if_pos (by rw [State.takes, room]; exact Bool.or_true _)]
    exact State.offer_of_open (s := { u with start := { u.start with restart := .answering } }) ⟨notStuck, room⟩ _
  · refine does_restart passes ?_
    rw [State.takeRestart, if_neg notDue]
    exact if_neg (by rw [State.takes, full, beq_false_of_ne notStuck]; decide)
end

/-! PROOF. The requests of water, ice and defrost (R102, R126, R127, R129, R155 to R158, R187). -/

section
namespace Sys2Proof.Machine

/-! ### A dispense begins (R126, R127) -/

/-- The record of a dispense that begins. -/
def State.dispenseOf (s : State) (owner : DispenseOwner) (ml : Nat) : Dispense :=
  { owner := owner
    limit := if s.whileApplies .limitDispense then min (requestedLimit ml) warmCap else requestedLimit ml
    capped := s.whileApplies .limitDispense, counted := 0, panelHold := owner == .panel }

/-- The record and its time limit are set. -/
def State.withDispense (s : State) (d : Dispense) : State :=
  { s with water := { s.water with dispense := some d, settling := none, dispenseLimit := some (s.now + 120000000) } }

/-- The path goes to DISPENSING and commands DV. -/
def State.beginDispense (s : State) (d : Dispense) : State :=
  (((s.withDispense d).writeDispensed 0).setPath .dispensing).openValveJob .dv

theorem State.startDispense_eq (s : State) (owner : DispenseOwner) (ml : Nat) : s.startDispense owner ml =
    (if s.water.path = .filling then s.preempt else s).beginDispense
      ((if s.water.path = .filling then s.preempt else s).dispenseOf owner ml) := rfl

def beginFacets : List Facet := writeFacets .dispensedVolume ++ pathFacets ++ commandFacets .dv

theorem State.beginDispense_touches (s : State) (d : Dispense) : Touches beginFacets (s.withDispense d) (s.beginDispense d) :=
  (((s.withDispense d).writeDispensed_touches 0).mono.trans (State.setPath_touches _ _).mono).trans (State.openValveJob_touches _ _).mono

theorem State.beginDispense_facts (s : State) (d : Dispense) : (s.beginDispense d).water.path = .dispensing ∧
    (s.beginDispense d).water.dispense = some d ∧ (s.beginDispense d).water.dispenseLimit = some (s.now + 120000000) ∧
    (s.beginDispense d).water.settling = none ∧ ((s.beginDispense d).channel .dv).job = .pattern 0 ∧
    (s.beginDispense d).own .dispensedVolume = 0 ∧ (s.beginDispense d).water.current = s.water.current ∧
    (s.beginDispense d).water.held = s.water.held ∧
    ∀ m : Mold, ((s.beginDispense d).channel m.valve).job = (s.channel m.valve).job := by
  let u : State := (s.withDispense d).writeDispensed 0
  let v : State := u.setPath .dispensing
  have toU : Touches (writeFacets .dispensedVolume) (s.withDispense d) u := State.writeDispensed_touches _ 0
  have toV : Touches pathFacets u v := u.setPath_touches _
  have toT : Touches (commandFacets .dv) v (s.beginDispense d) := v.command_touches .dv _
  have whole := s.beginDispense_touches d
  obtain ⟨dispense, -, limit, settling⟩ : Facet.kept .dispense _ _ := whole.at .dispense
  obtain ⟨-, current, held, -⟩ : Facet.kept .fills _ _ := whole.at .fills
  have path : v.water.path = .dispensing := State.setPath_path _ _
  have own : u.own .dispensedVolume = 0 := State.writeDispensed_own _ 0
  have ownV : v.own .dispensedVolume = u.own .dispensedVolume := toV.at (.own .dispensedVolume)
  have ownT : (s.beginDispense d).own .dispensedVolume = v.own .dispensedVolume := toT.at (.own .dispensedVolume)
  exact ⟨(toT.at .path).trans path, dispense, limit, settling, State.command_job_self _ _ _, ownT.trans (ownV.trans own), current,
    held, fun m => whole.at (.job m.valve) (by cases m <;> decide)⟩

/-- A fill under way is held for after the dispense. -/
theorem State.preempt_facts {s : State} {f : Fill} (current : s.water.current = some f) : s.preempt.water.current = none ∧
    s.preempt.water.held = some { f with openMs := s.fillOpenMs } ∧ (s.preempt.channel f.mold.valve).job = .off := by
  obtain ⟨-, -, -, -, -, -, -, job⟩ := s.closeFill_facts f
  rw [State.preempt, current]
  exact ⟨rfl, rfl, job⟩

/-- A panel's dispense begins, and a fill under way is held. -/
theorem State.startDispense_facts (s : State) (ml : Nat) : ∃ p, (s.startDispense .panel ml).water.dispense = some p ∧
    (s.startDispense .panel ml).water.path = .dispensing ∧ p.owner = .panel ∧ p.counted = 0 ∧ p.panelHold = true ∧
    p.limit = (if p.capped then min (requestedLimit ml) 76800 else requestedLimit ml) ∧
    (s.water.path ≠ .filling → p.capped = s.whileApplies .limitDispense) ∧
    (s.startDispense .panel ml).water.dispenseLimit = some (s.now + 120000000) ∧
    (s.startDispense .panel ml).water.settling = none ∧ ((s.startDispense .panel ml).channel .dv).job = .pattern 0 ∧
    (s.startDispense .panel ml).own .dispensedVolume = 0 ∧
    ∀ f, s.water.path = .filling → s.water.current = some f → (s.startDispense .panel ml).water.current = none ∧
      (s.startDispense .panel ml).water.held = some { f with openMs := s.fillOpenMs } ∧
      ((s.startDispense .panel ml).channel f.mold.valve).job = .off := by
  rw [State.startDispense_eq]
  by_cases filling : s.water.path = .filling
  · rw [if_pos filling]
    have now : s.preempt.now = s.now := s.preempt_touches.at .now
    obtain ⟨path, dispense, limit, settling, job, own, current, held, valves⟩ :=
      s.preempt.beginDispense_facts (s.preempt.dispenseOf .panel ml)
    rw [now] at limit
    refine ⟨_, dispense, path, rfl, rfl, rfl, rfl, fun no => absurd filling no, limit, settling, job, own, fun f _ fill => ?_⟩
    obtain ⟨none', held', off⟩ := State.preempt_facts fill
    exact ⟨current.trans none', held.trans held', (valves f.mold).trans off⟩
  · rw [if_neg filling]
    obtain ⟨path, dispense, limit, settling, job, own, -⟩ := s.beginDispense_facts (s.dispenseOf .panel ml)
    exact ⟨_, dispense, path, rfl, rfl, rfl, rfl, fun _ => rfl, limit, settling, job, own, fun _ yes => absurd yes filling⟩

/-! ### DISPENSE_WATER (R126, R127) -/

theorem actDispenseWater_of_ready {req : Request} {s : State} (fits : arg16 req.args 0 ≤ 2000) (source : s.image.source ≠ .line)
    (free : s.water.path ≠ .locked) (rests : s.water.path ≠ .dispensing) : s.actDispenseWater req =
      if s.sourceReady then (s.startDispense .panel (arg16 req.args 0), .plain ((s.startDispense .panel (arg16 req.args 0)).startAnswer (arg16 req.args 0)))
      else (s, .plain resNotReady) := by
  unfold State.actDispenseWater
  dsimp only
  rw [if_neg (by omega), if_neg source]
  cases path : s.water.path
  case locked => exact absurd path free
  case dispensing => exact absurd path rests
  all_goals rfl

theorem actDispenseWater_of_dispensing {req : Request} {s : State} {d : Dispense} (fits : arg16 req.args 0 ≤ 2000)
    (source : s.image.source ≠ .line) (runs : s.water.path = .dispensing) (held : s.water.dispense = some d) :
    s.actDispenseWater req = if d.owner = .panel then
      (s.updateDispense d (arg16 req.args 0), .plain (updateAnswer d (arg16 req.args 0))) else (s, .plain resBusy) := by
  unfold State.actDispenseWater
  dsimp only
  rw [if_neg (by omega), if_neg source, runs]
  dsimp only
  rw [held]

/-- An update that the volume counted does not reach yet. -/
theorem State.updateDispense_of_less {s : State} {d : Dispense} {ml : Nat}
    (less : d.counted < if d.capped then min (requestedLimit ml) 76800 else requestedLimit ml) :
    s.updateDispense d ml = { s with water := { s.water with dispense := some { d with
      limit := max (if d.capped then min (requestedLimit ml) 76800 else requestedLimit ml) d.counted
      panelHold := d.panelHold || s.panelReady } } } :=
  if_neg (Nat.not_le.mpr less)

/-- An update to a limit that is already counted stops the dispense. -/
theorem State.updateDispense_of_reached {s : State} {d : Dispense} {ml : Nat}
    (reached : (if d.capped then min (requestedLimit ml) 76800 else requestedLimit ml) ≤ d.counted) :
    (s.updateDispense d ml).water.path = .settling ∧ (s.updateDispense d ml).water.dispense = none ∧
    (s.updateDispense d ml).water.settling = some (s.now + 3000000) ∧ ((s.updateDispense d ml).channel .dv).job = .off := by
  let u : State := { s with water := { s.water with dispense := some { d with
    limit := max (if d.capped then min (requestedLimit ml) 76800 else requestedLimit ml) d.counted
    panelHold := d.panelHold || s.panelReady } } }
  have stops : s.updateDispense d ml = u.stopDispense := if_pos reached
  obtain ⟨path, settling, dispense, -, -, -, -, -, job⟩ := State.stopDispense_facts (s := u) rfl
  rw [stops]
  exact ⟨path, dispense, settling, job⟩

/-! ### The auger (R156 to R158) -/

/-- A claim for AUG is placed, and the auger waits in CLAIMING. -/
theorem State.claimAuger_facts {s : State} (free : s.asksFreely .aug) : ∃ e, s.claimAuger.ice.auger = .claiming ∧
    s.claimAuger.entryOf .aug = some e ∧ e.amps = s.image.augAmps ∧ e.cls = 1 ∧ e.retryAt = none := by
  have touches := s.setAuger_touches .claiming
  have share : (s.setAuger .claiming).share = s.share := touches.share_eq
  have fault : (s.setAuger .claiming).fault = s.fault := touches.at .fault
  have auger : (s.setAuger .claiming).ice.auger = .claiming :=
    congrArg Ice.auger (State.lamp_touches { s with ice := { s.ice with auger := .claiming } }).ice_eq
  have free' : (s.setAuger .claiming).asksFreely .aug :=
    ⟨(State.holdsFor_of_share share .aug).trans free.1, by rw [State.classA, fault]; exact free.2⟩
  obtain ⟨cls, dhClass, asks, entry, base⟩ := State.ask_of_free free' s.image.augAmps
  refine ⟨_, ?_, entry, rfl, base (by decide), rfl⟩
  rw [State.claimAuger, asks]
  exact auger

/-- What is held for an operation is gone after a withdrawal. -/
theorem State.withdraw_frees (s : State) (op : LoadOp) : (∀ g ∈ (s.withdraw op).share.grants, g.op ≠ some op) ∧
    (s.withdraw op).entryOf op = none ∧ (s.withdraw op).suspensionOf op = none := by
  let u : State := if ((s.dropEntry op).flightOf op).isSome then (s.dropEntry op).cancelFlight else s.dropEntry op
  have queue : u.share.queue = s.share.queue.filter fun e => e.op != op := by
    have cancelled (t : State) : t.cancelFlight.share.queue = t.share.queue := by
      unfold State.cancelFlight; split
      · rfl
      · split <;> rfl
    show (if _ then _ else _ : State).share.queue = _
    split
    · exact cancelled _
    · rfl
  have released : (u.releaseLoad op).share.queue = u.share.queue := (u.releaseLoad_touches op).at .claims
  have grants := u.releaseLoad_grants_ne op
  have run : s.withdraw op = (u.releaseLoad op).dropSuspension op := rfl
  rw [run]
  generalize u.releaseLoad op = v at *
  have kept : (v.dropSuspension op).share.grants = v.share.grants ∧ (v.dropSuspension op).share.queue = v.share.queue :=
    ⟨(v.dropSuspension_touches op).at .grants, (v.dropSuspension_touches op).at .claims⟩
  obtain ⟨keptGrants, keptQueue⟩ := kept
  refine ⟨by rw [keptGrants]; exact grants, ?_, ?_⟩
  · rw [State.entryOf, keptQueue, released, queue, List.find?_eq_none]
    intro e mem
    simpa using (List.mem_filter.mp mem).2
  · unfold State.dropSuspension
    split
    · have gone (t : State) (h : t.share.suspended = v.share.suspended.filter fun r => r.op != op) : t.suspensionOf op = none := by
        rw [State.suspensionOf, h, List.find?_eq_none]
        intro r mem
        simpa using (List.mem_filter.mp mem).2
      dsimp only
      split
      · exact gone _ rfl
      · exact gone _ rfl
    · rename_i notHeld
      simpa using notHeld

theorem State.grantOf_none {s : State} {op : LoadOp} (h : ∀ g ∈ s.share.grants, g.op ≠ some op) : s.grantOf op = none := by
  rw [State.grantOf, List.find?_eq_none]
  intro g mem
  simpa using h g mem

/-- The auger's end, from CLAIMING or RUNNING. -/
theorem State.endAuger_facts {s : State} (active : s.ice.auger ≠ .idle) : s.endAuger.ice.auger = .idle ∧
    s.endAuger.ice.runTimer = none ∧ (s.endAuger.channel .aug).job = .off ∧
    (∀ g ∈ s.endAuger.share.grants, g.op ≠ some .aug) ∧ (s.ice.auger = .claiming → s.endAuger.entryOf .aug = none) := by
  have ends (t : State) (grants : ∀ g ∈ t.share.grants, g.op ≠ some .aug) : t.augerOff.ice.auger = .idle ∧
      t.augerOff.ice.runTimer = none ∧ (t.augerOff.channel .aug).job = .off ∧ ∀ g ∈ t.augerOff.share.grants, g.op ≠ some .aug := by
    obtain ⟨ice, job⟩ := t.augerOff_facts
    have share : t.augerOff.share = t.share := t.augerOff_touches.share_eq
    rw [ice, share]
    exact ⟨rfl, rfl, job, grants⟩
  cases state : s.ice.auger with
  | idle => exact absurd state active
  | claiming =>
    obtain ⟨grants, entry, -⟩ := s.withdraw_frees .aug
    obtain ⟨auger, timer, job, freed⟩ := ends _ grants
    have share : (s.withdraw .aug).augerOff.share = (s.withdraw .aug).share := (State.augerOff_touches _).share_eq
    rw [State.endAuger, state]
    exact ⟨auger, timer, job, freed, fun _ => by rw [State.entryOf, share]; exact entry⟩
  | running =>
    obtain ⟨auger, timer, job, freed⟩ := ends _ ((s.command .aug .off).releaseLoad_grants_ne .aug)
    rw [State.endAuger, state]
    exact ⟨auger, timer, job, freed, fun no => absurd no (by decide)⟩

/-! ### The defrost (R102, R187) -/

/-- A hold attempt begun leads to HOLD_WAIT or on to PUMP_DOWN, and leaves the inhibit timer. -/
theorem State.beginHold_states (s : State) : (s.beginHold.defrost.state = .holdWait ∨ s.beginHold.defrost.state = .pumpDown) ∧
    s.beginHold.defrost.inhibit = s.defrost.inhibit := by
  obtain ⟨u, record, -, begins⟩ := s.beginHold_cases
  have waits : u.defrost.state = .holdWait ∧ u.defrost.inhibit = s.defrost.inhibit := by rw [record]; exact ⟨rfl, rfl⟩
  rcases begins with e | e <;> rw [e]
  · exact ⟨.inl waits.1, waits.2⟩
  · unfold State.holdCheck
    repeat' split
    · rw [State.enterPumpDown_defrost]; exact ⟨.inr rfl, waits.2⟩
    · rw [State.enterPumpDown_defrost]; exact ⟨.inr rfl, waits.2⟩
    · exact ⟨.inl waits.1, waits.2⟩
    · exact ⟨.inl waits.1, waits.2⟩

/-- The inhibit timer stopped: a demand that nothing else holds in PENDING goes on. -/
theorem State.stopInhibit_facts (s : State) : s.stopInhibit.defrost.inhibit = none ∧
    (s.defrost.state ≠ .pending → s.stopInhibit = { s with defrost := { s.defrost with inhibit := none } }) ∧
    (s.defrost.inhibit ≠ none → s.defrost.state = .pending → s.mode ≠ .showroom → s.classA = false → s.defrost.holdRetry = none →
      s.stopInhibit.defrost.state = .holdWait ∨ s.stopInhibit.defrost.state = .pumpDown) := by
  let u : State := { s with defrost := { s.defrost with inhibit := none } }
  cases timer : s.defrost.inhibit with
  | none =>
    have same : s.stopInhibit = s := by rw [State.stopInhibit, timer]
    have already : s = u := by rw [show u = { s with defrost := { s.defrost with inhibit := s.defrost.inhibit } } by rw [timer]]
    rw [same]
    exact ⟨timer, fun _ => already, fun no => absurd rfl no⟩
  | some due =>
    have run : s.stopInhibit = u.leaveTest := by rw [State.stopInhibit, timer]
    rw [run]
    refine ⟨?_, fun other => State.leaveTest_of_stays fun leaves => other leaves.1, fun _ pending mode live retry => ?_⟩
    · by_cases leaves : u.leaves
      · rw [State.leaveTest_of_leaves leaves]
        exact u.beginHold_states.2
      · rw [State.leaveTest_of_stays leaves]
    · have leaves : u.leaves := ⟨pending, mode, live, rfl, retry⟩
      rw [State.leaveTest_of_leaves leaves]
      exact u.beginHold_states.1

/-! ### MOLD_ENABLE (R155) -/

/-- The mold has no fill in the queue, held or under way. -/
theorem State.fillKnown_false {s : State} {m : Mold} : s.fillKnown m = false ↔ (∀ f ∈ s.water.queue, f.mold ≠ m) ∧
    (∀ f, s.water.current = some f → f.mold ≠ m) ∧ ∀ f, s.water.held = some f → f.mold ≠ m := by
  rw [State.fillKnown, Bool.or_eq_false_iff, Bool.or_eq_false_iff, and_assoc]
  refine and_congr (by simp) (and_congr ?_ ?_)
  · cases s.water.current <;> simp
  · cases s.water.held <;> simp

theorem State.startTest_fillKnown {s : State} {m : Mold} (unknown : s.fillKnown m = false) : s.startTest.fillKnown m = false := by
  obtain ⟨queue, current, held⟩ := State.fillKnown_false.mp unknown
  have opens (t : State) (f : Fill) (queue : ∀ g ∈ t.water.queue, g.mold ≠ m) (held : ∀ g, t.water.held = some g → g.mold ≠ m)
      (other : f.mold ≠ m) : (t.openFill f).fillKnown m = false := by
    obtain ⟨-, current', queue', held', -⟩ := t.openFill_facts f
    rw [State.fillKnown_false, current', queue', held']
    exact ⟨queue, fun g same => Option.some.inj same ▸ other, held⟩
  have rests (p : PathState) : (s.setPath p).fillKnown m = false := by
    obtain ⟨queue', current', held', -⟩ : Facet.kept .fills s (s.setPath p) := (s.setPath_touches p).at .fills
    rw [State.fillKnown_false, queue', current', held']
    exact ⟨queue, current, held⟩
  unfold State.startTest
  split
  · split
    · rename_i f is
      exact opens _ f queue (fun g no => nomatch no) (held f is)
    · rename_i f rest none' is
      rw [is] at queue
      exact opens _ _ (fun g mem => queue g (.tail _ mem)) held (queue f (.head _))
    · exact rests _
  · exact rests _

theorem State.withdrawFill_fillKnown (s : State) (m : Mold) : (s.withdrawFill m).fillKnown m = false := by
  have queued (f : Fill) (mem : f ∈ s.water.queue.filter fun f => f.mold != m) : f.mold ≠ m := by
    simpa using (List.mem_filter.mp mem).2
  have held (f : Fill) (is : (match s.water.held with | some f => if f.mold = m then none else some f | none => none) = some f) :
      f.mold ≠ m := by
    split at is
    · split at is
      · exact nomatch is
      · rename_i g other
        exact Option.some.inj is ▸ other
    · exact nomatch is
  let u : State := { s with water := { s.water with
    queue := s.water.queue.filter fun f => f.mold != m
    held := match s.water.held with | some f => if f.mold = m then none else some f | none => none } }
  have withdrawn : s.withdrawFill m = match u.water.current with
    | some f => if f.mold = m then
        State.startTest { u.closeFill f with water := { (u.closeFill f).water with current := none } } else u
    | none => u := rfl
  rw [withdrawn]
  cases is : u.water.current with
  | none => exact State.fillKnown_false.mpr ⟨queued, fun g same => absurd (is.symm.trans same) (by simp), held⟩
  | some f =>
    by_cases same : f.mold = m
    · refine (congrArg (State.fillKnown · m) (if_pos same)).trans (State.startTest_fillKnown (State.fillKnown_false.mpr ?_))
      obtain ⟨-, queue, -, held', -⟩ := u.closeFill_facts f
      refine ⟨?_, fun g no => absurd no (by simp), ?_⟩
      · show ∀ g ∈ (u.closeFill f).water.queue, g.mold ≠ m
        rw [queue]
        exact queued
      · show ∀ g, (u.closeFill f).water.held = some g → g.mold ≠ m
        rw [held']
        exact held
    · refine (congrArg (State.fillKnown · m) (if_neg same)).trans (State.fillKnown_false.mpr ⟨queued, fun g is' => ?_, held⟩)
      exact Option.some.inj (is.symm.trans is') ▸ same

theorem moldOf_byte {n : Nat} {m : Mold} (is : n = (match m with | .a => 0 | .b => 1)) : moldOf n = some m := by
  subst is
  cases m <;> rfl

theorem moldOf_of_large {n : Nat} (h : 1 < n) : moldOf n = none := by
  match n with
  | n + 2 => rfl

theorem actMoldEnable_of_off {req : Request} {s : State} {m : Mold} (is : argAt req.args 0 = (match m with | .a => 0 | .b => 1))
    (off : argAt req.args 1 = 0) : s.actMoldEnable req = (s.disableMold m, .plain resDone) := by
  rw [State.actMoldEnable, moldOf_byte is, off]
  rfl

theorem actMoldEnable_of_on {req : Request} {s : State} {m : Mold} (is : argAt req.args 0 = (match m with | .a => 0 | .b => 1))
    (on : argAt req.args 1 = 1) : s.actMoldEnable req = (s.enableMold m, .plain resDone) := by
  rw [State.actMoldEnable, moldOf_byte is, on]
  rfl

theorem actMoldEnable_of_other {req : Request} {s : State} {m : Mold} (is : argAt req.args 0 = (match m with | .a => 0 | .b => 1))
    (other : 1 < argAt req.args 1) : s.actMoldEnable req = (s, .plain resBadArgument) := by
  rw [State.actMoldEnable, moldOf_byte is]
  obtain ⟨n, value⟩ := Nat.exists_eq_add_of_lt other
  rw [value, show 1 + n + 1 = n + 2 by omega]
  rfl

/-- The timers of a mold stopped. -/
def MoldRecord.untimed (r : MoldRecord) : MoldRecord :=
  { r with fillRetry := none, leastFreeze := none, timedFreeze := none, heatSecond := none, eject := none, stallWait := none }

/-- MOLD_ENABLE off: the mold OUT_OF_SERVICE, its fill, claim, grant and suspension gone. -/
theorem State.disableMold_facts {s : State} {m : Mold} (serves : (s.mold m).state ≠ .outOfService) :
    ((s.disableMold m).mold m).state = .outOfService ∧ ((s.disableMold m).mold m).suspended = false ∧
    (s.disableMold m).fillKnown m = false ∧ ((s.disableMold m).channel m.heater).job = .off ∧
    ((s.disableMold m).channel m.ejector).job = .off ∧ (s.disableMold m).grantOf m.op = none ∧
    (s.disableMold m).entryOf m.op = none ∧ (s.disableMold m).suspensionOf m.op = none := by
  let u : State := (s.moldOff m).setMold m ((s.moldOff m).mold m).untimed
  let v : State := u.withdrawFill m
  let w : State := v.withdraw m.op
  have run : s.disableMold m = w.setMold m { w.mold m with suspended := false, resumeEject := false, state := .outOfService } :=
    if_neg serves
  obtain ⟨-, heater, ejector, -⟩ := s.moldOff_facts m
  have toU : u.out = (s.moldOff m).out := State.setMold_out ..
  have toV : Touches (closesFacets ++ startTestFacets) u v := u.withdrawFill_touches m
  have toW : Touches withdrawFacets v w := v.withdraw_touches m.op
  have unknown : v.fillKnown m = false := u.withdrawFill_fillKnown m
  obtain ⟨queue, current, held, -⟩ : Facet.kept .fills v w := toW.at .fills
  obtain ⟨grants, entry, suspension⟩ : _ ∧ w.entryOf m.op = none ∧ w.suspensionOf m.op = none := v.withdraw_frees m.op
  have heater' : (w.channel m.heater).job = .off := (toW.at (.job m.heater) (by cases m <;> decide)).trans
    ((toV.at (.job m.heater) (by cases m <;> decide)).trans ((congrArg (fun out => out.channels[m.heater.idx].job) toU).trans heater))
  have ejector' : (w.channel m.ejector).job = .off := (toW.at (.job m.ejector) (by cases m <;> decide)).trans
    ((toV.at (.job m.ejector) (by cases m <;> decide)).trans ((congrArg (fun out => out.channels[m.ejector.idx].job) toU).trans ejector))
  have known : w.fillKnown m = false := by
    rw [State.fillKnown_false] at unknown ⊢
    rw [queue, current, held]
    exact unknown
  have grant : w.grantOf m.op = none := State.grantOf_none grants
  rw [run]
  generalize w = t at *
  let r : MoldRecord := { t.mold m with suspended := false, resumeEject := false, state := .outOfService }
  have record : (t.setMold m r).mold m = r := State.setMold_mold ..
  have share : (t.setMold m r).share = t.share := State.setMold_share ..
  have out : (t.setMold m r).out = t.out := State.setMold_out ..
  have water : (t.setMold m r).water = t.water := State.setMold_water ..
  refine ⟨congrArg MoldRecord.state record, congrArg MoldRecord.suspended record, ?_, ?_, ?_, ?_, ?_, ?_⟩
  · rw [State.fillKnown_false] at known ⊢
    rw [water]
    exact known
  · exact (congrArg (fun out => out.channels[m.heater.idx].job) out).trans heater'
  · exact (congrArg (fun out => out.channels[m.ejector.idx].job) out).trans ejector'
  · rw [State.grantOf, share]; exact grant
  · rw [State.entryOf, share]; exact entry
  · rw [State.suspensionOf, share]; exact suspension

/-- MOLD_ENABLE on: FREEZING with a full fill owed. -/
theorem State.enableMold_record {s : State} {m : Mold} (out : (s.mold m).state = .outOfService) : (s.enableMold m).mold m =
    { s.mold m with
      stalls := 0, heatSeconds := 0, attempt := 1, owed := s.image.fillTargetMl * 256, short := false
      state := .freezing, leastFreeze := some (s.now + 2400000000), timedFreeze := some (s.now + 5400000000) } := by
  have run : s.enableMold m = (s.setMold m { s.mold m with
      stalls := 0, heatSeconds := 0, attempt := 1, owed := s.fillTarget, short := false }).enterFreezing m := if_pos out
  rw [run, State.enterFreezing_record, State.setMold_mold, State.setMold_now]
  rfl

end Sys2Proof.Machine

open Sys2Proof Sys2Proof.Machine

/-- Settles O58: each request of water, ice and defrost by the state it finds. -/
theorem waterIceAndDefrostRequestsAct : Obligations.WaterIceAndDefrostRequestsAct := by
  intro req s u ml asked
  have now : u.now = s.now := s.hears_now req.src
  refine ⟨fun passes => ⟨fun large => ?_, fun fits source => ?_, fun fits source locked => ?_, fun fits source free rests not => ?_,
      fun fits source free rests ready => ?_, ?_⟩,
    fun passes => ⟨fun idle => ?_, fun p held => ?_⟩,
    fun passes => ⟨fun idle held free => ?_, fun idle live => ?_, fun idle live not => ?_, fun claiming => ?_, fun running => ?_⟩,
    fun passes => ⟨fun idle => ?_, fun active => ?_⟩,
    fun passes => ⟨fun idle => ?_, fun pending => ?_, fun notIdle notPending => ?_⟩,
    fun passes => ⟨fun large => ?_, fun fits some => ?_, fun zero => ?_⟩,
    fun passes other => ?_,
    fun passes m is => ⟨fun off serves => ?_, fun on out => ?_, fun other => ?_⟩⟩
  · exact answers_of_act rfl passes (if_pos large)
  · refine answers_of_act rfl passes ?_
    unfold State.actDispenseWater
    dsimp only
    rw [if_neg (Nat.not_lt.mpr fits)]
    exact if_pos source
  · refine answers_of_act rfl passes ?_
    unfold State.actDispenseWater
    dsimp only
    rw [if_neg (Nat.not_lt.mpr fits), if_neg source, show (s.hears req.src).water.path = .locked from locked]
    rfl
  · refine answers_of_act rfl passes ((actDispenseWater_of_ready fits source free rests).trans (if_neg (ne_true_of_eq_false not)))
  · obtain ⟨p, dispense, path, owner, counted, hold, limit, capped, due, settling, job, own, held⟩ := u.startDispense_facts ml
    rw [now] at due
    refine ⟨u.startDispense .panel ml, p, answers_of_act rfl passes ?_, path, dispense, owner, counted, hold, limit, capped, due, settling,
      job, own, held⟩
    refine (actDispenseWater_of_ready fits source free rests).trans ((if_pos ready).trans ?_)
    have answer : (u.startDispense .panel ml).startAnswer ml = if p.limit < asked then 2 else 0 := by
      rw [State.startAnswer, dispense]
      rfl
    exact congrArg (fun code => (u.startDispense .panel ml, Result.plain code)) answer
  · intro fits source runs p held limit code next
    have acts := actDispenseWater_of_dispensing (req := req) fits source runs held
    have answer : updateAnswer p ml = code := rfl
    refine ⟨fun line => ?_, fun panel less => ?_, fun panel reached => ?_⟩
    · exact answers_of_act rfl passes (acts.trans (if_neg (by rw [line]; decide)))
    · refine answers_of_act rfl passes (acts.trans ((if_pos panel).trans ?_))
      rw [State.updateDispense_of_less less]
      rfl
    · obtain ⟨path, dispense, settling, job⟩ := State.updateDispense_of_reached (s := u) reached
      rw [now] at settling
      exact ⟨_, answers_of_act rfl passes (acts.trans (if_pos panel)), path, dispense, settling, job⟩
  · have still : u.stopDispense = u := by rw [State.stopDispense, idle]
    exact answers_of_act rfl passes (congrArg (·, Result.plain resDone) still)
  · obtain ⟨path, settling, dispense, -, -, -, -, own, job⟩ := State.stopDispense_facts held
    rw [now] at settling
    exact ⟨_, answers_of_act rfl passes rfl, path, dispense, settling, job, own⟩
  · obtain ⟨e, auger, entry, amps, cls, retry⟩ := State.claimAuger_facts free
    refine ⟨u.claimAuger, e, answers_of_act rfl passes ?_, auger, entry, amps, cls, retry⟩
    rw [State.actDispenseIce, show (s.hears req.src).ice.auger = .idle from idle]
    exact (if_neg (ne_true_of_eq_false free.2)).trans (if_pos held)
  · refine answers_of_act rfl passes ?_
    rw [State.actDispenseIce, show (s.hears req.src).ice.auger = .idle from idle]
    exact if_pos live
  · refine answers_of_act rfl passes ?_
    rw [State.actDispenseIce, show (s.hears req.src).ice.auger = .idle from idle]
    exact (if_neg (ne_true_of_eq_false live)).trans (if_neg (ne_true_of_eq_false not))
  · refine answers_of_act rfl passes ?_
    rw [State.actDispenseIce, show (s.hears req.src).ice.auger = .claiming from claiming]
    rfl
  · refine answers_of_act rfl passes ?_
    rw [State.actDispenseIce, show (s.hears req.src).ice.auger = .running from running]
    rfl
  · have still : u.endAuger = u := by rw [State.endAuger, idle]
    exact answers_of_act rfl passes (congrArg (·, Result.plain resDone) still)
  · exact ⟨u.endAuger, answers_of_act rfl passes rfl, State.endAuger_facts active⟩
  · obtain ⟨leaves, waits⟩ := State.demand_of_idle idle
    refine ⟨u.demand, answers_of_act rfl passes ?_, leaves, waits⟩
    rw [State.actDefrostNow, State.demandOutcome, show (s.hears req.src).defrost.state = .idle from idle]
    rfl
  · refine answers_of_act rfl passes ?_
    rw [State.actDefrostNow, State.demand_of_not_idle (by rw [show (s.hears req.src).defrost.state = .pending from pending]; decide),
      State.demandOutcome, show (s.hears req.src).defrost.state = .pending from pending]
    rfl
  · refine answers_of_act rfl passes ?_
    have not : State.demandOutcome u = .notTaken := by
      rw [State.demandOutcome]
      cases state : u.defrost.state
      case idle => exact absurd state notIdle
      case pending => exact absurd state notPending
      all_goals rfl
    rw [State.actDefrostNow, State.demand_of_not_idle notIdle, show (s.hears req.src).demandOutcome = .notTaken from not]
    rfl
  · exact answers_of_act rfl passes (if_pos large)
  · refine answers_of_act rfl passes ((if_neg (Nat.not_lt.mpr fits)).trans ((if_neg some).trans ?_))
    rw [← now]
    rfl
  · refine ⟨u.stopInhibit, answers_of_act rfl passes ((if_neg (by omega)).trans (if_pos zero)), u.stopInhibit_facts⟩
  · refine answers_of_act rfl passes ?_
    rw [State.actMoldEnable, moldOf_of_large other]
    rfl
  · exact ⟨u.disableMold m, answers_of_act rfl passes (actMoldEnable_of_off is off), State.disableMold_facts serves⟩
  · have record := State.enableMold_record out
    rw [now] at record
    refine ⟨u.enableMold m, answers_of_act rfl passes (actMoldEnable_of_on is on), ?_⟩
    rw [record]
    exact ⟨rfl, rfl, rfl, rfl, rfl, rfl, rfl, rfl⟩
  · exact answers_of_act rfl passes (actMoldEnable_of_other is other)
end

/-! PROOF. SET_MODE and CLEAR_FAULT (R101, R145, R174, R178, R179, R188, R189). -/

section
namespace Sys2Proof.Machine

/-! ### Entry to SHOWROOM (R118, R189) -/

/-- What the end of a hold attempt or of heating by SHOWROOM may touch. -/
def showroomFacets : List Facet := .job .dh :: dripFacets ++ withdrawFacets ++ ownRequestFacets

/-- The end of a hold attempt or of heating by SHOWROOM: PENDING or DRIP, and nothing held where nothing was. -/
theorem State.showroomDefrost_facts (s : State) : (s.showroomDefrost.defrost.state = .idle ∨ s.showroomDefrost.defrost.state = .pending ∨
      s.showroomDefrost.defrost.state = .drip ∨ s.showroomDefrost.defrost.state = .recovery) ∧
    Touches showroomFacets s s.showroomDefrost ∧ (s.released → s.showroomDefrost.released) := by
  have waits (h : s.defrost.state = .holdWait ∨ s.defrost.state = .pumpDown ∨ s.defrost.state = .heatClaim) :
      s.showroomDefrost.defrost.state = .pending ∧ Touches showroomFacets s s.showroomDefrost ∧
      (s.released → s.showroomDefrost.released) := by
    let u : State := { s with defrost := { s.defrost with
      answer := none, speed := none, renew := none, dwell := none, outstanding := none } }
    let v : State := (u.withdraw .dh).offerReleaseCompressor
    have run : s.showroomDefrost = State.setDefrost { v with defrost := { v.defrost with hold := .none } } .pending := by
      rcases h with e | e | e <;> rw [State.showroomDefrost, e]
    have toU : Touches showroomFacets s u := Touches.defrost s _
    rw [run]
    refine ⟨by rw [State.setDefrost_defrost], ((((toU.trans (u.withdraw_touches .dh).mono)).trans
      (State.offerReleaseCompressor_touches _).mono).trans (Touches.defrost _ _)).trans (State.setDefrost_touches _ _).mono, fun held => ?_⟩
    have withdrawn : (u.withdraw .dh).released := State.withdraw_released (s := u) held .dh
    have sent : v.released := State.released_of_share (State.offerOwnRequest_share _ _ _) withdrawn
    exact (State.setDefrost_touches _ _).released sent
  have heats (h : s.defrost.state = .heating ∨ s.defrost.state = .paused) :
      s.showroomDefrost.defrost.state = .drip ∧ Touches showroomFacets s s.showroomDefrost ∧
      (s.released → s.showroomDefrost.released) := by
    have run : s.showroomDefrost = (s.heaterOff.withdraw .dh).enterDrip := by
      rcases h with e | e <;> rw [State.showroomDefrost, e]
    rw [run]
    refine ⟨by rw [State.enterDrip_defrost], (s.heaterOff_touches.mono.trans (State.withdraw_touches _ _).mono).trans
      (State.enterDrip_touches _).mono, fun held => ?_⟩
    exact (State.enterDrip_touches _).released (State.withdraw_released (s.heaterOff_touches.released held) .dh)
  cases e : s.defrost.state with
  | holdWait => exact (waits (.inl e)).imp_left fun h => .inr (.inl h)
  | pumpDown => exact (waits (.inr (.inl e))).imp_left fun h => .inr (.inl h)
  | heatClaim => exact (waits (.inr (.inr e))).imp_left fun h => .inr (.inl h)
  | heating => exact (heats (.inl e)).imp_left fun h => .inr (.inr (.inl h))
  | paused => exact (heats (.inr e)).imp_left fun h => .inr (.inr (.inl h))
  | idle | pending | drip | recovery =>
    have run : s.showroomDefrost = s := by rw [State.showroomDefrost, e]
    rw [run, e]
    exact ⟨by decide, .refl _ s, id⟩

/-- What the entry to SHOWROOM may touch. -/
def showroomEntryFacets : List Facet := augerFacets ++ showroomFacets ++ abortsFacets ++ stopFacets

theorem State.enterShowroom_enters (s : State) : Touches showroomEntryFacets s s.enterShowroom :=
  (((s.generalRelease_touches.mono.trans (State.augerAborted_touches _).mono).trans (State.showroomDefrost_facts _).2.1.mono).trans
    (State.abortMolds_touches _).mono).trans (State.stopDispense_touches _).mono

theorem State.stopDispense_dispense (s : State) : s.stopDispense.water.dispense = none := by
  cases running : s.water.dispense with
  | none => rw [State.stopDispense, running]; exact running
  | some d => exact (State.stopDispense_facts running).2.2.1

/-- Everything is released and ended at the entry to SHOWROOM. -/
theorem State.enterShowroom_facts {s : State} (showroom : s.mode = .showroom) : s.enterShowroom.released ∧
    s.enterShowroom.water.dispense = none ∧ s.enterShowroom.ice.auger = .idle ∧
    (∀ m : Mold, (s.enterShowroom.mold m).state.inHarvest = false) ∧
    (s.enterShowroom.defrost.state = .idle ∨ s.enterShowroom.defrost.state = .pending ∨ s.enterShowroom.defrost.state = .drip ∨
      s.enterShowroom.defrost.state = .recovery) := by
  let a : State := s.generalRelease.augerAborted
  have toA : Touches (withdrawFacets ++ augerFacets) s a := s.generalRelease_touches.mono.trans (State.augerAborted_touches _).mono
  have releasedA : a.released := (State.augerAborted_touches _).released s.generalRelease_released
  have augerA : a.ice.auger = .idle := State.augerAborted_idle _
  obtain ⟨stateB, toB, keepsB⟩ := a.showroomDefrost_facts
  let b : State := a.showroomDefrost
  have barred : b.barsHarvest := .inr ((toB.at .mode).trans ((toA.at .mode).trans showroom))
  obtain ⟨molds, keepsC⟩ := State.abortMolds_facts barred
  let c : State := b.abortMolds
  have toC : Touches abortsFacets b c := b.abortMolds_touches
  have toT : Touches stopFacets c c.stopDispense := c.stopDispense_touches
  have auger : Facet.kept .auger a c.stopDispense :=
    (Facet.kept_trans .auger ((toB.at .auger)) (toC.at .auger)) |> fun h => Facet.kept_trans .auger h (toT.at .auger)
  have defrost : c.stopDispense.defrost = b.defrost := (toT.at .defrost).trans (toC.at .defrost)
  have run : s.enterShowroom = c.stopDispense := rfl
  rw [run]
  refine ⟨toT.released (keepsC (keepsB releasedA)), c.stopDispense_dispense, auger.1.trans augerA, fun m => ?_, ?_⟩
  · rw [show c.stopDispense.mold m = c.mold m from toT.at (.mold m) (by cases m <;> decide)]
    exact molds m
  · rw [defrost]
    exact stateB

/-! ### SET_MODE (R188, R189) -/

theorem State.exitMode_fault (s : State) (old : OpMode) : (s.exitMode old).fault = s.fault := by
  unfold State.exitMode State.startTestIdle
  split
  · exact s.clearTests_touches.at .fault
  · split
    · exact s.startTest_touches.at .fault
    · rfl
  · rfl

theorem State.enterMode_fault (s : State) (new : OpMode) : (s.enterMode new).fault = s.fault := by
  unfold State.enterMode
  split
  · exact s.enterShowroom_enters.at .fault
  · rfl

/-- The mode with its layers, and the exit and entry effects. -/
def State.modeEntered (s : State) (new : OpMode) : State := ((State.resolve { s with mode := new }).exitMode s.mode).enterMode new

theorem State.changeMode_eq (s : State) (new : OpMode) : s.changeMode new =
    (s.modeEntered new).leaveTest.holdTests.write .mode (new.code : Nat) := rfl

/-- No change of mode touches the fault unit. -/
theorem State.changeMode_fault (s : State) (new : OpMode) : (s.changeMode new).fault = s.fault := by
  have entered : (s.modeEntered new).fault = s.fault := (State.enterMode_fault _ new).trans
    ((State.exitMode_fault _ s.mode).trans ((State.resolve_touches _).at .fault))
  rw [State.changeMode_eq]
  generalize s.modeEntered new = u at *
  have tested : u.leaveTest.holdTests.fault = u.fault := (u.leaveTest.holdTests_touches.at .fault).trans (u.leaveTest_touches.at .fault)
  exact ((State.write_touches _ _ _).at .fault).trans (tested.trans entered)

theorem mode_unreported : OwnTag.mode.unreported := (unreported_iff _).mpr (by decide)

theorem State.changeMode_own (s : State) (new : OpMode) : (s.changeMode new).own .mode = (new.code : Nat) := by
  rw [State.changeMode_eq, State.own_write _ _ _ mode_unreported, if_pos rfl]

/-- At SHOWROOM everything is released, and neither a defrost nor a harvest goes on from there. -/
theorem State.changeMode_showroom (s : State) : (s.changeMode .showroom).released ∧ (s.changeMode .showroom).water.dispense = none ∧
    (s.changeMode .showroom).ice.auger = .idle ∧ (∀ m : Mold, ((s.changeMode .showroom).mold m).state.inHarvest = false) ∧
    ((s.changeMode .showroom).defrost.state = .idle ∨ (s.changeMode .showroom).defrost.state = .pending ∨
      (s.changeMode .showroom).defrost.state = .drip ∨ (s.changeMode .showroom).defrost.state = .recovery) := by
  let v : State := (State.resolve { s with mode := .showroom }).exitMode s.mode
  have toV : Touches (.tests :: eventFacets) (State.resolve { s with mode := .showroom }) v := State.exitMode_touches _ _
  have showroom : v.mode = .showroom := (toV.at .mode).trans ((State.resolve_touches _).at .mode)
  obtain ⟨released, dispense, auger, molds, defrost⟩ := State.enterShowroom_facts showroom
  let u : State := v.enterShowroom
  have mode : u.mode = .showroom := (v.enterShowroom_touches.at .mode).trans showroom
  have stays : u.leaveTest = u := State.leaveTest_of_stays fun ⟨_, other, _⟩ => other mode
  have held : u.harvestHeld = true := State.harvestHeld_of_barred (.inr mode)
  have waits : u.holdTests = u := by
    rw [State.holdTests, State.holdTestMold_of_held held, State.holdTestMold_of_held held]
  have run : s.changeMode .showroom = u.write .mode (OpMode.showroom.code : Nat) := by
    rw [State.changeMode_eq]
    show (u.leaveTest.holdTests).write .mode _ = _
    rw [stays, waits]
  have toT : Touches (writeFacets .mode) u (u.write .mode (OpMode.showroom.code : Nat)) := u.write_touches _ _
  rw [run]
  exact ⟨toT.released released, (Facet.kept_trans .dispense (Facet.kept_refl .dispense u) (toT.at .dispense)).1.trans dispense,
    (Facet.kept_trans .auger (Facet.kept_refl .auger u) (toT.at .auger)).1.trans auger,
    fun m => by rw [show _ = u.mold m from toT.at (.mold m) (by cases m <;> decide)]; exact molds m,
    by rw [show _ = u.defrost from toT.at .defrost]; exact defrost⟩

theorem opModeOf_code (m : OpMode) : opModeOf m.code = some m := by cases m <;> rfl

theorem opModeOf_of_large {n : Nat} (h : 3 < n) : opModeOf n = none := by
  match n with
  | n + 4 => rfl

/-! ### One flag cleared (R174, R178) -/

/-- The condition of a fault is a matter of the sensors, the switches, the outputs, the meter and the line's mode. -/
theorem Touches.conditionHolds {P : List Facet} {s t : State} (h : Touches P s t) (f : FaultId)
    (apart : autoParam (∀ x ∈ [Facet.switches, .closed, .outputs, .sensors, .wire, .own .evapTemp, .own .moldATemp, .own .moldBTemp],
      x ∉ P) Rat.normalize._auto_1) : t.conditionHolds f = s.conditionHolds f := by
  have switches : t.switches = s.switches := h .switches (apart _ (by simp))
  have sensors : t.sensors = s.sensors := h .sensors (apart _ (by simp))
  have out : t.out = s.out := h .outputs (apart _ (by simp))
  obtain ⟨estimated, -, hold⟩ : Facet.kept .closed s t := h .closed (apart _ (by simp))
  obtain ⟨-, -, -, -, mode, -⟩ := WireKept.fields (h .wire (apart _ (by simp)))
  have evap : t.own .evapTemp = s.own .evapTemp := h (.own .evapTemp) (apart _ (by simp))
  have moldA : t.own .moldATemp = s.own .moldATemp := h (.own .moldATemp) (apart _ (by simp))
  have moldB : t.own .moldBTemp = s.own .moldBTemp := h (.own .moldBTemp) (apart _ (by simp))
  have lost (c : Channel) : t.sensorLost c = s.sensorLost c := by rw [State.sensorLost, State.sensorLost, sensors]
  have above (c : Channel) (own : t.own c.tag = s.own c.tag) (limit : Int) : t.tempAbove c limit = s.tempAbove c limit := by
    rw [State.tempAbove, State.tempAbove, State.substituted, State.substituted, sensors, own]
  have on (o : Output) : t.isOn o = s.isOn o := by
    rw [State.isOn, State.isOn, State.resolved, State.resolved, State.channel, State.channel, out]
  have over' (o : Output) : t.overtempOf o = s.overtempOf o := by
    unfold State.overtempOf
    rw [on, above .evap evap, above .moldA moldA, above .moldB moldB]
  cases f with
  | leak => exact congrArg (·.leak.level) switches
  | runaway => exact congrArg Option.isSome hold
  | overtemp => rw [State.conditionHolds, State.conditionHolds, switches, funext over']
  | sensorEvap => exact lost .evap
  | sensorFreezer => exact lost .freezerAir
  | sensorMoldA => exact lost .moldA
  | sensorMoldB => exact lost .moldB
  | flowSilent => exact estimated
  | linkStuck => exact congrArg (· == LineMode.stuck) mode
  | noWater | ejectorStall | defrostOvertime | holdRefused | addressClash | imageDefaulted => rfl

theorem State.clearFlag_condition (s : State) (f g : FaultId) : (s.clearFlag f).conditionHolds g = s.conditionHolds g :=
  (s.clearFlag_touches f).conditionHolds g (by cases f <;> decide)

theorem State.freeRecord_flags (s : State) (f : FaultId) : (s.freeRecord f).fault.aFlags = s.fault.aFlags ∧
    (s.freeRecord f).fault.bFlags = s.fault.bFlags := by
  unfold State.freeRecord
  split
  · split <;> exact ⟨rfl, rfl⟩
  · exact ⟨rfl, rfl⟩

/-- A flag whose condition holds stays, and so do the others. -/
theorem State.clearFlag_of_holds {s : State} {f : FaultId} (holds : s.conditionHolds f = true) :
    (s.clearFlag f).fault.aFlags = s.fault.aFlags ∧ (s.clearFlag f).fault.bFlags = s.fault.bFlags := by
  have holds' : (s.freeRecord f).conditionHolds f = true := ((s.freeRecord_touches f).conditionHolds f).trans holds
  obtain ⟨freedA, freedB⟩ := s.freeRecord_flags f
  let u : State := ((s.freeRecord f).capture f).writeEvent (raiseEvent f)
  have written : u.fault = ((s.freeRecord f).capture f).fault := (State.writeEvent_touches _ _).at .fault
  have captured : ((s.freeRecord f).capture f).fault.aFlags = (s.freeRecord f).fault.aFlags ∧
      ((s.freeRecord f).capture f).fault.bFlags = (s.freeRecord f).fault.bFlags := by
    unfold State.capture
    split <;> exact ⟨rfl, rfl⟩
  have flagsU : u.fault.aFlags = s.fault.aFlags ∧ u.fault.bFlags = s.fault.bFlags := by
    rw [written]
    exact ⟨captured.1.trans freedA, captured.2.trans freedB⟩
  have run : s.clearFlag f = if f.isA then u.announce f else u := if_pos holds'
  rw [run]
  split
  · rw [State.announce_record]
    exact flagsU
  · exact flagsU

/-- A flag whose condition is gone is cleared. -/
theorem State.clearFlag_of_gone {s : State} {f : FaultId} (gone : s.conditionHolds f = false) :
    (s.clearFlag f).fault = (s.freeRecord f).fault.put f false := by
  have gone' : ¬ (s.freeRecord f).conditionHolds f = true :=
    ne_true_of_eq_false (((s.freeRecord_touches f).conditionHolds f).trans gone)
  have run : s.clearFlag f = State.writeFlags { s.freeRecord f with fault := (s.freeRecord f).fault.put f false } := if_neg gone'
  rw [run]
  rw [State.writeFlags_writeOnly]

theorem FaultUnit.isSet_of_flags {u v : FaultUnit} (a : u.aFlags = v.aFlags) (b : u.bFlags = v.bFlags) (f : FaultId) :
    u.isSet f = v.isSet f := by
  rw [FaultUnit.isSet, FaultUnit.isSet, a, b]

/-- Which flags are set after one was to be cleared. -/
theorem State.clearFlag_isSet (s : State) (f g : FaultId) : (s.clearFlag f).fault.isSet g =
    if g = f ∧ s.conditionHolds f = false then false else s.fault.isSet g := by
  obtain ⟨freedA, freedB⟩ := s.freeRecord_flags f
  cases holds : s.conditionHolds f with
  | true =>
    obtain ⟨a, b⟩ := State.clearFlag_of_holds holds
    rw [if_neg fun h => absurd h.2 (by decide)]
    exact FaultUnit.isSet_of_flags a b g
  | false =>
    rw [State.clearFlag_of_gone holds, FaultUnit.isSet_put, FaultUnit.isSet_of_flags freedA freedB]
    simp

/-! ### The last class A flag cleared (R174) -/

theorem State.unlockPath_path (s : State) : s.unlockPath.water.path ≠ .locked := by
  have idles (t : State) : (t.setPath .idle).water.path ≠ .locked := by rw [State.setPath_path]; decide
  have opens (t : State) (f : Fill) : (t.openFill f).water.path ≠ .locked := by rw [(t.openFill_facts f).1]; decide
  have tests (t : State) : t.startTest.water.path ≠ .locked := by
    unfold State.startTest
    split
    · split
      · exact opens _ _
      · exact opens _ _
      · exact idles _
    · exact idles _
  unfold State.unlockPath
  split
  · exact tests _
  · assumption

/-- The path is unlocked, and the notice repeat timer stopped. -/
theorem State.lastClassACleared_facts (s : State) : s.lastClassACleared.fault = { s.fault with noticeTimer := none } ∧
    s.lastClassACleared.water.path ≠ .locked := by
  let u : State := State.resolve { s with fault := { s.fault with noticeTimer := none } }
  have fault : u.fault = { s.fault with noticeTimer := none } := (State.resolve_touches _).at .fault
  have toV : Touches startTestFacets u u.unlockPath := u.unlockPath_touches
  have path := u.unlockPath_path
  have run : s.lastClassACleared = u.unlockPath.leaveTest.holdTests := rfl
  rw [run]
  generalize u.unlockPath = v at *
  have left : v.leaveTest.fault = v.fault ∧ v.leaveTest.water.path = v.water.path :=
    ⟨v.leaveTest_touches.at .fault, v.leaveTest_touches.at .path⟩
  have tested : v.leaveTest.holdTests.fault = v.leaveTest.fault ∧ v.leaveTest.holdTests.water.path = v.leaveTest.water.path :=
    ⟨v.leaveTest.holdTests_touches.at .fault, v.leaveTest.holdTests_touches.at .path⟩
  exact ⟨tested.1.trans (left.1.trans ((toV.at .fault).trans fault)), by rw [tested.2, left.2]; exact path⟩

theorem State.afterClear_isSet (s : State) (hadA : Bool) (g : FaultId) : (s.afterClear hadA).fault.isSet g = s.fault.isSet g := by
  unfold State.afterClear
  split
  · rw [s.lastClassACleared_facts.1]
    rfl
  · rfl

/-- A flag word below 8 without one of the three class A flags is 0. -/
theorem State.classA_of_none {s : State} (small : s.fault.aFlags.toNat < 8)
    (none : ∀ g : FaultId, g.isA = true → s.fault.isSet g = false) : s.classA = false := by
  have zero : s.fault.aFlags = 0 := by
    refine BitVec.eq_of_getLsbD_eq fun i _ => ?_
    refine Eq.trans ?_ (BitVec.getLsbD_zero (w := 16)).symm
    match i with
    | 0 => exact none .leak rfl
    | 1 => exact none .runaway rfl
    | 2 => exact none .overtemp rfl
    | i + 3 =>
      refine Nat.testBit_lt_two_pow (small.trans_le ?_)
      calc 8 = 2 ^ 3 := rfl
        _ ≤ 2 ^ (i + 3) := Nat.pow_le_pow_right (by decide) (by omega)
  rw [State.classA, zero]
  rfl

/-! ### CLEAR_FAULT with 0xFF (R179) -/

/-- Which flags are set after several were to be cleared: those whose condition holds stay. -/
theorem State.clearFlags_isSet (l : List FaultId) : ∀ (s : State) (g : FaultId), (l.foldl State.clearFlag s).fault.isSet g =
    if g ∈ l ∧ s.conditionHolds g = false then false else s.fault.isSet g := by
  induction l with
  | nil => intro s g; simp
  | cons f l ih =>
    intro s g
    rw [List.foldl_cons, ih, State.clearFlag_isSet, State.clearFlag_condition]
    by_cases same : g = f
    · subst same
      cases s.conditionHolds g <;> simp
    · simp [same]

theorem State.mem_takenByAll (s : State) (g : FaultId) : g ∈ s.takenByAll ↔ s.fault.isSet g = true ∧ s.passedOver g = false := by
  simp [State.takenByAll, mem_faultIds]

/-- The flags that CLEAR_FAULT with 0xFF leaves: those whose condition holds, and RUNAWAY where it is passed over. -/
theorem State.clearAll_isSet (s : State) (g : FaultId) : s.clearAll.1.fault.isSet g =
    (s.fault.isSet g && (s.conditionHolds g || s.passedOver g)) := by
  have cleared : s.clearAll.1 = (s.takenByAll.foldl State.clearFlag s).afterClear s.classA := rfl
  rw [cleared, State.afterClear_isSet, State.clearFlags_isSet]
  simp only [State.mem_takenByAll]
  cases s.fault.isSet g <;> cases s.passedOver g <;> cases s.conditionHolds g <;> rfl

/-- A flag that CLEAR_FAULT with 0xFF takes has its condition still. -/
def State.staysFor (s : State) (g : FaultId) : Prop :=
  s.fault.isSet g = true ∧ s.passedOver g = false ∧ s.conditionHolds g = true

/-- The answer to CLEAR_FAULT with 0xFF. -/
theorem State.clearAll_code (s : State) : ((∃ g, s.staysFor g) → s.clearAll.2 = 11) ∧
    ((¬ ∃ g, s.staysFor g) → s.fault.isSet .runaway = true → s.mode ≠ .service → s.clearAll.2 = 4) ∧
    ((¬ ∃ g, s.staysFor g) → s.fault.isSet .runaway = false ∨ s.mode = .service → s.clearAll.2 = 0) := by
  have still : s.takenByAll.any (s.takenByAll.foldl State.clearFlag s).fault.isSet = true ↔ ∃ g, s.staysFor g := by
    rw [List.any_eq_true]
    refine exists_congr fun g => ?_
    rw [State.clearFlags_isSet, State.staysFor]
    simp only [State.mem_takenByAll]
    cases s.fault.isSet g <;> cases s.passedOver g <;> cases s.conditionHolds g <;> simp
  have passed : (s.fault.isSet .runaway && s.passedOver .runaway) = true ↔ s.fault.isSet .runaway = true ∧ s.mode ≠ .service := by
    simp [State.passedOver]
  have code : s.clearAll.2 = if s.takenByAll.any (s.takenByAll.foldl State.clearFlag s).fault.isSet then 11
    else if s.fault.isSet .runaway && s.passedOver .runaway then 4 else 0 := rfl
  rw [code]
  refine ⟨fun stays => if_pos (still.mpr stays), fun none set mode => ?_, fun none either => ?_⟩
  · rw [if_neg (none ∘ still.mp)]
    exact if_pos (passed.mpr ⟨set, mode⟩)
  · rw [if_neg (none ∘ still.mp)]
    refine if_neg fun both => ?_
    obtain ⟨set, mode⟩ := passed.mp both
    rcases either with clear | service
    · exact absurd set (ne_true_of_eq_false clear)
    · exact mode service

end Sys2Proof.Machine
end

/-! PROOF. CLEAR_WATCH and FORCE_WATCH (R20, R24, R25). -/

section
namespace Sys2Proof.Machine

/-! ### Reports that no point hears (R25, R184) -/

/-- No watch point listens to the two words. -/
def State.unheard (s : State) : Prop := ∀ k : Fin 16, ∀ word : OwnTag, word = .watchStates ∨ word = .conditionFlags →
  s.image.watch[k].source ≠ some (.own word) ∧ s.image.watch[k].reference ≠ some (.own word)

/-- The two words stand as the blocks and the points do. -/
def State.wordsStand (s : State) : Prop := s.own .conditionFlags = s.conditionWord ∧ s.own .watchStates = s.watchWord

theorem State.notifyWatch_of_unheard {s : State} (unheard : s.unheard) {word : OwnTag} (is : word = .watchStates ∨ word = .conditionFlags) :
    s.notifyWatch (.own word) = s := by
  have deaf (i : Fin 16) : s.hear (.own word) i = s := by
    obtain ⟨source, reference⟩ := unheard i word is
    unfold State.hear
    dsimp only
    rw [if_neg reference, if_neg source]
  unfold State.notifyWatch
  split
  · simp [watchPoints, deaf]
  · rfl

/-- Taking a value for an own tag leaves the words' bases. -/
theorem State.putOwn_words (s : State) (t : OwnTag) (v : Int) : (s.putOwn t v).conditionWord = s.conditionWord ∧
    (s.putOwn t v).watchWord = s.watchWord ∧ (s.putOwn t v).watch = s.watch ∧ (s.putOwn t v).image = s.image ∧
    (s.putOwn t v).listening = s.listening := by
  unfold State.putOwn
  split <;> exact ⟨rfl, rfl, rfl, rfl, rfl⟩

/-- A word is brought up to date, and no point hears it. -/
theorem State.report_of_unheard {s : State} (unheard : s.unheard) (listening : s.listening = true) {word : OwnTag}
    (is : word = .watchStates ∨ word = .conditionFlags) (v : Int) : s.report word v = s.putOwn word v := by
  obtain ⟨-, -, -, image, -⟩ := s.putOwn_words word v
  have unheard' : (s.putOwn word v).unheard := fun k => by rw [image]; exact unheard k
  rw [State.report, listening, Bool.true_and]
  split
  · exact State.notifyWatch_of_unheard unheard' is
  · rename_i same
    exact (if_pos (by simpa using same)).symm

theorem State.reportsUpTo_of_stand {s : State} (stand : s.wordsStand) (n : Nat) : State.reportsUpTo n s = s := by
  have none' : s.reportOwed = none := by
    obtain ⟨condition, watch⟩ := stand
    rw [State.reportOwed, condition, watch]
    simp
  cases n with
  | zero => rfl
  | succ n => rw [State.reportsUpTo, none']

/-- The reports that no point hears bring both words up to date, and move nothing. -/
theorem State.reportWords_of_unheard {s : State} (unheard : s.unheard) (listening : s.listening = true) :
    s.reportWords.wordsStand ∧ s.reportWords.watch = s.watch := by
  have last (n : Nat) (t : State) (unheard : t.unheard) (listening : t.listening = true) (condition : t.own .conditionFlags = t.conditionWord) :
      (State.reportsUpTo (n + 1) t).wordsStand ∧ (State.reportsUpTo (n + 1) t).watch = t.watch := by
    by_cases watch : t.own .watchStates = t.watchWord
    · rw [State.reportsUpTo_of_stand ⟨condition, watch⟩]
      exact ⟨⟨condition, watch⟩, rfl⟩
    · obtain ⟨conditionWord, watchWord, kept, -, -⟩ := t.putOwn_words .watchStates t.watchWord
      have owed : t.reportOwed = some (t.putOwn .watchStates t.watchWord) := by
        rw [State.reportOwed, listening, condition, State.reportWatch, State.report_of_unheard unheard listening (.inl rfl)]
        simp [watch]
      have stand : (t.putOwn .watchStates t.watchWord).wordsStand := by
        rw [State.wordsStand, State.own_putOwn, State.own_putOwn, conditionWord, watchWord]
        exact ⟨condition, rfl⟩
      rw [State.reportsUpTo, owed]
      show (State.reportsUpTo n _).wordsStand ∧ (State.reportsUpTo n _).watch = _
      rw [State.reportsUpTo_of_stand stand]
      exact ⟨stand, kept⟩
  by_cases condition : s.own .conditionFlags = s.conditionWord
  · exact last 15 s unheard listening condition
  · obtain ⟨conditionWord, watchWord, kept, image, heard⟩ := s.putOwn_words .conditionFlags s.conditionWord
    have owed : s.reportOwed = some (s.putOwn .conditionFlags s.conditionWord) := by
      rw [State.reportOwed, listening, State.reportConditions, State.report_of_unheard unheard listening (.inr rfl)]
      simp [condition]
    have next := last 14 (s.putOwn .conditionFlags s.conditionWord) (fun k => by rw [image]; exact unheard k) (heard.trans listening)
      (by rw [State.own_putOwn, conditionWord]; rfl)
    have run : s.reportWords = State.reportsUpTo 15 (s.putOwn .conditionFlags s.conditionWord) := by
      show State.reportsUpTo (15 + 1) s = _
      rw [State.reportsUpTo, owed]
    rw [run, ← kept]
    exact next

/-! ### CLEAR_WATCH (R20) -/

/-- The record of a point taken from LATCHED. -/
def State.clearedRecord (s : State) (i : Fin 16) : WatchPoint :=
  clearedPoint s.image.watch[i] s.now (s.pointHolds i) { s.watch[i] with computed := .inactive }

theorem State.movePoint_writeOnly (s : State) (i : Fin 16) (w : WatchPoint) : WriteOnly s (s.movePoint i w) :=
  WriteOnly.trans (t := s.putWatch i w) rfl (State.reportWords_writeOnly _)

theorem State.clearPoint_writeOnly (s : State) (i : Fin 16) : WriteOnly s (s.clearPoint i) := by
  unfold State.clearPoint
  split
  · exact (s.movePoint_writeOnly i _).trans (State.movePoint_writeOnly _ i _)
  · exact .refl s

/-- A point moves where no point hears the words: the other points stay. -/
theorem State.movePoint_of_unheard {s : State} (unheard : s.unheard) (listening : s.listening = true) (i : Fin 16) (w : WatchPoint) :
    (s.movePoint i w).wordsStand ∧ (s.movePoint i w).watch = s.watch.set i w :=
  State.reportWords_of_unheard (s := s.putWatch i w) unheard listening

/-- Whether a source is valid is a matter of the sensors and the station view. -/
theorem State.sourceValue_isNone {s t : State} (sensors : t.sensors = s.sensors) (view : t.view = s.view) (src : Source) :
    (t.sourceValue src).isNone = (s.sourceValue src).isNone := by
  cases src with
  | own tag =>
    have valid : t.ownValid tag = s.ownValid tag := by
      unfold State.ownValid State.substituted
      rw [sensors]
    rw [State.sourceValue, State.sourceValue, valid]
    split <;> rfl
  | peer a tag => rw [State.sourceValue, State.sourceValue, State.peer, State.peer, State.record, State.record, view]

/-- Whether a point holds does not depend on the words. -/
theorem State.pointHolds_of_kept {s t : State} (only : WriteOnly s t) {i : Fin 16} (same : t.watch[i].known = s.watch[i].known) :
    t.pointHolds i = s.pointHolds i := by
  have image : t.image = s.image := by rw [only]
  have sensors : t.sensors = s.sensors := by rw [only]
  have view : t.view = s.view := by rw [only]
  have known : t.thresholdKnown i = s.thresholdKnown i := by rw [State.thresholdKnown, State.thresholdKnown, image, same]
  have value : (t.pointValue i).isNone = (s.pointValue i).isNone := by
    rw [State.pointValue, State.pointValue, image]
    split
    · exact State.sourceValue_isNone sensors view _
    · rfl
  rw [State.pointHolds, State.pointHolds, known, value]

/-- Where no point hears the words, CLEAR_WATCH at a point moves that point alone, from LATCHED. -/
theorem State.clearPoint_of_unheard {s : State} (unheard : s.unheard) (listening : s.listening = true) (i : Fin 16) :
    (s.watch[i].computed = .latched → (s.clearPoint i).wordsStand ∧ (s.clearPoint i).watch = s.watch.set i (s.clearedRecord i)) ∧
    (s.watch[i].computed ≠ .latched → s.clearPoint i = s) := by
  refine ⟨fun latched => ?_, fun other => if_neg other⟩
  let w : WatchPoint := { s.watch[i] with computed := .inactive }
  let t : State := s.movePoint i w
  have only : WriteOnly s t := s.movePoint_writeOnly i w
  obtain ⟨-, watch⟩ := State.movePoint_of_unheard unheard listening i w
  have image : t.image = s.image := by rw [only]
  have now : t.now = s.now := by rw [only]
  have start : t.start = s.start := by rw [only]
  have record : t.watch[i] = w := by rw [watch]; exact Vector.getElem_set_self _
  have holds : t.pointHolds i = s.pointHolds i := State.pointHolds_of_kept only (by rw [record])
  have run : s.clearPoint i = t.movePoint i (clearedPoint t.image.watch[i] t.now (t.pointHolds i) t.watch[i]) := if_pos latched
  obtain ⟨stand, watch'⟩ := State.movePoint_of_unheard (s := t) (fun k => by rw [image]; exact unheard k)
    (by rw [State.listening, start]; exact listening) i (s.clearedRecord i)
  rw [run, image, now, holds, record]
  refine ⟨stand, watch'.trans ?_⟩
  rw [watch, Vector.set_set]

/-- CLEAR_WATCH over several points leaves the words where they stood, or brings them up to date. -/
theorem State.clearPoints_writeOnly (l : List (Fin 16)) : ∀ s : State, WriteOnly s (l.foldl State.clearPoint s) := by
  induction l with
  | nil => exact .refl
  | cons i l ih => exact fun s => (s.clearPoint_writeOnly i).trans (ih _)

/-- What the record of a point becomes. -/
theorem State.clearPoint_record {s : State} (unheard : s.unheard) (listening : s.listening = true) (i k : Fin 16) :
    (s.clearPoint i).watch[k] = if k = i ∧ s.watch[k].computed = .latched then s.clearedRecord k else s.watch[k] := by
  obtain ⟨clears, stays⟩ := State.clearPoint_of_unheard unheard listening i
  by_cases latched : s.watch[i].computed = .latched
  · rw [(clears latched).2]
    by_cases same : k = i
    · subst same
      rw [if_pos ⟨rfl, latched⟩]
      exact Vector.getElem_set_self _
    · rw [if_neg fun h => same h.1]
      exact Vector.getElem_set_ne i.isLt k.isLt fun e => same (Fin.ext e).symm
  · rw [stays latched, if_neg]
    rintro ⟨rfl, latched'⟩
    exact latched latched'

/-- A point's cleared record depends on what clearing other points leaves. -/
theorem State.clearedRecord_of_kept {s t : State} (only : WriteOnly s t) {i : Fin 16} (same : t.watch[i] = s.watch[i]) :
    t.clearedRecord i = s.clearedRecord i := by
  have image : t.image = s.image := by rw [only]
  have now : t.now = s.now := by rw [only]
  rw [State.clearedRecord, State.clearedRecord, image, now, State.pointHolds_of_kept only (by rw [same]), same]

/-- Where no point hears the words, CLEAR_WATCH over several points moves those that are LATCHED, and no other. -/
theorem State.clearPoints_of_unheard {l : List (Fin 16)} (nodup : l.Nodup) : ∀ s : State, s.unheard → s.listening = true →
    (∀ i : Fin 16, (l.foldl State.clearPoint s).watch[i] =
      if i ∈ l ∧ s.watch[i].computed = .latched then s.clearedRecord i else s.watch[i]) ∧
    (s.wordsStand ∨ (∃ i ∈ l, s.watch[i].computed = .latched) → (l.foldl State.clearPoint s).wordsStand) := by
  induction l with
  | nil => exact fun s _ _ => ⟨fun i => by simp, fun h => by simpa using h⟩
  | cons i l ih =>
    intro s unheard listening
    obtain ⟨fresh, nodup⟩ := List.nodup_cons.mp nodup
    have only := s.clearPoint_writeOnly i
    have image : (s.clearPoint i).image = s.image := by rw [only]
    have start : (s.clearPoint i).start = s.start := by rw [only]
    have record := State.clearPoint_record unheard listening i
    obtain ⟨clears, stays⟩ := State.clearPoint_of_unheard unheard listening i
    obtain ⟨rest, stand⟩ := ih nodup (s.clearPoint i) (fun k => by rw [image]; exact unheard k)
      (by rw [State.listening, start]; exact listening)
    refine ⟨fun k => (rest k).trans ?_, fun stands => stand ?_⟩
    · by_cases same : k = i
      · subst same
        rw [if_neg fun h => fresh h.1, record]
        simp
      · have kept : (s.clearPoint i).watch[k] = s.watch[k] := (record k).trans (if_neg fun h => same h.1)
        rw [kept, State.clearedRecord_of_kept only kept]
        simp [same]
    · by_cases latched : s.watch[i].computed = .latched
      · exact .inl (clears latched).1
      · rw [stays latched]
        rcases stands with stands | ⟨k, mem, latched'⟩
        · exact .inl stands
        · rcases List.mem_cons.mp mem with rfl | mem
          · exact absurd latched' latched
          · exact .inr ⟨k, mem, latched'⟩

theorem State.clearedRecord_of_not_true {s : State} {i : Fin 16} (other : s.watch[i].condition ≠ .isTrue) :
    s.clearedRecord i = { s.watch[i] with computed := .inactive } := if_neg other

theorem State.clearedRecord_of_no_delay {s : State} {i : Fin 16} (true' : s.watch[i].condition = .isTrue)
    (none' : s.image.watch[i].makeDelay = 0) : s.clearedRecord i = { s.watch[i] with computed := .active } := by
  have moves : onTrueEvent s.image.watch[i] s.now { s.watch[i] with computed := .inactive } = { s.watch[i] with computed := .active } :=
    if_pos none'
  refine (if_pos true').trans ?_
  rw [moves]
  exact if_neg (by simp)

/-- The delay that starts is paused while the point holds. -/
theorem State.clearedRecord_of_delay {s : State} {i : Fin 16} (true' : s.watch[i].condition = .isTrue)
    (delay : s.image.watch[i].makeDelay ≠ 0) : s.clearedRecord i = { s.watch[i] with
      computed := .making
      delay := if s.pointHolds i then .paused (s.image.watch[i].makeDelay * 1000000)
        else .running (s.now + s.image.watch[i].makeDelay * 1000000) } := by
  have moves : onTrueEvent s.image.watch[i] s.now { s.watch[i] with computed := .inactive } =
      { s.watch[i] with computed := .making, delay := .running (s.now + s.image.watch[i].makeDelay * 1000000) } := if_neg delay
  refine (if_pos true').trans ?_
  rw [moves]
  cases s.pointHolds i with
  | false => rfl
  | true =>
    show ({ s.watch[i] with computed := .making, delay := _ } : WatchPoint) = _
    rw [DelayTimer.pause, Nat.add_sub_cancel_left]
    rfl

theorem pointOf_val (i : Fin 16) : pointOf i.val = some i := dif_pos i.isLt

theorem pointOf_of_large {n : Nat} (h : 16 ≤ n) : pointOf n = none := dif_neg (by omega)

theorem mem_watchPoints (i : Fin 16) : i ∈ watchPoints := by revert i; decide

/-- CLEAR_WATCH takes the points that its index names. -/
theorem State.actClearWatch_eq {req : Request} (s : State) (named : argAt req.args 0 < 16 ∨ argAt req.args 0 = 255) :
    ∃ l : List (Fin 16), l.Nodup ∧ (∀ i, i ∈ l ↔ argAt req.args 0 = 255 ∨ argAt req.args 0 = i.val) ∧
      s.actClearWatch req = (l.foldl State.clearPoint s, .plain resDone) := by
  unfold State.actClearWatch
  dsimp only
  rcases named with one | all
  · refine ⟨[⟨argAt req.args 0, one⟩], List.nodup_singleton _, fun i => ?_, ?_⟩
    · rw [List.mem_singleton, Fin.ext_iff]
      show i.val = argAt req.args 0 ↔ _
      omega
    · rw [if_neg (by omega), show pointOf (argAt req.args 0) = some ⟨argAt req.args 0, one⟩ from dif_pos one]
      rfl
  · refine ⟨watchPoints, by decide, fun i => ?_, if_pos all⟩
    exact ⟨fun _ => .inl all, fun _ => mem_watchPoints i⟩

theorem State.clearPoints_own (s : State) (l : List (Fin 16)) {tag : OwnTag} (states : tag ≠ .watchStates) (flags : tag ≠ .conditionFlags) :
    (l.foldl State.clearPoint s).own tag = s.own tag :=
  (s.clearPoints_touches l).at (.own tag) (by simp [wordFacets, states, flags])

/-! ### FORCE_WATCH (R24) -/

theorem forcedOf_of_large {n : Nat} (h : 2 < n) : forcedOf n = none := by
  match n with
  | n + 3 => rfl

theorem forcedOf_byte {n : Nat} {forced : Forced} (is : n = (match forced with | .none => 0 | .active => 1 | .inactive => 2)) :
    forcedOf n = some forced := by
  subst is
  cases forced <;> rfl

theorem State.putWatch_entered {s : State} {i : Fin 16} {w : WatchPoint} (after : w.effective = .active)
    (before : s.watch[i].effective ≠ .active) : Signal.watchEntered i ∈ (s.putWatch i w).agenda := by
  have signal : Signal.watchEntered i ∈ watchSignals i s.watch[i] w := by
    rw [watchSignals, after, if_pos (by simpa using before)]
    exact List.mem_append_left _ (.head _)
  exact List.mem_append_right _ signal

theorem State.running_of_passes {s : State} {kind : Nat} {req : Request} (passes : s.passes kind req) :
    (s.hears req.src).running = true := by
  obtain ⟨-, -, checked⟩ := passes
  by_contra before
  rw [State.firstFailure_eq, if_pos (eq_false_of_ne_true before)] at checked
  exact nomatch checked

theorem State.listening_of_running {s : State} (h : s.running = true) : s.listening = true := by
  rw [State.listening, show (s.start.state == .run) = true from h, Bool.or_true]

/-! ### CLEAR_FAULT of one code (R174, R178) -/

theorem faultOf_code (f : FaultId) : faultOf f.code = some f := by cases f <;> rfl

theorem actClearFault_of_code {req : Request} {s : State} {f : FaultId} (is : argAt req.args 0 = f.code) : s.actClearFault req =
    ((s.clearSingle f).1, { code := (s.clearSingle f).2, bytes := (s.clearSingle f).1.flagBytes }) := by
  have single : argAt req.args 0 ≠ 0xFF := by
    rw [is]
    cases f <;> decide
  unfold State.actClearFault
  dsimp only
  rw [if_neg single, is, faultOf_code]

theorem State.clearSingle_of_clear {s : State} {f : FaultId} (clear : s.fault.isSet f = false) : s.clearSingle f = (s, 0) :=
  if_pos (by rw [clear]; rfl)

theorem State.clearSingle_of_refused {s : State} {f : FaultId} (set : s.fault.isSet f = true) (runaway : f = .runaway)
    (mode : s.mode ≠ .service) : s.clearSingle f = (s, 4) :=
  (if_neg (by rw [set]; decide)).trans (if_pos ⟨runaway, mode⟩)

theorem State.clearSingle_of_holds {s : State} {f : FaultId} (set : s.fault.isSet f = true) (allowed : f = .runaway → s.mode = .service)
    (holds : s.conditionHolds f = true) : s.clearSingle f = (s.clearFlag f, 11) :=
  (if_neg (by rw [set]; decide)).trans ((if_neg fun h => h.2 (allowed h.1)).trans (if_pos holds))

theorem State.clearSingle_of_gone {s : State} {f : FaultId} (set : s.fault.isSet f = true) (allowed : f = .runaway → s.mode = .service)
    (gone : s.conditionHolds f = false) : s.clearSingle f = ((s.clearFlag f).afterClear s.classA, 0) :=
  (if_neg (by rw [set]; decide)).trans ((if_neg fun h => h.2 (allowed h.1)).trans (if_neg (ne_true_of_eq_false gone)))

/-- A flag cleared: it is clear, the others are as they were, and with the last class A flag the path is unlocked. -/
theorem State.clearedSingle_facts {s : State} {f : FaultId} (set : s.fault.isSet f = true) (gone : s.conditionHolds f = false) :
    ((s.clearFlag f).afterClear s.classA).fault.isSet f = false ∧
    (∀ g : FaultId, g ≠ f → ((s.clearFlag f).afterClear s.classA).fault.isSet g = s.fault.isSet g) ∧
    (f.isA = true → (∀ g : FaultId, g.isA = true → g ≠ f → s.fault.isSet g = false) → s.fault.aFlags.toNat < 8 →
      ((s.clearFlag f).afterClear s.classA).water.path ≠ .locked ∧ ((s.clearFlag f).afterClear s.classA).fault.noticeTimer = none) := by
  refine ⟨?_, fun g other => ?_, fun isA others small => ?_⟩
  · rw [State.afterClear_isSet, State.clearFlag_isSet, if_pos ⟨rfl, gone⟩]
  · rw [State.afterClear_isSet, State.clearFlag_isSet, if_neg fun h => other h.1]
  · have left : (s.clearFlag f).fault.aFlags.toNat < 8 := by
      rw [State.clearFlag_of_gone gone, FaultUnit.put, if_pos isA]
      refine Nat.lt_of_le_of_lt ?_ small
      rw [← (s.freeRecord_flags f).1]
      exact Nat.and_le_left
    have none' (g : FaultId) (gA : g.isA = true) : (s.clearFlag f).fault.isSet g = false := by
      rw [State.clearFlag_isSet]
      by_cases same : g = f
      · exact if_pos ⟨same, gone⟩
      · exact (if_neg fun h => same h.1).trans (others g gA same)
    have last : (s.clearFlag f).classA = false := State.classA_of_none left none'
    have run : (s.clearFlag f).afterClear s.classA = (s.clearFlag f).lastClassACleared :=
      if_pos (by rw [State.classA_of_isSet isA set, last]; rfl)
    obtain ⟨fault, path⟩ := (s.clearFlag f).lastClassACleared_facts
    rw [run, fault]
    exact ⟨path, rfl⟩

end Sys2Proof.Machine

open Sys2Proof Sys2Proof.Machine

/-- Settles O59: the modes, the flags and the points by the request that names them. -/
theorem modeFaultAndWatchRequestsAct : Obligations.ModeFaultAndWatchRequestsAct := by
  intro req s u n
  refine ⟨fun passes => ⟨fun large => ?_, fun same => ?_, fun mode is other => ?_⟩,
    fun passes => ⟨fun single unknown => ?_, fun f is => ?_, fun all => ?_⟩,
    fun passes => ⟨fun large single => ?_, fun named => ?_⟩,
    fun passes => ⟨fun bad => ?_, fun i forced is value => ?_⟩⟩
  · refine answers_of_act rfl passes ?_
    rw [State.actSetMode, opModeOf_of_large large]
    rfl
  · refine answers_of_act rfl passes ?_
    rw [State.actSetMode, show opModeOf (argAt req.args 0) = some (s.hears req.src).mode from (congrArg opModeOf same).trans (opModeOf_code _)]
    exact congrArg (·, Result.plain resDone) (if_pos rfl)
  · refine ⟨u.changeMode mode, answers_of_act rfl passes ?_, u.changeMode_mode mode, ?_, ?_, fun service o => ?_, fun showroom => ?_⟩
    · rw [State.actSetMode, show opModeOf (argAt req.args 0) = some mode from (congrArg opModeOf is).trans (opModeOf_code _)]
      exact congrArg (·, Result.plain resDone) (if_neg other)
    · rw [State.changeMode_own, is]
    · rw [State.changeMode_fault]
    · rw [State.changeMode_tests, if_pos service]
    · subst showroom
      exact u.changeMode_showroom
  · refine answers_of_act rfl passes ?_
    unfold State.actClearFault
    dsimp only
    rw [if_neg single, unknown]
    rfl
  · have acts : u.actClearFault req = ((u.clearSingle f).1, { code := (u.clearSingle f).2, bytes := (u.clearSingle f).1.flagBytes }) :=
      actClearFault_of_code is
    refine ⟨fun clear => ?_, fun set runaway mode => ?_, fun set allowed holds => ?_, fun set allowed gone => ?_⟩
    · rw [State.clearSingle_of_clear clear] at acts
      exact answers_of_act rfl passes acts
    · rw [State.clearSingle_of_refused set runaway mode] at acts
      exact answers_of_act rfl passes acts
    · rw [State.clearSingle_of_holds set allowed holds] at acts
      exact ⟨_, answers_of_act rfl passes acts, State.clearFlag_of_holds holds⟩
    · rw [State.clearSingle_of_gone set allowed gone] at acts
      exact ⟨_, answers_of_act rfl passes acts, State.clearedSingle_facts set gone⟩
  · obtain ⟨holds, refused, done⟩ := u.clearAll_code
    refine ⟨u.clearAll.1, u.clearAll.2, answers_of_act rfl passes (if_pos all), holds, refused, done, u.clearAll_isSet⟩
  · refine answers_of_act rfl passes ?_
    unfold State.actClearWatch
    dsimp only
    rw [if_neg single, pointOf_of_large large]
    rfl
  · obtain ⟨l, nodup, mem, acts⟩ := u.actClearWatch_eq (req := req) named
    have only : WriteOnly u (l.foldl State.clearPoint u) := State.clearPoints_writeOnly l u
    refine ⟨l.foldl State.clearPoint u, answers_of_act rfl passes acts, only, fun tag => u.clearPoints_own l, fun unheard => ?_⟩
    obtain ⟨record, stand⟩ := State.clearPoints_of_unheard nodup u unheard (State.listening_of_running (State.running_of_passes passes))
    have now : u.now = s.now := s.hears_now req.src
    refine ⟨fun i selected latched => stand (.inr ⟨i, (mem i).mpr selected, latched⟩), fun i => ⟨fun stays => ?_, fun selected latched => ?_⟩⟩
    · refine (record i).trans (if_neg fun h => ?_)
      rcases stays with ⟨notAll, notOne⟩ | other
      · rcases (mem i).mp h.1 with all | one
        · exact notAll all
        · exact notOne one
      · exact other h.2
    · have cleared : (l.foldl State.clearPoint u).watch[i] = u.clearedRecord i :=
        (record i).trans (if_pos ⟨(mem i).mpr selected, latched⟩)
      rw [cleared, ← now]
      exact ⟨State.clearedRecord_of_not_true, State.clearedRecord_of_no_delay, State.clearedRecord_of_delay⟩
  · refine answers_of_act rfl passes ?_
    unfold State.actForceWatch
    rcases bad with large | large
    · rw [pointOf_of_large large]
      rfl
    · rw [forcedOf_of_large large]
      cases pointOf (argAt req.args 0) <;> rfl
  · refine ⟨u.putWatch i { u.watch[i] with forced := forced }, answers_of_act rfl passes ?_, rfl, rfl, fun active before => ?_⟩
    · unfold State.actForceWatch
      rw [show pointOf (argAt req.args 0) = some i from (congrArg pointOf is).trans (pointOf_val i), forcedOf_byte value]
      rfl
    · exact State.putWatch_entered (by rw [active]; rfl) before
end
